-- ==== Sys2Proof/Word.lean ====
section
/-! DEFINITION. The plain word types, the shape of an instruction word and the small records that the moves of the
other agents carry (00_scope R3-R4, 13 R296-R299, 02 R32-R41, 01 R24). Types only: what reads and writes their fields
stands under Machine/. -/

namespace Sys2Proof

/-- One byte (R4). -/
abbrev Byte := BitVec 8
/-- A 32-bit word. -/
abbrev Word32 := BitVec 32
/-- A 64-bit word: an s-register, an address while it is computed, a 64-bit register. -/
abbrev Word64 := BitVec 64

/-- The operand field of an instruction word, by its kind (R298). -/
inductive Operand where
  /-- kind 00: a register of class `cls`, its ten modifier bits [17:8] and its number [7:0] -/
  | reg (cls : BitVec 4) (mods : BitVec 10) (num : BitVec 8)
  /-- kind 01: a 22-bit immediate, sign- or zero-extended by the instruction -/
  | imm (v : BitVec 22)
  /-- kind 10: s[base] + sext(offset) -/
  | mem (base : BitVec 6) (off : BitVec 16)
  /-- kind 11: half of a 44-bit wide immediate -/
  | wide (v : BitVec 22)
  deriving DecidableEq, Repr

/-- What every instruction word carries beside its opcode (R296): the guard, the hint and the three operand fields. -/
structure Ins where
  /-- guard negate, bit 85 -/
  gn  : Bool
  /-- guard predicate, bits [84:81] -/
  gp  : BitVec 4
  /-- stall count, bits [80:77] -/
  st  : BitVec 4
  /-- yield, bit 76 -/
  yd  : Bool
  /-- operand reuse A, bit 75 -/
  ra  : Bool
  /-- operand reuse B, bit 74 -/
  rb  : Bool
  /-- end of phase, bit 73 -/
  eop : Bool
  /-- destination field, bits [71:48] -/
  d   : Operand
  /-- first source field, bits [47:24] -/
  a   : Operand
  /-- second source field, bits [23:0] -/
  b   : Operand
  deriving DecidableEq, Repr

/-- Why a 96-bit word decodes to no instruction (R327). PRIV is decided by the state of the slot, not by decoding. -/
inductive Reject where
  /-- all 96 bits zero -/
  | zeroWord
  /-- OPC not assigned by R321 -/
  | illegalOp
  /-- a field, kind, class, modifier or bit 72 that the map does not admit -/
  | reserved
  deriving DecidableEq, Repr

/-- The 32 element formats, in the order of their codes 0x00 to 0x1F (R268). -/
inductive Fmt where
  | f32 | f16 | bf16 | f8e4 | f8e5 | f6e3 | f6e2 | f4 | i32 | i16 | i8 | i4 | i2 | z32 | z16 | z8 | z4 | tern | b32f8e4 | b32f8e5 | b32f6e3 | b32f6e2 | b32f4 | b32i8 | b16f4 | q4n | b64mix | e8m0 | f32x3 | i8zp | z2 | i64
  deriving DecidableEq, Repr

/-- A scope of R8, by its SCOPE code (R325). -/
inductive Scope where
  | lane | core | tile | clu | die | dev | pod
  deriving DecidableEq, Repr

/-- A function of the readiness map (R24). -/
inductive Func where
  | clu (c : Nat) | hbm (s : Nat) | sds (g : Nat) | opt (p : Nat) | nmc | dcr (d : Nat) | tscf (c : Nat)
  | oec (d : Nat) | sgc (g : Nat)
  deriving DecidableEq, Repr

/-- A flit's header (R32). -/
structure Flit where
  typ  : BitVec 4
  seq  : BitVec 12
  ack  : BitVec 12
  dst  : BitVec 9
  src  : BitVec 9
  path : BitVec 4
  hop  : BitVec 2
  tag  : BitVec 12
  deriving DecidableEq, Repr

/-- The request descriptor of R41, words 0 and 1, with the data a store or an atomic carries. -/
structure Request where
  w0   : Word64
  w1   : Word64
  data : List Byte
  deriving DecidableEq, Repr

/-- The states of the cluster directory's requests from a tile (R207). -/
inductive CohReq where
  | rds | rdx | upg
  deriving DecidableEq, Repr

/-- The kinds of a probe (R204, R207). -/
inductive ProbeKind where
  | invalidate | downgrade | recall | forward
  deriving DecidableEq, Repr

/-- One entry of a route configuration (R39): destination, eligible egress ports, reserved rate, longest route in hops,
transit reservation asked on each port. -/
structure RouteEntry where
  dst     : Nat
  ports   : BitVec 16
  res     : Nat
  hops    : Nat
  /-- for flits in transit: the egress port of each PATH -/
  via     : List (Nat × Nat)
  /-- the ports of other packages that the paths cross: first egress port, and the port's key among the learnt bounds -/
  cross   : List (Nat × Nat)
  deriving DecidableEq, Repr

end Sys2Proof
end

