-- ==== Sys2Proof/Config.lean ====
section
/-! DEFINITION. What the specification leaves to the implementation: opaque constants without a body. Nothing can be proved
of their values (notes/assumptions 2). -/

namespace Sys2Proof

/-- A free 64-bit value: the `n`-th that a run takes from the implementation (log 2). -/
opaque Config.freeWord : Nat → Word64

/-- Nanoseconds that pass with the `n`-th step (log 3): the specification gives no time per instruction in free mode. -/
opaque Config.nsOfStep : Nat → Nat

/-- Arithmetic cycles of a core that pass with the `n`-th step (log 3). -/
opaque Config.cyclesOfStep : Nat → Nat

/-- The address space of the translation firmware of cluster `c`, which the specification does not name (log 9). -/
opaque Config.tscAsid : Nat → BitVec 16

/-- The sections of a fatal dump: unit kind, unit index and contents, made of what the units hold, in a form that the specification
leaves open (log 5). -/
opaque Config.dumpSections : List Word64 → List (Nat × Nat × List Byte)

end Sys2Proof
end

