-- ==== Sys2Proof/Machine/Bits.lean ====
section
/-! DEFINITION. Bit slices, sign extension, byte order and the sparse tables of the model (00_scope R3, R4). -/

namespace Sys2Proof.Machine

/-- `x[hi:lo]` (R3), as a word of its own width. -/
abbrev bits {n : Nat} (x : BitVec n) (hi lo : Nat) : BitVec (hi - lo + 1) := x.extractLsb hi lo

/-- `x[hi:lo]` as a number. -/
def fld {n : Nat} (x : BitVec n) (hi lo : Nat) : Nat := (x.toNat >>> lo) % 2 ^ (hi - lo + 1)

/-- Bit `i` of `x`. -/
abbrev bit {n : Nat} (x : BitVec n) (i : Nat) : Bool := x.getLsbD i

/-- `x` with the bits [lo + w - 1 : lo] replaced by `v`. -/
def setFld {n : Nat} (x : BitVec n) (lo w : Nat) (v : Nat) : BitVec n :=
  let mask := BitVec.ofNat n ((2 ^ w - 1) <<< lo)
  (x &&& ~~~mask) ||| (BitVec.ofNat n ((v % 2 ^ w) <<< lo))

/-- `x` with bit `i` set to `b`. -/
def setBit {n : Nat} (x : BitVec n) (i : Nat) (b : Bool) : BitVec n := setFld x i 1 b.toNat

/-- `sext(x, w)` of R318: the low `w` bits of `x`, sign-extended to 64 bits. -/
def sext (x : BitVec 64) (w : Nat) : BitVec 64 := (x.setWidth w).signExtend 64

/-- `zext(x, w)` of R318: the low `w` bits of `x`, zero-extended to 64 bits. -/
def zext (x : BitVec 64) (w : Nat) : BitVec 64 := (x.setWidth w).setWidth 64

/-- The low `w` bits of a 64-bit word as a signed number. -/
def signedOf (x : BitVec 64) (w : Nat) : Int := (x.setWidth w).toInt

/-- The low `w` bits of a 64-bit word as an unsigned number. -/
def unsignedOf (x : BitVec 64) (w : Nat) : Nat := (x.setWidth w).toNat

/-- The bytes of `n`, lowest first, `k` of them (R4). -/
def bytesOfNat : Nat → Nat → List Byte
  | 0, _ => []
  | k + 1, n => BitVec.ofNat 8 n :: bytesOfNat k (n >>> 8)

/-- The number whose bytes these are, lowest first (R4). -/
def natOfBytes : List Byte → Nat
  | [] => 0
  | b :: bs => b.toNat + (natOfBytes bs <<< 8)

/-- The number of set bits among the low `n`. -/
def popCount {w : Nat} (x : BitVec w) : Nat → Nat
  | 0 => 0
  | n + 1 => popCount x n + (bit x n).toNat

/-- The least `i < n` for which `f i` holds, or `n` when there is none. -/
def findFrom (f : Nat → Bool) (i : Nat) : Nat → Nat
  | 0 => i
  | n + 1 => if f i then i else findFrom f (i + 1) n

/-- The index of the lowest set bit among the low `n`; `n` when there is none. -/
def lowestSet {w : Nat} (x : BitVec w) (n : Nat) : Nat := findFrom (fun i => bit x i) 0 n

/-- `⌈a / b⌉`. -/
def cdiv (a b : Nat) : Nat := (a + b - 1) / b

/-- A sparse table: entries with rising keys; an absent key stands for the component's reset value. -/
abbrev Tbl (α : Type) := List (Nat × α)

/-- The entry of key `k`. -/
def Tbl.get? {α : Type} (t : Tbl α) (k : Nat) : Option α := (t.find? fun e => e.1 == k).map Prod.snd

/-- The entry of key `k`, or `d` when the table lists none. -/
def Tbl.get {α : Type} (t : Tbl α) (k : Nat) (d : α) : α := (Tbl.get? t k).getD d

/-- The table with entry `v` at key `k`, in rising order of keys. -/
def Tbl.set {α : Type} (t : Tbl α) (k : Nat) (v : α) : Tbl α :=
  match t with
  | [] => [(k, v)]
  | (j, u) :: r => if k < j then (k, v) :: (j, u) :: r else if k = j then (k, v) :: r else (j, u) :: Tbl.set r k v

/-- The table without key `k`. -/
def Tbl.erase {α : Type} (t : Tbl α) (k : Nat) : Tbl α := t.filter fun e => e.1 != k

/-- The keys in force. -/
def Tbl.keys {α : Type} (t : Tbl α) : List Nat := t.map Prod.fst

/-- The list with element `i` replaced; unchanged when it has no element `i`. -/
abbrev setAt {α : Type} (l : List α) (i : Nat) (v : α) : List α := l.set i v

/-- Is `l` in strictly rising order? -/
def rising : List Nat → Bool
  | [] => true
  | a :: r => (match r with | [] => true | b :: _ => decide (a < b)) && rising r

/-- `n` put into a rising list, once. -/
def insertNat (n : Nat) : List Nat → List Nat
  | [] => [n]
  | a :: r => if n < a then n :: a :: r else if n = a then a :: r else a :: insertNat n r

end Sys2Proof.Machine
end

