-- ==== Sys2Proof/Machine/Formats.lean ====
section
/-! DEFINITION. The element formats' codes, widths and families (12_number_formats R268, R276). -/

namespace Sys2Proof
open Sys2Proof.Machine

/-- The 5-bit code of a format (R268). -/
def Fmt.code : Fmt → Nat
  | .f32 => 0
  | .f16 => 1
  | .bf16 => 2
  | .f8e4 => 3
  | .f8e5 => 4
  | .f6e3 => 5
  | .f6e2 => 6
  | .f4 => 7
  | .i32 => 8
  | .i16 => 9
  | .i8 => 10
  | .i4 => 11
  | .i2 => 12
  | .z32 => 13
  | .z16 => 14
  | .z8 => 15
  | .z4 => 16
  | .tern => 17
  | .b32f8e4 => 18
  | .b32f8e5 => 19
  | .b32f6e3 => 20
  | .b32f6e2 => 21
  | .b32f4 => 22
  | .b32i8 => 23
  | .b16f4 => 24
  | .q4n => 25
  | .b64mix => 26
  | .e8m0 => 27
  | .f32x3 => 28
  | .i8zp => 29
  | .z2 => 30
  | .i64 => 31

/-- All formats, in the order of their codes. -/
def Fmt.all : List Fmt := [.f32, .f16, .bf16, .f8e4, .f8e5, .f6e3, .f6e2, .f4, .i32, .i16, .i8, .i4, .i2, .z32, .z16, .z8, .z4, .tern, .b32f8e4, .b32f8e5, .b32f6e3, .b32f6e2, .b32f4, .b32i8, .b16f4, .q4n, .b64mix, .e8m0, .f32x3, .i8zp, .z2, .i64]

/-- The format of a 5-bit code: every code is assigned (R268). -/
def Fmt.ofCode (n : Nat) : Fmt := (Fmt.all[n % 32]?).getD .f32

/-- Bits one element occupies in a register (R268). -/
def Fmt.container : Fmt → Nat
  | .f32 | .i32 | .z32 | .f32x3 => 32
  | .f16 | .bf16 | .i16 | .z16 => 16
  | .f8e4 | .f8e5 | .f6e3 | .f6e2 | .i8 | .z8 | .b32f8e4 | .b32f8e5 | .b32f6e3 | .b32f6e2 | .b32i8 | .b64mix | .e8m0 | .i8zp => 8
  | .f4 | .i4 | .z4 | .b32f4 | .b16f4 | .q4n => 4
  | .i2 | .tern | .z2 => 2
  | .i64 => 64

/-- Bits one element occupies in memory (R268). -/
def Fmt.memBits : Fmt → Nat
  | .f32 | .i32 | .z32 | .f32x3 => 32
  | .f16 | .bf16 | .i16 | .z16 => 16
  | .f8e4 | .f8e5 | .i8 | .z8 | .b32f8e4 | .b32f8e5 | .b32i8 | .b64mix | .e8m0 | .i8zp => 8
  | .f6e3 | .f6e2 | .b32f6e3 | .b32f6e2 => 6
  | .f4 | .i4 | .z4 | .b32f4 | .b16f4 | .q4n => 4
  | .i2 | .tern | .z2 => 2
  | .i64 => 64

/-- Elements in a vector register (R269). -/
def Fmt.count (f : Fmt) : Nat := 2048 / Fmt.container f

/-- The signed integer formats. -/
def Fmt.isI (f : Fmt) : Bool := f ∈ [Fmt.i32, .i16, .i8, .i4, .i2, .i64]

/-- The unsigned integer formats. -/
def Fmt.isZ (f : Fmt) : Bool := f ∈ [Fmt.z32, .z16, .z8, .z4, .z2]

/-- Signed or unsigned integers. -/
def Fmt.isInt (f : Fmt) : Bool := Fmt.isI f || Fmt.isZ f

/-- The formats whose elements go with a per-block companion and that VCVT admits (R276, R395). -/
def Fmt.isBlock (f : Fmt) : Bool := f ∈ [Fmt.b32f8e4, .b32f8e5, .b32f6e3, .b32f6e2, .b32f4, .b32i8, .b16f4, .i8zp]

/-- The formats that MLDB loads with a companion image (R406). -/
def Fmt.hasCompanion (f : Fmt) : Bool := Fmt.isBlock f || f == .q4n || f == .b64mix

/-- The element format beneath a block-scaled format (R276); the format itself otherwise. -/
def Fmt.element : Fmt → Fmt
  | .b32f8e4 => .f8e4 | .b32f8e5 => .f8e5 | .b32f6e3 => .f6e3 | .b32f6e2 => .f6e2
  | .b32f4 => .f4 | .b32i8 => .i8 | .b16f4 => .f4 | .i8zp => .i8 | .f32x3 => .f32 | f => f

/-- Elements per block of a block-scaled format (R276). -/
def Fmt.block : Fmt → Nat
  | .b16f4 => 16 | _ => 32

/-- The format of a block-scaled format's companions (R276, R395). -/
def Fmt.companion : Fmt → Fmt
  | .b16f4 => .f8e4 | .i8zp => .i8 | _ => .e8m0

/-- The formats that have infinities (R270). -/
def Fmt.hasInf (f : Fmt) : Bool := Fmt.element f ∈ [Fmt.f32, .f16, .bf16, .f8e5]

/-- AF of R384. -/
def Fmt.isAF (f : Fmt) : Bool := f ∈ [Fmt.f32, .f16, .bf16, .i32, .i16, .i8, .z32, .z16, .z8]

/-- The formats of the scalar and element-wise float instructions (R338, R389, R392). -/
def Fmt.isFloat3 (f : Fmt) : Bool := f ∈ [Fmt.f32, .f16, .bf16]

/-- The formats FCVT admits (R342). -/
def Fmt.isFcvt (f : Fmt) : Bool :=
  f ∈ [Fmt.f32, .f16, .bf16, .f8e4, .f8e5, .f6e3, .f6e2, .f4, .e8m0, .i64, .i32, .i16, .i8, .z32, .z16, .z8]

end Sys2Proof
end

