-- ==== Sys2Proof/Machine/Float.lean ====
section
/-! DEFINITION. Exact values of the element formats, rounding, overflow, stochastic rounding, flags and the exact
operations on values (12_number_formats R270-R292). A value is exact: a sign and a fraction of naturals, an infinity or a
NaN; rounding happens once, at the end. -/

namespace Sys2Proof.Machine
open Sys2Proof

/-- An exact value: R11's unbounded arithmetic, with the signed zeros, infinities and NaNs of IEEE 754-2019. -/
inductive FVal where
  /-- (-1)^neg · n / d, with d > 0; n = 0 is a signed zero -/
  | fin (neg : Bool) (n d : Nat)
  /-- ±∞ -/
  | inf (neg : Bool)
  /-- NaN, signalling when `sig` -/
  | nan (sig : Bool)
  deriving DecidableEq, Repr

/-- The flags of R286, in their bit order: NX, UF, OF, DZ, NV, SAT. -/
abbrev Flags := BitVec 6
/-- inexact -/
def fNX : Flags := 1
/-- underflow: tiny and inexact -/
def fUF : Flags := 2
/-- overflow -/
def fOF : Flags := 4
/-- division of a finite nonzero value by zero -/
def fDZ : Flags := 8
/-- invalid -/
def fNV : Flags := 16
/-- a conversion result replaced by ±max finite -/
def fSAT : Flags := 32

/-- How a conversion rounds: to nearest with ties to even (R282), toward zero (R275), or by the LFSR state (R285). -/
inductive RMode where
  | rne
  | rz
  | sr (x : Nat)
  deriving DecidableEq, Repr

/-- What a conversion's modifiers ask for (R283, R284). -/
structure CvtOpt where
  mode : RMode
  sat  : Bool
  inf  : Bool
  nan  : Bool
  deriving DecidableEq, Repr

/-- The exponent bits, mantissa bits and bias of a floating-point element format (R270). -/
def fpParams : Fmt → Option (Nat × Nat × Nat)
  | .f32 => some (8, 23, 127)
  | .f16 => some (5, 10, 15)
  | .bf16 => some (8, 7, 127)
  | .f8e4 => some (4, 3, 7)
  | .f8e5 => some (5, 2, 15)
  | .f6e3 => some (3, 2, 3)
  | .f6e2 => some (2, 3, 1)
  | .f4 => some (2, 1, 1)
  | _ => none

/-- The pattern of +max finite of a floating-point element format (R270). -/
def maxPat : Fmt → Nat
  | .f32 => 0x7F7FFFFF
  | .f16 => 0x7BFF
  | .bf16 => 0x7F7F
  | .f8e4 => 0x7E
  | .f8e5 => 0x7B
  | .f6e3 => 0x1F
  | .f6e2 => 0x1F
  | .f4 => 0x7
  | _ => 0

/-- The canonical quiet NaN of a format that has NaN (R271); f8e4's is the one under `.nan`. -/
def canonNaN : Fmt → Nat
  | .f32 | .f32x3 => 0x7FC00000
  | .f16 => 0x7E00
  | .bf16 => 0x7FC0
  | .f8e5 => 0x7E
  | .f8e4 => 0x7F
  | .e8m0 => 0xFF
  | _ => 0

/-- 2^e · m as a fraction, for an exponent given as `pos - neg`. -/
def dyadic (neg : Bool) (m pos ng : Nat) : FVal :=
  if ng ≤ pos then .fin neg (m <<< (pos - ng)) 1 else .fin neg m (2 ^ (ng - pos))

/-- The value of the low bits of `x` in a floating-point element format (R270, R272). -/
def decFp (f : Fmt) (nanMode : Bool) (x : Nat) : FVal :=
  match fpParams f with
  | none => .fin false 0 1
  | some (eb, mb, bias) =>
    let s := x.testBit (eb + mb)
    let e := (x >>> mb) % 2 ^ eb
    let m := x % 2 ^ mb
    if f.hasInf && e == 2 ^ eb - 1 then
      if m == 0 then .inf s else .nan (!m.testBit (mb - 1))
    else if f == .f8e4 && e == 15 && m == 7 then
      if nanMode then .nan false else dyadic s 14 8 3
    else if e == 0 then dyadic s m 1 (bias + mb)
    else dyadic s (2 ^ mb + m) e (bias + mb)

/-- The integer of the low bits of `x` in an integer format (R274). -/
def decInt (f : Fmt) (x : Nat) : Int :=
  let w := f.memBits
  let u := x % 2 ^ w
  if f.isI && u.testBit (w - 1) then (u : Int) - 2 ^ w else (u : Int)

/-- An integer as a value. -/
def ofInt (i : Int) : FVal := .fin (decide (i < 0)) i.natAbs 1

/-- The codebook of q4n, in units of 1/128 (R278). -/
def codebook (q : Nat) : Int :=
  ([-128, -92, -70, -52, -37, -24, -12, 0, 11, 22, 34, 47, 62, 80, 101, 128] : List Int).getD (q % 16) 0

/-- The value of an element by its format's code; a block-scaled code gives the bare element (R270, R273, R274). -/
def decode (f : Fmt) (nanMode : Bool) (x : Nat) : FVal :=
  let f := f.element
  match fpParams f with
  | some _ => decFp f nanMode x
  | none =>
    match f with
    | .e8m0 => if x % 256 = 255 then .nan false else dyadic false 1 (x % 256) 127
    | .tern => if x % 4 = 1 then .fin false 1 1 else if x % 4 = 3 then .fin true 1 1 else .fin false 0 1
    | .q4n => .fin (decide (codebook x < 0)) (codebook x).natAbs 128
    | f => ofInt (decInt f x)

/-- Does the exact value's sign bit stand? -/
def FVal.neg : FVal → Bool
  | .fin s _ _ => s
  | .inf s => s
  | .nan _ => false

/-- Is the value a NaN? -/
def FVal.isNaN : FVal → Bool
  | .nan _ => true
  | _ => false

/-- Is the value a signalling NaN? -/
def FVal.isSig : FVal → Bool
  | .nan s => s
  | _ => false

/-- Is the value a zero of either sign? -/
def FVal.isZero : FVal → Bool
  | .fin _ n _ => n == 0
  | _ => false

/-- Is the value finite? -/
def FVal.isFin : FVal → Bool
  | .fin _ _ _ => true
  | _ => false

/-- NV when an operand is a signalling NaN (R271). -/
def sigFlags (l : List FVal) : Flags := if l.any FVal.isSig then fNV else 0

/-- -v. -/
def FVal.negate : FVal → FVal
  | .fin s n d => .fin (!s) n d
  | .inf s => .inf (!s)
  | v => v

/-- |v|. -/
def FVal.abs : FVal → FVal
  | .fin _ n d => .fin false n d
  | .inf _ => .inf false
  | v => v

/-- The signed numerator of a finite value. -/
def signedNum (s : Bool) (n : Nat) : Int := if s then -(n : Int) else (n : Int)

/-- The exact sum, IEEE 754-2019 specials; an exact zero is +0 unless both operands are -0 (R282, R292). -/
def vAdd (a b : FVal) : FVal × Flags :=
  let fl := sigFlags [a, b]
  match a, b with
  | .nan _, _ => (.nan false, fl)
  | _, .nan _ => (.nan false, fl)
  | .inf s, .inf t => if s = t then (.inf s, fl) else (.nan false, fNV)
  | .inf s, _ => (.inf s, fl)
  | _, .inf t => (.inf t, fl)
  | .fin s n d, .fin t m e =>
    let (x, q) := if e % d = 0 then (signedNum s (n * (e / d)) + signedNum t m, e)
      else if d % e = 0 then (signedNum s n + signedNum t (m * (d / e)), d)
      else (signedNum s (n * e) + signedNum t (m * d), d * e)
    if x = 0 then (.fin (s && t) 0 1, fl) else (.fin (decide (x < 0)) x.natAbs q, fl)

/-- The exact product; 0 · ∞ gives NaN and NV (R339). -/
def vMul (a b : FVal) : FVal × Flags :=
  let fl := sigFlags [a, b]
  match a, b with
  | .nan _, _ => (.nan false, fl)
  | _, .nan _ => (.nan false, fl)
  | .inf s, .inf t => (.inf (s != t), fl)
  | .inf s, .fin t n _ => if n = 0 then (.nan false, fNV) else (.inf (s != t), fl)
  | .fin s n _, .inf t => if n = 0 then (.nan false, fNV) else (.inf (s != t), fl)
  | .fin s n d, .fin t m e => (.fin (s != t) (n * m) (d * e), fl)

/-- The exact quotient; a finite nonzero value over zero gives ±∞ and DZ (R339). -/
def vDiv (a b : FVal) : FVal × Flags :=
  let fl := sigFlags [a, b]
  match a, b with
  | .nan _, _ => (.nan false, fl)
  | _, .nan _ => (.nan false, fl)
  | .inf _, .inf _ => (.nan false, fNV)
  | .inf s, .fin t _ _ => (.inf (s != t), fl)
  | .fin s _ _, .inf t => (.fin (s != t) 0 1, fl)
  | .fin s n d, .fin t m e =>
    if m = 0 then (if n = 0 then (.nan false, fNV) else (.inf (s != t), fDZ))
    else (.fin (s != t) (n * e) (d * m), fl)

/-- `a · b + c` exactly, one rounding to come (R339). -/
def vFma (a b c : FVal) : FVal × Flags :=
  let (p, f1) := vMul a b
  let (r, f2) := vAdd p c
  (r, f1 ||| f2)

/-- The bits of the root of `x`, from bit `k - 1` down. -/
def isqrtFrom (x r : Nat) : Nat → Nat
  | 0 => r
  | k + 1 => let t := r + 2 ^ k; isqrtFrom x (if t * t ≤ x then t else r) k

/-- `⌊√x⌋`. -/
def isqrt (x : Nat) : Nat := isqrtFrom x 0 (x.log2 / 2 + 1)

/-- √(n/d) as a fraction that rounds as the exact root does: 96 or more bits of the root, and a sticky bit below them. -/
def sqrtFrac (n d : Nat) : Nat × Nat :=
  let k := 96 + d.log2 / 2
  let x := (n <<< (2 * k)) / d
  let r := isqrt x
  let sticky := if r * r * d = n <<< (2 * k) then 0 else 1
  (2 * r + sticky, 2 ^ (k + 1))

/-- The square root; of -0 it is -0, of a negative nonzero value NaN with NV (R339). -/
def vSqrt (a : FVal) : FVal × Flags :=
  match a with
  | .nan s => (.nan false, if s then fNV else 0)
  | .inf true => (.nan false, fNV)
  | .inf false => (.inf false, 0)
  | .fin s n d =>
    if n = 0 then (.fin s 0 1, 0) else if s then (.nan false, fNV)
    else let (p, q) := sqrtFrac n d; (.fin false p q, 0)

/-- Compares two values that are no NaN: is a less than b? Zeros of both signs are equal. -/
def vLt (a b : FVal) : Bool :=
  match a, b with
  | .nan _, _ | _, .nan _ => false
  | .inf s, .inf t => s && !t
  | .inf s, _ => s
  | _, .inf t => !t
  | .fin s n d, .fin t m e => decide (signedNum s (n * e) < signedNum t (m * d))

/-- Are two values that are no NaN equal? -/
def vEq (a b : FVal) : Bool := !a.isNaN && !b.isNaN && !vLt a b && !vLt b a

/-- ⌊log2 (n/d)⌋ + 4096 for n, d > 0 with |log2| below 4096. -/
def flog2 (n d : Nat) : Nat :=
  let k := n.log2 + 4096 - d.log2
  -- 2^(k-4096) ≤ n/d, or one less
  if (if k ≥ 4096 then d <<< (k - 4096) ≤ n else d ≤ n <<< (4096 - k)) then k else k - 1

/-- n/d divided by 2^(q - 8192), floor and remainder over the returned denominator. -/
def divPow (n d q : Nat) : Nat × Nat × Nat :=
  if q ≥ 8192 then (let dd := d <<< (q - 8192); (n / dd, n % dd, dd))
  else (let nn := n <<< (8192 - q); (nn / d, nn % d, d))

/-- Rounds the magnitude n/d to a multiple of 2^(q - 8192): the multiple and whether it is inexact (R282, R285). -/
def roundAt (mode : RMode) (n d q : Nat) : Nat × Bool :=
  let (k, r, dd) := divPow n d q
  if r = 0 then (k, false)
  else
    let up := match mode with
      | .rne => decide (2 * r > dd) || (decide (2 * r = dd) && k % 2 == 1)
      | .rz => false
      | .sr x => decide (x < (r <<< 32) / dd)
    (if up then k + 1 else k, true)

/-- The second rounding of a stochastic one (R285): the multiple `k` of the grid of unbounded exponent that `.sr` chose, `sh` bits
finer than the subnormal grid, passes through the target's subnormal range to nearest with ties to even (R282). The other modes
round once: their multiple `k0` of the subnormal grid stands. -/
def subnormalRound (mode : RMode) (k0 k sh : Nat) (ix0 : Bool) : Nat × Bool :=
  match mode with
  | .sr _ => let (r, ix) := roundAt .rne k (2 ^ sh) 8192; (r, ix || ix0)
  | _ => (k0, ix0)

/-- A finite value rounded into a floating-point format: its pattern on the grid extended without an upper exponent bound,
NX and UF (R282). Tininess is judged after rounding to the format's precision with no lower exponent bound. -/
def roundFp (f : Fmt) (mode : RMode) (n d : Nat) : Nat × Flags :=
  match fpParams f with
  | none => (0, 0)
  | some (_, mb, bias) =>
    if n = 0 then (0, 0)
    else
      let e := flog2 n d                        -- exponent + 4096
      let emin := 4096 + 1 - bias
      let eq := max e emin
      let (k0, ix0) := roundAt mode n d (eq + 4096 - mb)
      let (ku, ixu) := roundAt mode n d (e + 4096 - mb)
      let (k, ix) := if e < emin then subnormalRound mode k0 ku (emin - e) (ix0 || ixu) else (k0, ix0)
      -- value ku·2^(e-mb): tiny when below 2^emin
      let tiny := decide (e < emin) && !(decide (e + 1 = emin) && decide (ku = 2 ^ (mb + 1)))
      ((((eq - emin) <<< mb) + k), if ix then (fNX ||| (if tiny then fUF else 0)) else 0)

/-- The sign bit of a floating-point element format. -/
def signBit (f : Fmt) : Nat :=
  match fpParams f with
  | some (eb, mb, _) => 2 ^ (eb + mb)
  | none => 0

/-- The pattern of ±∞ of a format that has it. -/
def infPat (f : Fmt) : Nat :=
  match fpParams f with
  | some (eb, mb, _) => (2 ^ eb - 1) <<< mb
  | none => 0

/-- A value into a floating-point format: rounding, overflow, NaN, flags (R271, R272, R282-R285). -/
def encFp (f : Fmt) (o : CvtOpt) (v : FVal) : Nat × Flags :=
  let sg (s : Bool) : Nat := if s then signBit f else 0
  match v with
  | .nan s =>
    if f.hasInf then (canonNaN f, if s then fNV else 0)
    else if f == .f8e4 && o.nan then (0x7F, if s then fNV else 0)
    else (maxPat f, fNV ||| fSAT)
  | .inf s => if f.hasInf && !o.sat then (sg s + infPat f, 0) else (sg s + maxPat f, fSAT)
  | .fin s n d =>
    let (p, fl) := roundFp f o.mode n d
    if p > maxPat f then
      (if f.hasInf && !o.sat then (sg s + infPat f, fOF ||| fNX) else (sg s + maxPat f, fOF ||| fNX ||| fSAT))
    else (sg s + p, fl)

/-- A value into e8m0 (R273). -/
def encE8m0 (v : FVal) : Nat × Flags :=
  match v with
  | .nan s => (0xFF, if s then fNV else 0)
  | .inf _ => (0xFE, fSAT)
  | .fin _ n d =>
    if n = 0 then (0, fNX)
    else
      let e := flog2 n d
      let c := min (max (e + 127) 4096 - 4096) 254
      let exact := decide (e + 127 = c + 4096) && (if e ≥ 4096 then n = d <<< (e - 4096) else n <<< (4096 - e) = d)
      (c, if exact then 0 else fNX)

/-- The least and greatest integer of an integer or tern format (R274, R283). -/
def intRange (f : Fmt) : Int × Int :=
  let w := f.memBits
  if f == .tern then (-1, 1) else if f.isI then (-(2 ^ (w - 1)), 2 ^ (w - 1) - 1) else (0, 2 ^ w - 1)

/-- An integer's pattern in an integer or tern format. -/
def encIntPat (f : Fmt) (i : Int) : Nat := (i % 2 ^ f.memBits).toNat

/-- A value into an integer or tern format whose codes stand `z` above their value: `fromInt` when the source elements are
integers (R274, R283, R284). The value is rounded first; the range is that of the code. -/
def encIntAt (f : Fmt) (o : CvtOpt) (fromInt : Bool) (z : Int) (v : FVal) : Nat × Flags :=
  let (lo, hi) := intRange f
  match v with
  | .nan _ => (encIntPat f z, fNV)
  | .inf s => (encIntPat f (if s then lo else hi), fNV)
  | .fin s n d =>
    if fromInt then
      let i := signedNum s (n / d) + z
      (encIntPat f (if o.sat || f == .tern then max lo (min hi i) else i), 0)
    else
      let (k, ix) := roundAt o.mode n d 8192
      let i := signedNum s k + z
      if i < lo then (encIntPat f lo, fNV) else if hi < i then (encIntPat f hi, fNV)
      else (encIntPat f i, if ix then fNX else 0)

/-- A value into an integer or tern format (R274, R283, R284). -/
def encInt (f : Fmt) (o : CvtOpt) (fromInt : Bool) (v : FVal) : Nat × Flags := encIntAt f o fromInt 0 v

/-- Are the format's elements integers, tern among them (R283)? -/
def intLike (f : Fmt) : Bool := f.isInt || f == .tern || f == .b32i8 || f == .i8zp

/-- A value into a format, by the format's kind; a block-scaled code takes its bare element (R283). -/
def encode (f : Fmt) (o : CvtOpt) (fromInt : Bool) (v : FVal) : Nat × Flags :=
  let f := f.element
  match fpParams f with
  | some _ => encFp f o v
  | none => if f == .e8m0 then encE8m0 v else encInt f o fromInt v

/-- The options of arithmetic results: to nearest even, no modifier (R282). -/
def rneOpt : CvtOpt := ⟨.rne, false, false, false⟩

/-- An arithmetic result rounded into f32, f16 or bf16, with the flags of its operation (R282, R286). -/
def rnd (f : Fmt) (v : FVal × Flags) : Nat × Flags :=
  let (p, fl) := encFp f rneOpt v.1
  (p, fl ||| v.2)

/-- The lesser (`lt`) or greater operand's pattern of R340: -0 below +0, one NaN gives the other operand. -/
def fMinMax (f : Fmt) (least : Bool) (x y : Nat) : Nat × Flags :=
  let a := decFp f false x
  let b := decFp f false y
  let fl := sigFlags [a, b]
  if a.isNaN && b.isNaN then (canonNaN f, fl)
  else if a.isNaN then (y, fl)
  else if b.isNaN then (x, fl)
  else
    let aLess := vLt a b || (a.isZero && b.isZero && a.neg && !b.neg)
    let bLess := vLt b a || (a.isZero && b.isZero && b.neg && !a.neg)
    if least then (if bLess then (y, fl) else (x, fl)) else (if aLess then (y, fl) else (x, fl))

/-- FCMP's condition `c` on two values, and NV (R340). -/
def fCmp (c : Nat) (a b : FVal) : Bool × Flags :=
  let un := a.isNaN || b.isNaN
  let fl : Flags := if (2 ≤ c && c ≤ 5 && un) || a.isSig || b.isSig then fNV else 0
  let r := match c with
    | 0 => vEq a b
    | 1 => !vEq a b
    | 2 => vLt a b
    | 3 => vLt a b || vEq a b
    | 4 => vLt b a
    | 5 => vLt b a || vEq a b
    | 6 => un
    | _ => !un
  (r, fl)

/-- The class bit of FCLASS (R341). -/
def fClass (f : Fmt) (x : Nat) : Nat :=
  match fpParams f with
  | none => 0
  | some (_, mb, bias) =>
    match decFp f false x with
    | .nan true => 256
    | .nan false => 512
    | .inf true => 1
    | .inf false => 128
    | .fin s n d =>
      let sub := decide (n ≠ 0) && decide (flog2 n d < 4096 + 1 - bias)
      let _ := mb
      if n = 0 then (if s then 8 else 16) else if s then (if sub then 4 else 2) else (if sub then 32 else 64)

/-- `seed(b, lane)` of R285. -/
def srSeed (b : Nat) (lane : Nat) : Nat :=
  let x := (b % 2 ^ 32) ^^^ (((lane + 1) * 0x9E3779B9) % 2 ^ 32)
  if x = 0 then 1 else x

/-- `step(x)` of R285. -/
def srStep (x : Nat) : Nat :=
  let nb := (x.testBit 31).toNat ^^^ (x.testBit 21).toNat ^^^ (x.testBit 1).toNat ^^^ (x.testBit 0).toNat
  ((x <<< 1) ||| nb) % 2 ^ 32

/-- `n` steps of the LFSR. -/
def srSteps (x : Nat) : Nat → Nat
  | 0 => x
  | n + 1 => srSteps (srStep x) n

/-- The scale of a block by its companion, none for a companion that makes the block NaN (R276, R277). -/
def blockScale (f : Fmt) (comp : Nat) : FVal :=
  match f with
  | .b16f4 => (decFp .f8e4 false comp).abs
  | .i8zp => .fin false 1 1
  | _ => decode .e8m0 false comp

/-- An element of a block-scaled format with its companion (R274, R276, R277), `nanMode` under `.nan` (R272). -/
def scaled (nanMode : Bool) (f : Fmt) (x comp : Nat) : FVal :=
  if f == .i8zp then ofInt (decInt .i8 x - decInt .i8 comp)
  else
    match blockScale f comp with
    | .nan _ => .nan false
    | sc =>
      match decode f nanMode x with
      | .nan g => .nan g
      | v => (vMul v sc).1

/-- An element of q4n with its block scale and super-scale (R278). -/
def q4nVal (q c super : Nat) : FVal :=
  let k := codebook q * (c % 256 : Nat)
  match decFp .f32 false super with
  | .nan _ => .nan false
  | .inf s => if k = 0 then .nan false else .inf (decide (k < 0) != s)
  | .fin s n d => .fin (decide (codebook q < 0) != s) (k.natAbs * n) (128 * 255 * d)

/-- The element format of a b64.mix block by its FT (R280). -/
def mixFmt (desc : Nat) : Fmt :=
  match desc / 2 ^ 14 % 4 with
  | 0 => .f8e4
  | 1 => .f6e2
  | 2 => .f4
  | _ => .q4n

/-- An element of a b64.mix block with its descriptor (R280). -/
def mixVal (desc x : Nat) : FVal :=
  let cq := desc / 2 ^ 8 % 64
  let e := desc % 256
  if e = 255 then .nan false
  else match mixFmt desc with
    | .q4n => dyadic (decide (codebook x < 0)) ((codebook x).natAbs * cq) e 140
    | f => if cq ≠ 0 then .nan false else
      match decFp f false x with
      | .fin s n d => if e ≥ 127 then .fin s (n <<< (e - 127)) d else .fin s n (d <<< (127 - e))
      | v => v

/-- The three bf16 parts of an f32x3 element, as patterns (R275). -/
def f32Parts (x : Nat) : Nat × Nat × Nat :=
  let rz : CvtOpt := ⟨.rz, true, false, false⟩
  match decFp .f32 false x with
  | .nan _ => (0x7FC0, 0, 0)
  | .inf s => ((if s then 0x8000 else 0) + 0x7F80, 0, 0)
  | v =>
    let hi := (encFp .bf16 rz v).1
    let r1 := (vAdd v (decFp .bf16 false hi).negate).1
    let mid := (encFp .bf16 rz r1).1
    let r2 := (vAdd r1 (decFp .bf16 false mid).negate).1
    (hi, mid, (encFp .bf16 rz r2).1)

end Sys2Proof.Machine
end

