-- ==== Sys2Proof/Syntax.lean ====
section
/-! DEFINITION. The instruction set, whole: one constructor per row of spec/opcode_table.json. The first 205 rows are the
instructions that a strand executes, each with the fields of its 96-bit word (R296). The other 121 rows are the moves that
the part's other agents make (95_what_each_step_holds.md): the host, the dispatchers, the engines, the homes, the links;
each carries the data that its move brings. -/

namespace Sys2Proof

/-- One step of some agent of the part: an instruction of ENA, or a move of another agent. -/
inductive Instr where
  -- the instructions of a strand (R321)
  /-- R335: Adds two registers, wrapping or saturating in the chosen width -/
  | add (w : Ins)
  /-- R335: Subtracts register B from register A, wrapping or saturating -/
  | sub (w : Ins)
  /-- R335: Multiplies two registers, keeping the low bits or saturating -/
  | mul (w : Ins)
  /-- R335: Writes the high w bits of the exact product of two registers -/
  | mulh (w : Ins)
  /-- R335: Divides with truncation toward zero; division by zero does not trap -/
  | div (w : Ins)
  /-- R335: Writes the remainder of a truncating division; division by zero gives the dividend -/
  | rem (w : Ins)
  /-- R335: Bitwise AND of two registers -/
  | and (w : Ins)
  /-- R335: Bitwise OR of two registers -/
  | or (w : Ins)
  /-- R335: Bitwise XOR of two registers -/
  | xor (w : Ins)
  /-- R335: Writes A AND NOT B from two registers -/
  | andn (w : Ins)
  /-- R335: Shifts left by a register count taken modulo the width -/
  | shl (w : Ins)
  /-- R335: Logical right shift by a register count -/
  | shr (w : Ins)
  /-- R335: Arithmetic right shift by a register count -/
  | sar (w : Ins)
  /-- R335: Rotates left within the width by a register count -/
  | rot (w : Ins)
  /-- R335: Counts the leading zero bits -/
  | clz (w : Ins)
  /-- R335: Counts the trailing zero bits -/
  | ctz (w : Ins)
  /-- R335: Counts the set bits -/
  | popc (w : Ins)
  /-- R335: Writes the lesser of two registers, signed or unsigned -/
  | min (w : Ins)
  /-- R335: Writes the greater of two registers, signed or unsigned -/
  | max (w : Ins)
  /-- R335: Writes the absolute value; the most negative value wraps unless saturated -/
  | abs (w : Ins)
  /-- R336: Selects A or register B by a predicate named in A's modifier bits -/
  | sel (w : Ins)
  /-- R336: Compares two registers and writes a predicate -/
  | cmp (w : Ins)
  /-- R337: Copies 64 bits between s, m, link or lc registers -/
  | mov (w : Ins)
  /-- R335: Extracts a bit field given by a register specification -/
  | bfx (w : Ins)
  /-- R335: Inserts a bit field into D, with the field given by a register -/
  | bfi (w : Ins)
  /-- R335: Multiply-adds two registers into D -/
  | madd (w : Ins)
  /-- R335: Sign-extends A from a bit given by a register -/
  | sext (w : Ins)
  /-- R335: Zero-extends A from a bit given by a register -/
  | zext (w : Ins)
  /-- R335: Immediate form of ADD -/
  | addImm (w : Ins)
  /-- R335: Immediate form of SUB -/
  | subImm (w : Ins)
  /-- R335: Immediate form of MUL -/
  | mulImm (w : Ins)
  /-- R335: Immediate form of MULH -/
  | mulhImm (w : Ins)
  /-- R335: Immediate form of DIV -/
  | divImm (w : Ins)
  /-- R335: Immediate form of REM -/
  | remImm (w : Ins)
  /-- R335: Immediate form of AND -/
  | andImm (w : Ins)
  /-- R335: Immediate form of OR -/
  | orImm (w : Ins)
  /-- R335: Immediate form of XOR -/
  | xorImm (w : Ins)
  /-- R335: Immediate form of ANDN -/
  | andnImm (w : Ins)
  /-- R335: Immediate form of SHL -/
  | shlImm (w : Ins)
  /-- R335: Immediate form of SHR -/
  | shrImm (w : Ins)
  /-- R335: Immediate form of SAR -/
  | sarImm (w : Ins)
  /-- R335: Immediate form of ROT -/
  | rotImm (w : Ins)
  /-- R335: Immediate form of MIN -/
  | minImm (w : Ins)
  /-- R335: Immediate form of MAX -/
  | maxImm (w : Ins)
  /-- R336: Immediate form of SEL -/
  | selImm (w : Ins)
  /-- R336: Immediate form of CMP -/
  | cmpImm (w : Ins)
  /-- R335: Immediate form of BFX -/
  | bfxImm (w : Ins)
  /-- R335: Immediate form of BFI -/
  | bfiImm (w : Ins)
  /-- R335: Immediate form of MADD -/
  | maddImm (w : Ins)
  /-- R335: Immediate form of SEXT -/
  | sextImm (w : Ins)
  /-- R335: Immediate form of ZEXT -/
  | zextImm (w : Ins)
  /-- R337: Loads a sign-extended 22-bit immediate into an s register or lc -/
  | li (w : Ins)
  /-- R337: Loads a sign-extended 44-bit wide immediate -/
  | liw (w : Ins)
  /-- R339: Scalar float addition rounded to nearest even -/
  | fadd (w : Ins)
  /-- R339: Scalar float subtraction -/
  | fsub (w : Ins)
  /-- R339: Scalar float multiplication -/
  | fmul (w : Ins)
  /-- R339: Scalar fused multiply-add into D with one rounding -/
  | ffma (w : Ins)
  /-- R339: Scalar float division -/
  | fdiv (w : Ins)
  /-- R339: Scalar float square root -/
  | fsqrt (w : Ins)
  /-- R340: Scalar float minimum with NaN and signed-zero rules -/
  | fmin (w : Ins)
  /-- R340: Scalar float maximum with NaN and signed-zero rules -/
  | fmax (w : Ins)
  /-- R340: Compares two floats and writes a predicate -/
  | fcmp (w : Ins)
  /-- R342: Converts a scalar between float and integer formats -/
  | fcvt (w : Ins)
  /-- R341: Writes A's magnitude with a sign derived from B -/
  | fsgn (w : Ins)
  /-- R341: Writes a one-hot class mask of a float -/
  | fclass (w : Ins)
  /-- R345: Branches pc-relative, conditionally by the guard -/
  | br (w : Ins)
  /-- R345: Jumps to a register or wide absolute address -/
  | jmp (w : Ins)
  /-- R345: Writes the return address and transfers -/
  | call (w : Ins)
  /-- R345: Returns to a register address -/
  | ret (w : Ins)
  /-- R345: Indexed branch into a following table -/
  | brx (w : Ins)
  /-- R346: Pushes a hardware loop entry, or skips the body for a zero count -/
  | loop (w : Ins)
  /-- R347: Decrements the loop count and branches back or pops -/
  | endl (w : Ins)
  /-- R345: Does nothing -/
  | nop (w : Ins)
  /-- R343: Predicate AND -/
  | pand (w : Ins)
  /-- R343: Predicate OR -/
  | por (w : Ins)
  /-- R343: Predicate XOR -/
  | pxor (w : Ins)
  /-- R343: Predicate NOT -/
  | pnot (w : Ins)
  /-- R343: Moves a predicate or a nonzero test into a predicate -/
  | pmov (w : Ins)
  /-- R343: Mask AND -/
  | mand (w : Ins)
  /-- R343: Mask OR -/
  | mor (w : Ins)
  /-- R343: Mask XOR -/
  | mxor (w : Ins)
  /-- R343: Mask NOT -/
  | mnot (w : Ins)
  /-- R343: Counts the set bits of a mask -/
  | mpop (w : Ins)
  /-- R343: Writes the index of a mask's lowest set bit -/
  | mfirst (w : Ins)
  /-- R343: Tests a mask and writes a predicate -/
  | mtop (w : Ins)
  /-- R352: Loads 1 to 8 bytes from a translated global address -/
  | ld (w : Ins)
  /-- R352: Stores 1 to 8 bytes to a translated global address -/
  | st (w : Ins)
  /-- R353: Loads from the cluster window -/
  | ldw (w : Ins)
  /-- R353: Stores to the cluster window -/
  | stw (w : Ins)
  /-- R354: Prefetch hint for a line into the tile cache -/
  | pref (w : Ins)
  /-- R354: Writes a dirty line back to the cluster home, or invalidates the instruction line with .i -/
  | flushl (w : Ins)
  /-- R356: Atomic integer add -/
  | aadd (w : Ins)
  /-- R356: Atomic binary32 add -/
  | afadd (w : Ins)
  /-- R356: Atomic minimum -/
  | amin (w : Ins)
  /-- R356: Atomic maximum -/
  | amax (w : Ins)
  /-- R356: Atomic absolute maximum of binary32 values -/
  | aamax (w : Ins)
  /-- R356: Atomic AND -/
  | aand (w : Ins)
  /-- R356: Atomic OR -/
  | aor (w : Ins)
  /-- R356: Atomic XOR -/
  | axor (w : Ins)
  /-- R356: Atomic swap -/
  | aswp (w : Ins)
  /-- R356: Atomic compare and swap -/
  | acas (w : Ins)
  /-- R358: Performs a release, acquire or sc fence at a scope -/
  | fence (w : Ins)
  /-- R359: Release or acquire restricted to a byte range -/
  | fenceRange (w : Ins)
  /-- R360: Enqueues one strand record in a chosen cluster -/
  | spawn (w : Ins)
  /-- R361: Creates a gang of n records from a template -/
  | spawng (w : Ins)
  /-- R363: Suspends the strand unless WAKE is latched -/
  | suspend (w : Ins)
  /-- R363: Requeues the strand at the tail of its run queue -/
  | yield (w : Ins)
  /-- R364: Waits until a join word is zero, parking if needed -/
  | join (w : Ins)
  /-- R363: Decrements the join word and makes the record DONE -/
  | exit (w : Ins)
  /-- R364: Tests a word against a condition and parks until it holds -/
  | waitw (w : Ins)
  /-- R366: Makes a SUSPENDED record READY or latches WAKE -/
  | signal (w : Ins)
  /-- R368: Arrives at a barrier and waits for its generation to change -/
  | bar (w : Ins)
  /-- R367: Arrives at a barrier and returns its generation -/
  | bara (w : Ins)
  /-- R367: Waits until a barrier's generation differs from a value -/
  | barw (w : Ins)
  /-- R369: Sends a tagged message to a tile -/
  | send (w : Ins)
  /-- R371: Posts a receive entry, matching against the overflow queue first -/
  | rpost (w : Ins)
  /-- R371: Takes a matching message or waits for one -/
  | rwait (w : Ins)
  /-- R371: Reports the message RWAIT would take now without consuming it -/
  | rprobe (w : Ins)
  /-- R373: Signs a compact from its descriptor, or resumes a stopped one -/
  | csign (w : Ins)
  /-- R374: Requests dissolution of a compact at its next boundary -/
  | cdiss (w : Ins)
  /-- R375: Places 64-byte transfer units in the tile's send buffer -/
  | xfer (w : Ins)
  /-- R376: Adds to the expected count of a source slot -/
  | expect (w : Ins)
  /-- R377: Ends the compute phase and arrives at the superstep barrier -/
  | sstep (w : Ins)
  /-- R378: Pops a link word and forwards it to the opposite link -/
  | lfwd (w : Ins)
  /-- R385: Element-wise vector add -/
  | vadd (w : Ins)
  /-- R385: Element-wise vector subtract -/
  | vsub (w : Ins)
  /-- R385: Element-wise vector multiply -/
  | vmul (w : Ins)
  /-- R385: Element-wise fused multiply-add into D -/
  | vfma (w : Ins)
  /-- R385: Element-wise minimum -/
  | vmin (w : Ins)
  /-- R385: Element-wise maximum -/
  | vmax (w : Ins)
  /-- R385: Element-wise absolute value -/
  | vabs (w : Ins)
  /-- R385: Element-wise negation -/
  | vneg (w : Ins)
  /-- R385: Element-wise bitwise AND -/
  | vand (w : Ins)
  /-- R385: Element-wise bitwise OR -/
  | vor (w : Ins)
  /-- R385: Element-wise bitwise XOR -/
  | vxor (w : Ins)
  /-- R385: Element-wise left shift -/
  | vshl (w : Ins)
  /-- R385: Element-wise logical right shift -/
  | vshr (w : Ins)
  /-- R385: Element-wise arithmetic right shift -/
  | vsar (w : Ins)
  /-- R386: Compares lanes and writes a mask -/
  | vcmp (w : Ins)
  /-- R386: Selects lanes of A or B by a mask -/
  | vsel (w : Ins)
  /-- R387: Reduces 64 lanes by a fixed tree into a scalar -/
  | vred (w : Ins)
  /-- R388: Inclusive or exclusive scan over lanes -/
  | vscan (w : Ins)
  /-- R390: Permutes lanes by an index vector -/
  | vperm (w : Ins)
  /-- R390: Slides or rotates lanes by a count -/
  | vslide (w : Ins)
  /-- R392: Element-wise 2 to the power a -/
  | vexp (w : Ins)
  /-- R392: Element-wise reciprocal -/
  | vrcp (w : Ins)
  /-- R392: Element-wise reciprocal square root -/
  | vrsq (w : Ins)
  /-- R392: Element-wise base-2 logarithm -/
  | vlog (w : Ins)
  /-- R391: Adds four products per lane into an accumulator -/
  | vdot4 (w : Ins)
  /-- R390: Extracts one lane into a scalar -/
  | vext (w : Ins)
  /-- R390: Inserts a scalar into one lane -/
  | vins (w : Ins)
  /-- R389: Writes the largest magnitude of the active lanes -/
  | vamax (w : Ins)
  /-- R390: Broadcasts a scalar to every element -/
  | vbcast (w : Ins)
  /-- R394: Converts vector elements between formats -/
  | vcvt (w : Ins)
  /-- R393: Sets or invalidates a register's format tag -/
  | vtag (w : Ins)
  /-- R393: Reads a register's format tag into a scalar -/
  | vgtag (w : Ins)
  /-- R397: Contiguous vector load -/
  | vld (w : Ins)
  /-- R397: Contiguous vector store -/
  | vst (w : Ins)
  /-- R398: Strided vector load -/
  | vlds (w : Ins)
  /-- R398: Strided vector store -/
  | vsts (w : Ins)
  /-- R399: Vector gather by an index vector -/
  | vgth (w : Ins)
  /-- R399: Vector scatter by an index vector -/
  | vsct (w : Ins)
  /-- R409: Loads B slices and companions into the weight store -/
  | mldb (w : Ins)
  /-- R408: Loads a tile register from the tile store -/
  | mld (w : Ins)
  /-- R408: Stores a tile register to the tile store -/
  | mst (w : Ins)
  /-- R408: Zeroes an accumulator tile -/
  | mzero (w : Ins)
  /-- R412: Matrix multiply-accumulate with a local A operand -/
  | mmac (w : Ins)
  /-- R414: Matrix multiply-accumulate fetching A from a virtual address, resumable by progress -/
  | mmacr (w : Ins)
  /-- R415: Converts an accumulator tile to another format -/
  | mcvt (w : Ins)
  /-- R416: Scales a tile by rows or columns from a vector -/
  | mscale (w : Ins)
  /-- R408: Transposes a tile register -/
  | mtrans (w : Ins)
  /-- R417: Increments a tile semaphore by the core, MX or CE -/
  | seminc (w : Ins)
  /-- R417: Waits on a tile semaphore by the core, MX or CE -/
  | semwait (w : Ins)
  /-- R421: Engine copy of L bytes -/
  | copy (w : Ins)
  /-- R421: Engine two-dimensional strided copy -/
  | copy2d (w : Ins)
  /-- R423: Gathers rows from owner tiles' scratch by an index list -/
  | gather (w : Ins)
  /-- R423: Scatters rows to owner tiles' scratch by an index list -/
  | scatter (w : Ins)
  /-- R424: Binds a v12-v15 register to a memory stream -/
  | stream (w : Ins)
  /-- R424: Releases a stream binding -/
  | strend (w : Ins)
  /-- R427: Dispatches token rows into expert buffers and writes the routing tables -/
  | routeDsp (w : Ins)
  /-- R428: Combines expert rows back in token order, weighted by gates -/
  | routeCmb (w : Ins)
  /-- R429: Computes routing counts and drop table only -/
  | routeStat (w : Ins)
  /-- R432: Remote load over the optical fabric -/
  | rld (w : Ins)
  /-- R432: Remote store with an acknowledgement level -/
  | rst (w : Ins)
  /-- R432: Remote atomic at the target package's MSA -/
  | ratom (w : Ins)
  /-- R433: Waits for remote stores to be acknowledged, then fences -/
  | rfence (w : Ins)
  /-- R442: Takes trap TRAP with its immediate -/
  | trap (w : Ins)
  /-- R441: Returns from a trap handler to EPC -/
  | eret (w : Ins)
  /-- R445: Reads a system register -/
  | mfs (w : Ins)
  /-- R445: Writes a system register under its own layout -/
  | mts (w : Ins)
  /-- R446: Installs a translation entry and registers its holder -/
  | tlbwr (w : Ins)
  /-- R446: Reads a translation cache location -/
  | tlbrd (w : Ins)
  /-- R447: Removes selected translation entries package-wide -/
  | tlbinv (w : Ins)
  /-- R448: Posts a fault reply to a parked access -/
  | mbxpost (w : Ins)
  /-- R448: Takes the oldest fault message from the TSC mailbox -/
  | mbxwait (w : Ins)
  /-- R449: Gang-stops the members of a gang or compact within a scope -/
  | gstop (w : Ins)
  /-- R450: Saves the strand's full context to a block -/
  | ctxsv (w : Ins)
  /-- R451: Replaces the strand's context from a block -/
  | ctxld (w : Ins)
  /-- R452: Switches L2 between unified and partitioned mode -/
  | l2mode (w : Ins)
  /-- R453: Puts the core into debug halt -/
  | halt (w : Ins)
  /-- R442: Takes trap BRK with its immediate -/
  | brk (w : Ins)
  /-- R454: Requests a pennant round at device or pod scope -/
  | pennant (w : Ins)
  /-- R455: Reads a sensor word -/
  | sense (w : Ins)
  /-- R455: Reads ns or core cycles since cold reset -/
  | time (w : Ins)
  /-- R456: Stops the slot's issue until a wake event -/
  | idle (w : Ins)
  -- the moves of the other agents
  /-- R330: Takes a latched HANG or MSG_OVERFLOW at the next instruction boundary -/
  | asyncTrapTake (slot : Nat)
  /-- R456: Ends an IDLE on a message, semaphore increment, latched trap or 4,096 cycles -/
  | idleWake (slot : Nat)
  /-- R453: Host write of DBGRES GO resumes a halted core -/
  | debugResume (word : Word32)
  /-- R26: Cold reset: registers take reset values and bring-up begins -/
  | coldReset
  /-- R26: Standby power-good starts the readiness bounds and NMC bring-up -/
  | standbyPowerGood
  /-- R26: A function finishes self-test and its RDY bit is set -/
  | functionReady (f : Func)
  /-- R27: Failure of a function is detected; RDY cleared and FAIL set -/
  | functionFailure (f : Func)
  /-- R20: 10 µs temperature sample applies the thermal threshold actions -/
  | temperatureSample (index : Nat) (value : BitVec 16)
  /-- R18: DC moves a die's arithmetic clock one throttle level -/
  | throttleStep (die : Nat) (level : Nat)
  /-- R21: A core supply droop is counted -/
  | droopEvent (core : Nat)
  /-- R23: The 1 ms droop-count window closes and the sensor word updates -/
  | droopWindowClose
  /-- R23: Domain power average is updated every 100 µs -/
  | powerSampleUpdate (domain : Nat) (value : BitVec 16)
  /-- R41: Target receives a remote load request and answers with RESP and DATA -/
  | reqLoad (port : Nat) (flit : List Byte)
  /-- R41: Target receives a remote store request and acknowledges at its level -/
  | reqStore (port : Nat) (flit : List Byte)
  /-- R46: Target executes a remote atomic at its MSA and returns RESP -/
  | reqAtomic (port : Nat) (flit : List Byte)
  /-- R41: A DATA flit carrying request or response payload is received -/
  | dataFlit (port : Nat) (flit : List Byte)
  /-- R41: A RESP flit completes a request at its source -/
  | respFlit (port : Nat) (head rest : List Byte)
  /-- R45: A flush marker arrives; the destination gathers one per path and answers -/
  | markFlit (port : Nat) (flit : List Byte)
  /-- R138: A pennant arrives on an input; the unit may enter the next round -/
  | pennantFlit (die input : Nat) (pod : Bool) (flit : List Byte)
  /-- R37: A LINK ACK flit advances the acknowledged sequence -/
  | linkAck (port : Nat) (flit : List Byte)
  /-- R36: A LINK NAK makes the sender replay every unacknowledged flit -/
  | linkNak (port : Nat) (flit : List Byte)
  /-- R47: A STRIPE_REQ moves the sender to RESTRIPE and applies the new stripe -/
  | stripeReq (port : Nat) (flit : List Byte)
  /-- R47: A STRIPE_ACK announces the applied stripe; REPLAY follows -/
  | stripeAck (port : Nat) (flit : List Byte)
  /-- R37: A BOUND flit reports another controller's port bounds -/
  | bound (port : Nat) (head payload crc : List Byte)
  /-- R36: After 256 ns without a reverse ACK, a LINK ACK flit is sent -/
  | ackTimer (port : Nat)
  /-- R36: After 2 µs without ACK advance, unacknowledged flits are replayed -/
  | replayTimeout (port : Nat)
  /-- R49: Loss of light or a laser is detected; the port enters HOLD -/
  | lossOfLight (port : Nat) (receives : Bool) (masks : Word64) (cause : BitVec 4)
  /-- R47: Light seen on a DOWN port starts training -/
  | lightDetect (port : Nat)
  /-- R47: Training completes and the port enters UP, or FAILED after 50 µs -/
  | trainComplete (port : Nat) (masks : Word64 × Word64) (peer pport : Nat)
  /-- R47: The replay has been sent and the port returns to UP -/
  | replayEnd (side : Nat × Bool)
  /-- R50: The OE controller publishes a port's new bound and destination entries, raising OPT_LOS -/
  | boundPublish (port : Nat)
  /-- R38: A new route configuration is requested; destination entries are invalidated and ports drain -/
  | routeReconfigure (entries : List RouteEntry) (transit : List (Nat × Nat)) (drain : BitVec 16)
  /-- R38: A draining port has delivered its accepted flits and enters DOWN -/
  | portDrainComplete (port : Nat)
  /-- R61: A GSWC.GO write is resolved, refused or starts DRAIN -/
  | switchGo (group : Nat) (word : Word32)
  /-- R62: No accepted work remains; the group enters UNBIND -/
  | drainComplete (group : Nat)
  /-- R62: Windows and bindings are released; RETRAIN begins -/
  | unbindComplete (group : Nat)
  /-- R62: A training attempt ends: LOAD on success, fallback or FAILED on failure -/
  | retrainComplete (group : Nat) (ok : Bool)
  /-- R62: Link microcode is loaded; BIND begins -/
  | loadComplete (group : Nat)
  /-- R62: Windows are bound and the group enters READY with GBND written -/
  | bindComplete (group : Nat)
  /-- R66: A SerDes link fails; accepted work ends LINKDOWN and the group retrains or fails -/
  | serdesLinkFailure (group : Nat)
  /-- R63: An inbound personality request is executed or refused -/
  | serdesInboundRequest (group : Nat) (op : Nat × Nat) (pa : BitVec 52) (len : Nat) (data : List Byte)
  /-- R68: A compact transfer packet is received, held, handed over or discarded -/
  | compactPacketReceive (group : Nat) (sender : Nat × Nat) (head : Word64 × Word64) (body : List Byte × Word64)
  /-- R69: The transport retransmits a lost transfer packet on its own timer -/
  | rudRetransmit (group packet : Nat)
  /-- R73: Host read of device memory through BAR2 -/
  | hostBar2Read (pa : BitVec 52) (len : Nat)
  /-- R73: Host write of device memory through BAR2 -/
  | hostBar2Write (pa : BitVec 52) (data : List Byte)
  /-- R72: A BAR0 write to a register with no row of its own -/
  | registerWrite (offset width : Nat) (value : Word64)
  /-- R79: A host write of LPTAIL checks the tail and runs admission -/
  | lptailWrite (port : Nat) (value : Word32)
  /-- R77: A write to LPCFG, with EN set refused when reservations exceed room -/
  | lpcfgWrite (port : Nat) (value : Word64)
  /-- R78: The owning DC recomputes and writes LPBND when parameters change -/
  | lpbndUpdate (port : Nat)
  /-- R495: The DC translates and performs a launch's join increment or empty-launch store -/
  | launchJoinIncrement (port : Nat) (entry : Word32)
  /-- R85: An empty launch counts as placed once earlier entries are placed, storing its scalar -/
  | emptyLaunchComplete (port : Nat)
  /-- R127: A port entry waits T_age and puts its cluster under port pressure -/
  | portEntryAged (port : Nat) (entry : Word32)
  /-- R88: Event queue control write; setting EN clears pointers and writes held records -/
  | eqctlWrite (value : Word32)
  /-- R89: Host consumes records; held records are written into freed slots -/
  | eqheadWrite (value : Word32)
  /-- R89: MSI-X vector 0 is sent, rate-limited to once per µs -/
  | msixInterrupt
  /-- R97: A write of update GO is refused or enters STAGE -/
  | updateGo (value : Word32)
  /-- R98: The staged image is copied and checked; WAITHP or IDLE -/
  | stageComplete
  /-- R99: The running image reaches its hand-over point and freezes -/
  | handoverPoint
  /-- R98: The hand-over record is written and the new image starts -/
  | freezeComplete
  /-- R98: An image reports alive: COMMIT, or end of ROLLBACK -/
  | aliveReport (old : Bool)
  /-- R98: WD passes without an alive report; ROLLBACK begins -/
  | watchdogExpiry
  /-- R98: The old image fails to report alive in 5 ms; FAILED with FAIL set -/
  | rollbackExpiry
  /-- R106: ATTGO makes the NMC write a signed quote and increment ATTGEN -/
  | attestQuote
  /-- R107: NMC declares a fatal error and injects a DUMP pennant round -/
  | fatalError (cause : BitVec 8)
  /-- R108: The dump copies end and a DUMP record is raised -/
  | dumpComplete (linkLost : Bool)
  /-- R124: The SD places a record or gang into eligible slots -/
  | strandPlace (cluster : Nat)
  /-- R129: A slot's quantum reaches zero; pre-emption or reset -/
  | quantumExpiry (slot : Nat)
  /-- R130: A pre-empted strand stops at a boundary and is saved PREEMPTED -/
  | preemptStop (slot : Nat)
  /-- R125: A gang waits T_age and takes a reservation -/
  | gangAged (cluster : Nat) (addr : BitVec 48)
  /-- R133: Stopped members' network drains and members are saved -/
  | gangStopDrain (request : Nat)
  /-- R131: A tile is drained and loaded with a role image or configuration -/
  | unitLoad (tile : Nat)
  /-- R365: A write to a watched line is evaluated; a PARKED record may become READY -/
  | watchEvaluate (cluster : Nat) (line : Nat)
  /-- R136: Quiescence of an ASID delivers HANG to its designated strand -/
  | hangDetect (asid : BitVec 16)
  /-- R140: An engine command completes and its status word lands in the register or context -/
  | engineStatusLand (command : Nat)
  /-- R139: An injector starts a pennant round on request -/
  | roundInject (pod : Bool)
  /-- R141: A die-to-die link fails; traffic reroutes or gangs are ended -/
  | d2dLinkFailure (link : Nat)
  /-- R220: A die silent for 20 µs is suspected -/
  | dieSuspect (die : Nat)
  /-- R220: The buddy DC confirms the loss and takes over the die -/
  | dieTakeover (die : Nat)
  /-- R153: A free lane group is bound to a waiting vector queue head -/
  | vectorBind (tile : Nat)
  /-- R159: The next MX queue operation starts when the unit is free -/
  | mxOpStart (tile : Nat)
  /-- R161: A blocked semaphore wait completes when the count suffices -/
  | semaphoreWaitComplete (tile sem : Nat)
  /-- R168: The CE or RE starts a queued command -/
  | engineCommandStart (tile queue : Nat)
  /-- R402: A stream register-full arrives from the copy/stream engine -/
  | streamReadahead (slot reg : Nat)
  /-- R257: A parked access retries after its back-off delay -/
  | faultRetry (poster : Nat) (eng : BitVec 4)
  /-- R256: A TSC reply arrives at a parked access: RETRY or DENY -/
  | faultReply (poster : Nat) (eng : BitVec 4) (word : Word64)
  /-- R370: A tagged message arrives and matches a posted entry or is queued or dropped -/
  | messageArrive (tile : Nat)
  /-- R262: A page-table invalidation reaches a holder tile, which removes entries -/
  | ptInvalidate (cache line : Nat)
  /-- R262: Accesses through removed entries are performed and the tile acknowledges -/
  | ptInvalidateAck (cache line : Nat)
  /-- R262: Every holder has acknowledged and a page-table store completes -/
  | ptStoreComplete (line : Nat)
  /-- R263: A tile flushes its translations and leaves holder vectors before gating -/
  | tilePowerGate (tile : Nat)
  /-- R178: Signing ends and every member starts superstep 0; CSIGN status lands -/
  | superstepStart (cid : BitVec 16)
  /-- R178: WAITUS passes under ENTRY WAIT and remaining strands are stopped -/
  | signingWaitExpiry (cid : BitVec 16)
  /-- R186: The halyard announces a hold and members freeze -/
  | holdAnnounce (cid : BitVec 16) (cycles : Nat)
  /-- R184: A transfer unit lands in the destination TS and is counted -/
  | xferUnitLand (tile : Nat)
  /-- R185: A superstep barrier releases and parked reads are served -/
  | compactBarrierRelease (cid : BitVec 16)
  /-- R189: TDL passes with counts short; COMPACT_TIMEOUT and STALLED -/
  | transferDeadlineExpiry (cid : BitVec 16)
  /-- R191: Dissolution at a boundary converts lines, frees tiles and makes records DONE -/
  | compactDissolve (cid : BitVec 16)
  /-- R207: A shared read request at the cluster home -/
  | rds (tile line : Nat)
  /-- R207: An exclusive read request at the cluster home -/
  | rdx (tile line : Nat) (mask : Word64)
  /-- R207: An upgrade request at the cluster home -/
  | upg (tile line : Nat) (mask : Word64)
  /-- R207: A write-back is received at the home -/
  | wb (tile line : Nat)
  /-- R207: An E owner reports eviction; entry becomes I -/
  | cleanEvictionNotice (tile line : Nat)
  /-- R208: A tile receives an invalidation, downgrade, recall or forward -/
  | probe (tile line : Nat) (kind : ProbeKind) (ord : Bool)
  /-- R208: The home receives CONFLICT and will NACK the loser -/
  | conflict (tile line : Nat)
  /-- R208: A tile receives NACK and re-sends its request, or awaits its ticket -/
  | nack (tile line : Nat) (ticket : Option (BitVec 16))
  /-- R209: A freed miss-table entry calls the next ticketed request -/
  | ticketCall (slice : Nat)
  /-- R205: Fill data returns and a forked reply serves combined requesters -/
  | fillReturn (slice line : Nat)
  /-- R209: A write-back entry drains to memory -/
  | wbDrain (slice : Nat)
  /-- R214: The device home or owner renews a reader lease -/
  | leaseRenewal (cluster line : Nat) (pts : Word64)
  /-- R215: The device home transfers line ownership to a cluster -/
  | ownershipRequest (cluster line : Nat)
  /-- R219: The buddy die accepts a mirror update of a MIRROR line -/
  | mirrorUpdate (line : Nat)
  /-- R216: A running strand's LCLOCK advances at least once per 1,024 cycles -/
  | lclockTick (slot : Nat)
  /-- R221: The MSA executes an atomic on a line -/
  | msaAtomic (index : Nat) (err : Bool)
  /-- R233: The barrier network issues a FENCE.sc.dev ticket in partitioned mode -/
  | scTicketIssue
  /-- R327: A fetched word that decodes to no instruction (all-zero word, unassigned OPC) is issued and takes ZERO_WORD or ILLEGAL_OP -/
  | wordNotInstruction (r : Reject)
  /-- R148: A register write of an issued instruction lands at cycle c + L, together with its tag and flags -/
  | writeLands (slot : Nat)
  /-- R208: A data, grant or atomic reply from the home arrives at the requesting tile, completing its load or store and releasing parked probes -/
  | coherenceReply (tile line : Nat)
  /-- R63: A response or acknowledgement from a SerDes peer completes an outbound request made through a window, the host link or a compact transfer packet -/
  | serdesResponse (group : Nat) (ok : Bool)
  /-- R261: The holder registration of a TLBWR is acknowledged and the TLBWR completes with its status -/
  | registrationAcknowledged (slot : Nat)
  /-- R452: The flush and reset of an L2 mode switch finish, L2ST changes, waiting accesses resume and the L2MODE status lands -/
  | modeSwitchComplete
  /-- R108: Standby power is lost, clearing the always-on island and the kept dump header while non-volatile image slots and floors remain -/
  | powerLoss
  deriving DecidableEq, Repr

end Sys2Proof
end

