-- ==== Sys2Proof/Machine/State.lean ====
section
/-! DEFINITION. The state of the part, as plain data: everything the specification gives the machine a place for. -/

namespace Sys2Proof.Machine
open Sys2Proof

/-- A vector register: its format tag, none when invalid (R265), and 64 lanes of 32 bits (R299). -/
structure VReg where
  tag : Option Fmt
  val : BitVec 2048
  deriving DecidableEq, Repr

/-- A tile register: its format tag, 32 × 32 × 32 bits (element (i, j) at bit 32·(32i + j)), and its progress field. -/
structure TReg where
  tag  : Option Fmt
  val  : BitVec 32768
  prog : Word64
  deriving DecidableEq, Repr

/-- One entry of the loop stack (R346); the count of the top entry is `lc`. -/
structure LoopEnt where
  start : Word64
  stop  : Word64
  count : Word32
  deriving DecidableEq, Repr

/-- A register write that lands at a later cycle of compact mode (R148), with the cycle. -/
inductive RegWrite where
  | s (n : Nat) (v : Word64)
  | p (n : Nat) (b : Bool)
  | v (n : Nat) (r : VReg)
  | m (n : Nat) (x : Word64)
  | t (n : Nat) (r : TReg)
  | lc (x : Word32)
  | sys (n : Nat) (x : Word64)
  | flags (f : Flags)
  | push (e : LoopEnt)
  /-- a word to a neighbour's FIFO (R163): east writes `le` -/
  | link (east : Bool) (x : Word64)
  /-- MST's 4,096 bytes at an offset of the own tile store (R408) -/
  | ts (off : Nat) (x : BitVec 32768)
  /-- an increment of a tile semaphore (R417) -/
  | sem (n k : Nat)
  deriving DecidableEq, Repr

/-- A write in flight: the phase cycle in which it lands, and the one in which its instruction issued (R149). -/
structure Late where
  due : Nat
  w   : RegWrite
  iss : Nat
  deriving DecidableEq, Repr

/-- A line in state C as a boundary of its compact gave it to a load that waited at its home (R190): its bytes, and whether they are
poisoned. -/
structure Served where
  line : Nat
  data : BitVec 512
  bad  : Bool
  deriving DecidableEq, Repr

/-- A creation of R118 past its checks: the cluster, the address-space entry that its members use, the template's words and the
records' physical addresses. -/
structure Making where
  clu : Nat
  asx : Nat
  tpl : List Word64
  pas : List Nat
  deriving DecidableEq, Repr

/-- What a slot waits for; the kinds 0 to 7 of the wait table (R135) follow from it. -/
inductive Wait where
  /-- it does not wait -/
  | none
  /-- a barrier: the key of the barrier unit and the generation it arrived in (kind 1) -/
  | barrier (key gen : Nat)
  /-- a message (kind 2) -/
  | recv
  /-- engine status words, in CTXSV and CTXLD (kind 3) -/
  | status
  /-- semaphore `n` of the tile (kind 4) -/
  | sem (n : Nat)
  /-- the translation mailbox (kind 5) -/
  | mailbox
  /-- a superstep barrier: its expectations (kind 6) -/
  | expect
  /-- the vector or matrix queue is full (kind 7) -/
  | full
  /-- a posted page fault (R255) -/
  | fault
  /-- what its instruction needs is not there yet, and it tries again at every turn (kind 0) -/
  | retry
  /-- the homes of lines in state C, until a boundary has served them all (R190); kind 0 -/
  | held (lines : List Nat)
  /-- the home of a line, a fence, a RESP (kind 0) -/
  | home
  /-- the invalidation round of its store to a PT line, past which its pc already is (R262); kind 0 -/
  | round
  /-- the join increment of its launch (R495); kind 0 -/
  | launch
  /-- IDLE, at most until this arithmetic cycle (R456); not listed as blocked -/
  | idle (till : Nat)
  deriving DecidableEq, Repr

/-- What a slot's strand is asked to stop for at its next instruction boundary: a pre-emption, into a pool block reserved for a
port entry or not (R127, R129), a gang-stop (R132), or a signing, with a pool block reserved for it (R176, R178). -/
inductive StopAsk where
  | none | preempt (reserved : Bool) | gang | sign
  deriving DecidableEq, Repr

/-- An access parked on a posted fault, and what R257 keeps of its retries (R255-R257). -/
structure Park where
  /-- KIND of R255: 1 MISS, 2 PERM, 3 DIRTY, 4 UNBOUND -/
  kind  : Nat
  /-- ACC of R255 -/
  acc   : Nat
  /-- the virtual address -/
  va    : BitVec 48
  /-- TAG of the message last posted -/
  tag   : BitVec 30
  /-- failed attempts since the back-off last started -/
  tries : Nat
  /-- arithmetic cycle of the next retry -/
  due   : Nat
  /-- a message is outstanding -/
  out   : Bool
  /-- a DENY has arrived: the next retry ends the access -/
  deny  : Bool
  /-- ENG of R255: 0 core, 1 CE, 2 RE, 3 MX, 4 launch port -/
  eng   : Nat
  deriving DecidableEq, Repr

/-- The binding of a register v12-v15 to a memory stream: the words 0x00, 0x08 and 0x10 of R400, the register-fulls read
ahead and not consumed, oldest first, and whether a read-ahead ended in PROT or POISON (R402). -/
structure Stream where
  w0    : Word64
  w1    : Word64
  w2    : Word64
  ahead : List VReg
  bad   : Bool
  /-- state of the strand that bound it, and its PFB_CEIL (R402, R257) -/
  sup   : Bool
  pfb   : Word64
  /-- the read-ahead parked on a fault (R402) -/
  park  : Option Park
  /-- the lines in state C at whose homes the read-ahead waits, and those that boundaries have given it (R190, R435) -/
  home  : List Nat
  served : List Served
  /-- the status of the first register-full pushed that could not be written; 0 for none (notes/assumptions 24) -/
  err   : Nat
  deriving DecidableEq, Repr

/-- A message of R369: the sender's core number, the tag and the payload; `seq`: when it arrived (R372), 0 on its way. -/
structure Msg where
  src : BitVec 12
  tag : BitVec 16
  payload : Word64
  seq : Nat
  deriving DecidableEq, Repr

/-- An entry of a core's posted-receive list (R370, R371): its slot, its spec and the message that matched it. -/
structure Posted where
  slot : Nat
  spec : BitVec 32
  got  : Option Msg
  /-- when it was posted -/
  seq  : Nat
  deriving DecidableEq, Repr

/-- A message under way to a tile, with the slot and s-register that await its status word (R369). -/
structure Sent where
  tile : Nat
  slot : Nat
  reg  : Nat
  recAddr : BitVec 48
  /-- the sender's address space (R136), and the rounds of `.dev` and `.pod` scope whose pennants its die had sent (R138) -/
  asid : BitVec 16
  rnd  : Word64 × Word64
  msg  : Msg
  deriving DecidableEq, Repr

/-- What an engine command has to write of one 64-byte granule (R241): where it lies, the bytes under their mask, and the command's
position of the first of them. -/
structure OutPart where
  win  : Bool
  va   : Word64
  mask : BitVec 64
  data : BitVec 512
  pos  : Nat
  deriving DecidableEq, Repr

/-- A queued operation of an engine or of the matrix unit (R159, R168, R419): the instruction's opcode and fields, what it read
at issue, the strand that issued it, and the fault its access is parked on. -/
structure Cmd where
  /-- OPC (R321) -/
  op    : Nat
  /-- its fields -/
  w     : Ins
  /-- the issuing slot -/
  slot  : Nat
  /-- the issuing strand's record and context block, for a status word that outlives the slot (R140) -/
  recAddr : BitVec 48
  ctx   : Word64
  /-- address space and state of the issuing strand -/
  asid  : BitVec 16
  sup   : Bool
  /-- PFB_CEIL at issue (R257) -/
  pfb   : Word64
  /-- pc of the instruction -/
  pc    : Word64
  /-- register values read at issue -/
  args  : List Word64
  /-- vector registers read at issue -/
  vals  : List VReg
  /-- positions done so far -/
  pos   : Nat
  /-- running values of the command: counts, table entries (R423, R427) -/
  acc   : List Nat
  /-- the RESPs of the unit in progress, in the order of its remote accesses: status and data (R421) -/
  got   : List (BitVec 8 × List Byte)
  /-- phase cycle at which it starts (compact mode, R159, R419) -/
  start : Nat
  /-- it has started: its acquire is done (R240) -/
  begun : Bool
  /-- the packages that it has stored to (R45, R489) -/
  far   : List Nat
  /-- its work is over: the status and INFO that land once its release is complete (R240) -/
  fin   : Option (Nat × Nat)
  /-- a unit came after its bound (R418) -/
  late  : Bool
  /-- the lines in state C at whose homes its access waits, and those that boundaries have given it (R190) -/
  home  : List Nat
  served : List Served
  /-- bytes that it has to write and that have not gone out: whole granules under byte masks, in the order of their first positions
  (R225, R241) -/
  out   : List OutPart
  /-- the page-table lines that it has written (R262) -/
  pts   : List Nat
  /-- its last unit is done, with this status and INFO, and its granules go out -/
  done  : Option (Nat × Nat)
  /-- the parked access -/
  park  : Option Park
  deriving DecidableEq, Repr

/-- A status word of a finished command on its way to its register (R140). -/
structure Landing where
  slot  : Nat
  reg   : Nat
  recAddr : BitVec 48
  ctx   : Word64
  /-- the address space of the strand that awaits it (R136) -/
  asid  : BitVec 16
  val   : Word64
  deriving DecidableEq, Repr

/-- One of a unit's 16 barriers (R367). -/
structure Barrier where
  gen  : Word32
  cnt  : Nat
  n    : Nat
  deriving DecidableEq, Repr

/-- An entry of a run queue: its records (one, or a gang's), whether they are PREEMPTED, and since when it waits (R123). -/
structure QEnt where
  recs  : List Nat
  pre   : Bool
  since : Nat
  deriving DecidableEq, Repr

/-- A reservation of consecutive tiles for an aged gang (R125, R126). -/
structure Resv where
  first : Nat
  count : Nat
  recAddr : Nat
  preempt : Bool
  /-- the gang's priority and identifier, and the ns at which the reservation was made (R102) -/
  prio  : Nat
  gid   : Nat
  at0   : Nat
  deriving DecidableEq, Repr

/-- An entry of an SD's watch table (R365): the PARKED record, the word watched with its address space's view, condition, value
and the scope of the acquire. -/
structure Watch where
  recAddr : Nat
  pa    : Nat
  wide  : Bool
  cond  : Nat
  val   : Word64
  scope : Option Nat
  deriving DecidableEq, Repr

/-- What a fabric request of this package is for (R431, R434, R45, R494). -/
inductive FabUse where
  /-- a scalar LD, ST or `.pod` atomic, which waits for its RESP (R434) -/
  | scalar
  /-- RLD into a register pair, with its sign or zero extension (R432) -/
  | rld (reg bytes : Nat) (unsigned : Bool)
  /-- RST, its status already landed or landing with the acknowledgement (R432) -/
  | rst (reg : Nat) (landed : Bool)
  /-- RATOM into a register pair (R432) -/
  | ratom (reg bytes : Nat)
  /-- the markers of a release towards a package (R45) -/
  | mark
  /-- a join word's increment or decrement for a record (R121) -/
  | join (recAddr : Nat)
  /-- the increment of a compact's join word before it runs, and the decrements of its dissolution (R180, R191) -/
  | sign (cid : Nat)
  | dissolve (cid : Nat)
  /-- the join increment or the empty launch's store of a port entry (R495) -/
  | port (p : Nat) (seq : Word32)
  /-- a granule of an engine command or an MMACR operand: the queue, tile · 8 + (0-3 the cores' CE queues, 4 RE, 5 MX) -/
  | engine (queue : Nat)
  /-- the markers of the release of the command at the head of a queue (R45, R240) -/
  | engMark (queue : Nat)
  deriving DecidableEq, Repr

/-- A fabric request accepted at this package and not yet answered (R41, R53). -/
structure FabReq where
  /-- its number, carried as TAG -/
  id    : Nat
  /-- the destination package -/
  pkg   : Nat
  /-- the request descriptor and the data -/
  req   : Request
  /-- the issuing slot, record, context block and address space -/
  slot  : Nat
  recAddr : BitVec 48
  ctx   : Word64
  asid  : BitVec 16
  /-- the egress port chosen at the source (R39) -/
  path  : Nat
  /-- what it is for -/
  use   : FabUse
  /-- its flits, and the ns by which they are delivered under the bound in force at acceptance (R53) -/
  flits : Nat
  due   : Nat
  /-- a double fault has struck its path since (R55) -/
  struck : Bool
  deriving DecidableEq, Repr

/-- The fabric as the strands' requests meet it (R39, R51, R53). -/
structure Fab where
  /-- this package's number -/
  me    : Nat
  /-- the packages of the connected group: those the route table lists (R39) -/
  group : List Nat
  /-- the destination bound entries DBT_d, 512 of them (R51) -/
  dbt   : Tbl Word64
  /-- the number of the next request -/
  next  : Nat
  /-- requests accepted and not yet answered, in the order of acceptance; a strand's stores among them are those that it has not
  had acknowledged (R433) -/
  out   : List FabReq
  /-- records and slots of strands with stores acknowledged at `.acc` and not yet known at `.sys`, and the package that holds them
  (R44) -/
  accs  : List (BitVec 48 × Nat × Nat)
  /-- transfer packets sent so far, by destination package: each carries its number (R68) -/
  packets : Tbl Nat
  deriving DecidableEq, Repr

/-- A strand slot and the strand in it (R304, R111, R115). -/
structure Slot where
  /-- a strand holds the slot (R112) -/
  occ   : Bool
  /-- physical address of the strand's record; SREC (R122) -/
  recAddr : BitVec 48
  /-- index of its entry in the cluster's address-space table (R114) -/
  asx   : BitVec 4
  /-- class bits G, C, T, V of the record (R111), V lowest -/
  cls   : BitVec 4
  /-- gang identifier (R111) -/
  gid   : BitVec 32
  /-- priority (R111) -/
  prio  : BitVec 4
  /-- context block address, 0 for none (R111) -/
  ctx   : Word64
  /-- the address of the next instruction -/
  pc    : Word64
  /-- s0-s63 (R299); s0 reads as zero (R300) -/
  s     : Vector Word64 64
  /-- p0-p15; p0 reads as true -/
  p     : BitVec 16
  /-- v0-v15 with their tags -/
  v     : Vector VReg 16
  /-- m0-m3; m0 reads as all ones -/
  m     : Vector Word64 4
  /-- t0 and t1 with tags and progress fields -/
  t     : Vector TReg 2
  /-- the loop stack, top first, at most four entries (R346) -/
  loops : List LoopEnt
  /-- STATUS (R437) -/
  status : Word64
  /-- CAUSE (R437) -/
  cause : Word64
  /-- EPC (R437) -/
  epc   : Word64
  /-- TVEC (R437) -/
  tvec  : Word64
  /-- FFLAGS (R286) -/
  fflags : Flags
  /-- LCLOCK (R213) -/
  lclock : Word64
  /-- PFB_CEIL (R258) -/
  pfb   : Word64
  /-- HANG latched and not yet taken (R330) -/
  lh    : Bool
  /-- MSG_OVERFLOW latched, with the sender's core number (R330) -/
  lm    : Option (BitVec 12)
  /-- a SIGNAL is pending (R140) -/
  wake  : Bool
  /-- s-registers with a write outstanding: engine, fabric, message and signing status words (R145, R140) -/
  busyS : Word64
  /-- v-registers with a write or a queued read outstanding (R145) -/
  busyV : BitVec 16
  /-- t-registers with a queued matrix operation (R145) -/
  busyT : BitVec 2
  /-- what the slot waits for -/
  wait  : Wait
  /-- its access parked on a page fault (R255) -/
  park  : Option Park
  /-- the stream bindings of v12 to v15 (R400) -/
  streams : Vector (Option Stream) 4
  /-- the RESP of the fabric request that it waits for: status, with bit 7 for LATE (R55), and data (R434) -/
  reply : Option (BitVec 8 × Word64)
  /-- the lines in state C that boundaries have given to the load parked at their homes (R190) -/
  served : List Served
  /-- the first cycle of its core in which it may issue again, after a stall count (R147), or in free mode a taken transfer (R344) -/
  stall : Nat
  /-- its next issue turn in compact mode stays empty, after a taken transfer (R344) -/
  skip  : Bool
  /-- the slots of the core that, when ready, issue once before it after a yield (R147) -/
  yielded : BitVec 4
  /-- nanoseconds left of the quantum account (R129) -/
  quantum : Nat
  /-- asked to stop -/
  stop : StopAsk
  /-- writes in flight in compact mode (R148), in issue order -/
  late  : List Late
  /-- the strand has executed EXIT in its compact, or is FAULTED there (R146, R185) -/
  gone  : Bool
  /-- units of an XFER already in the send buffer (R375) -/
  sentUnits : Nat
  /-- s[D], A and B of an XFER that the send buffer stalls, as it read them at issue (R375) -/
  xargs : Option (Word64 × Word64 × Word64)
  /-- a creation whose join word's increment on another package is under way (R118, R494) -/
  making : Option Making
  /-- its compute phase of the current superstep has ended (R182) -/
  ended : Bool
  /-- it has arrived at the superstep barrier (R185) -/
  arrived : Bool
  deriving DecidableEq, Repr

/-- The core's own registers and queues (R304, R151). -/
structure Core where
  /-- the `le` FIFO, oldest first, at most four words (R163) -/
  le    : List Word64
  /-- the `lw` FIFO -/
  lw    : List Word64
  /-- LNKST's sticky bits EOVR WOVR EUND WUND, bits 3 to 0 (R165) -/
  lnk   : BitVec 4
  /-- in debug halt (R453) -/
  halted : Bool
  /-- the slot that issued last (R145, R146) -/
  last  : Nat
  /-- the vector queue: the slots of the operations not yet bound, oldest first (R152) -/
  vq    : List Nat
  /-- the arbiter's credit (R153) -/
  acc   : Int
  /-- cycles of the core: the phase cycles in compact mode (R146, R186), issue cycles in free mode -/
  cycle : Nat
  /-- start cycles of the vector operations queued in compact mode, newest first (R156) -/
  vstart : List Nat
  /-- the posted-receive list, oldest first, at most 32 (R371) -/
  posted : List Posted
  /-- the core's CE queue, oldest first, at most 8 (R168) -/
  ceq   : List Cmd
  /-- register-fulls pushed to write streams and not yet written, oldest first (R401, R402) -/
  pushes : List Cmd
  /-- the phase cycle at which the last command's status word lands (compact mode, R419) -/
  ceAt  : Nat
  /-- the phase cycle in which the queue's last semaphore operation took effect (compact mode, R419) -/
  ceSem : Nat
  deriving DecidableEq, Repr

/-- A slice of the weight store whose valid bit is set (R157, R406): its format code, its 4,096 bits, its 192-byte companion
record, and how many slices the MLDB that wrote it loaded (R411). -/
structure Slice where
  fmt  : Fmt
  data : BitVec 4096
  comp : BitVec 1536
  run  : Nat
  deriving DecidableEq, Repr

/-- A wait on a tile semaphore (R161, R162): the semaphore, who waits (a slot, or 2^20 + queue number), for how much, and the instruction's fields. -/
structure SemWait where
  sem : Nat
  who : Nat
  n   : Nat
  w   : Ins
  deriving DecidableEq, Repr

/-- A 64-byte transfer unit in a send buffer or on its way (R184). -/
structure XferUnit where
  /-- the compact -/
  cid  : BitVec 16
  /-- index of the sending member -/
  smem : Nat
  /-- index of the receiving member -/
  dmem : Nat
  /-- tile-store offset at the destination -/
  off  : Nat
  /-- the 64 bytes -/
  data : BitVec 512
  /-- the poison flag it carries (R179) -/
  bad  : Bool
  /-- the phase cycle in which it leaves the send buffer, and the superstep of its XFER -/
  left : Nat
  step : Nat
  /-- the rounds whose pennants the sender's die had sent when it left (R138) -/
  rnd  : Word64 × Word64
  deriving DecidableEq, Repr

/-- What a tile keeps for the compact that holds it (R183, R187). -/
structure Member where
  /-- the compact's identifier -/
  cid   : BitVec 16
  /-- this tile's member index -/
  idx   : Nat
  /-- EXP of the source slots (R183); an absent slot: 0 -/
  exp   : Tbl Nat
  /-- RCV of the source slots -/
  rcv   : Tbl Nat
  /-- OVR of CSTAT -/
  ovr   : Bool
  /-- UNX of CSTAT -/
  unx   : Bool
  /-- TOUT of CSTAT -/
  tout  : Bool
  /-- the send buffer, oldest first, at most 32 units (R184) -/
  send  : List XferUnit
  /-- units that have left the buffer for a tile of this package, with the phase cycles in which they land (R184) -/
  fly   : List (XferUnit × Nat)
  /-- the first phase cycle in which the buffer may send another unit (R184) -/
  sendAt : Nat
  /-- the units counted in this superstep: source slot and phase cycle of landing (R185) -/
  lands : List (Nat × Nat)
  /-- the locked role image, from ENTRY on (R178, R306) -/
  img   : List Byte
  deriving DecidableEq, Repr

/-- The tile's own registers (R304). -/
structure Tile where
  /-- VWEIGHT (R154) -/
  vweight : BitVec 16
  /-- the arbiter's rotation pointer (R153) -/
  zptr  : Nat
  /-- TSCFG.SCR (R197) -/
  scr   : BitVec 5
  /-- a unit load is due: TSCFG.SCR as written (R131) -/
  load  : Option (BitVec 5)
  /-- the 16 semaphores (R161) -/
  sems  : Vector (BitVec 16) 16
  /-- the phase cycle of each one's last increment (R162) -/
  semAt : Vector Nat 16
  /-- the compact that holds the tile, none when free (R144) -/
  held  : Option Member
  /-- the message overflow queue, oldest first (R370) -/
  overflow : List Msg
  /-- the MX queue, oldest first, at most 8 (R159) -/
  mxq   : List Cmd
  /-- the RE queue, oldest first, at most 4 (R169) -/
  req   : List Cmd
  /-- the CE queue last served (R168) -/
  ceLast : Nat
  /-- phase cycles from which the MX and the CE are free (compact mode, R159, R408, R419) -/
  mxFree : Nat
  ceFree : Nat
  /-- when every started MX operation's result is readable (R417) -/
  mxReady : Nat
  /-- the blocked waits on semaphores, in the order in which they began (R162) -/
  semw : List SemWait
  /-- the weight store's valid slices, by slice number (R157) -/
  ws    : Tbl Slice
  /-- the vector arbiter's cycles (R153), and the one from which each lane group is free (R152) -/
  vcyc  : Nat
  lanes : Vector Nat 4
  /-- the time (ns) at which the present unit load was asked for, and the loading time that the next strand placed here is charged
  (R129, R131) -/
  loadAt : Nat
  charge : Nat
  deriving DecidableEq, Repr

/-- An entry of a cluster's address-space table (R114). -/
structure AsEnt where
  /-- the address space -/
  asid  : BitVec 16
  /-- the ASID's designated record for HANG, copied here (R136) -/
  desig : Option (BitVec 48)
  /-- records of the cluster that name the entry and are not DONE or FAULTED, and reservations -/
  uses  : Nat
  deriving DecidableEq, Repr

/-- A translation entry, the words E0 to E2 (R249). -/
structure TlbEnt where
  e0 : Word64
  e1 : Word64
  e2 : Word64
  deriving DecidableEq, Repr

/-- A fault message, the four words of R255. -/
structure FaultMsg where
  w0 : Word64
  w1 : Word64
  w2 : Word64
  w3 : Word64
  deriving DecidableEq, Repr

/-- A page-table line at its device home (R260): the translation caches that hold derived entries (0-767 a tile's, 768 + c
a TSC's), and the invalidation round of a store that waits for their answers. -/
structure PtLine where
  /-- the caches in the holder vectors -/
  holders : List Nat
  /-- the caches that have not yet answered the round in progress -/
  waiting : List Nat
  /-- caches that have removed their entries and wait for the accesses through them (R262 step 4) -/
  removed : List Nat
  /-- the slots whose stores wait for the round -/
  storers : List Nat
  deriving DecidableEq, Repr

/-- The strand dispatcher's state of a cluster (R114, R122-R127). -/
structure Cluster where
  /-- SDPOOL (R122) -/
  sdpool : Word64
  /-- the address-space table, 16 entries; none: free -/
  asids : Vector (Option AsEnt) 16
  /-- the fault messages in the TSC's mailbox, oldest first, at most 256 (R255) -/
  mailbox : List FaultMsg
  /-- the run queues by priority (R123) -/
  queues : Vector (List QEnt) 8
  /-- the placement pointer (R124) -/
  ptr   : Nat
  /-- the reservations, at most four (R125) -/
  resvs : List Resv
  /-- the pool blocks in use (R117), by index -/
  pool  : List Nat
  /-- the watch table, at most 1,024 (R365) -/
  watch : List Watch
  /-- the records SUSPENDED in this cluster, which owns their ASX (R366) -/
  suspended : List Nat
  /-- by row, the column of the tile that the row's routing engine served last (R169) -/
  reLast : Vector Nat 4
  deriving DecidableEq, Repr

/-- The die controller's parameter registers (R122). -/
structure Die where
  /-- SDCTL -/
  sdctl : Word32
  /-- SDTAGE -/
  sdtage : Word32
  /-- SDQUANT -/
  sdquant : Word32
  /-- SDTAGE's earlier values: the time (ns) of the write that ended each, for the ages that had begun (R140) -/
  ages : List (Nat × Nat)
  deriving DecidableEq, Repr

/-- The states of a directory entry (R206); an absent entry is I. -/
inductive DirState where
  | s | e | o | m | p | c
  deriving DecidableEq, Repr

/-- A cluster home's directory entry of a line (R206, R210, R211). -/
structure DirEnt where
  /-- its state -/
  st      : DirState
  /-- the tiles with clean copies -/
  sharers : BitVec 48
  /-- the owner tile in states M, O and E -/
  owner   : Nat
  /-- the arithmetic cycles of the moves of ownership within the last 1,024 fabric cycles and since the last RdS, newest first (R210): a
  fabric cycle is two of them (R6) -/
  bounces : List Nat
  /-- the line is gathering: the next RdX or Upg is granted as a P copy -/
  gather  : Bool
  /-- the P copies: tile and byte mask -/
  masks   : List (Nat × BitVec 64)
  deriving DecidableEq, Repr

/-- A line's order at its device home in unified mode (R213): write time, the largest read time granted, the owner cluster. -/
structure HomeLine where
  wts   : Word64
  rts   : Word64
  owner : Option Nat
  deriving DecidableEq, Repr

/-- A cluster's copy of a line: a lease with its timestamps in unified mode (R213), a partition line with its dirty byte mask
in partitioned mode and for lines outside HBM (R196, R218). -/
structure CopyLine where
  wts   : Word64
  rts   : Word64
  data  : BitVec 512
  dirty : BitVec 64
  deriving DecidableEq, Repr

/-- A mirror entry (R219): its line, the cluster whose dirty bytes it keeps, the bytes and their mask. -/
structure MirEnt where
  line : Nat
  src  : Nat
  mask : BitVec 64
  data : BitVec 512
  deriving DecidableEq, Repr

/-- The caches and their homes (R195-R222). -/
structure Coh where
  /-- L2ST bit 0: partitioned mode (R200) -/
  part   : Bool
  /-- the cluster directories, by cluster · 2^46 + line (R206) -/
  dir    : Tbl DirEnt
  /-- the device homes, by line (R213) -/
  home   : Tbl HomeLine
  /-- the clusters' copies, by cluster · 2^46 + line -/
  copies : Tbl CopyLine
  /-- the lines whose poison flag is set, rising (R222) -/
  poison : List Nat
  /-- the mirror entries at the buddy dies (R219) -/
  mirror : List MirEnt
  /-- the lines that each tile's cache holds, and each core's L1 data cache, newest first (R142, R199); their bytes are the cluster's -/
  tcache : Tbl (List Nat)
  l1d    : Tbl (List Nat)
  /-- the largest timestamp that an access of the package has taken, which its agents that have no LCLOCK go by; the model's own
  (notes/assumptions 115) -/
  clock  : Word64
  deriving DecidableEq, Repr

/-- A SerDes window of a group (R59): where it lies, and whether its group has withdrawn it for a switch (R65). -/
structure SerWin where
  group : Nat
  base  : Nat
  size  : Nat
  drawn : Bool
  deriving DecidableEq, Repr

/-- The response to a remote store or atomic that waits for the invalidation rounds of page-table lines (R262). -/
structure PtAck where
  lines  : List Nat
  h      : Flit
  status : BitVec 8
  data   : List Byte
  deriving DecidableEq, Repr

/-- Translation (R248-R263). -/
structure Xlat where
  /-- the translation caches, 0-767 the tiles' and 768 + c the TSCs', oldest entry first (R251) -/
  caches : Tbl (List TlbEnt)
  /-- the cores' L1 translation caches, by core, newest entry first: copies of entries of their tile's (R251) -/
  l1     : Tbl (List TlbEnt)
  /-- the page-table lines, by line (R260) -/
  ptl    : Tbl PtLine
  /-- the next TAG that a poster chooses (R255) -/
  tag    : BitVec 30
  /-- replies that MBXPOST has sent and that have not arrived: SLOT, ENG and the reply word (R448) -/
  replies : List (Nat × BitVec 4 × Word64)
  /-- responses that wait for invalidation rounds (R262) -/
  acks   : List PtAck
  deriving DecidableEq, Repr

/-- An accepted entry of a launch port, not yet placed or consumed (R80-R82). -/
structure PortEnt where
  /-- its number -/
  seq   : Word32
  /-- the eight words of the entry as read at admission -/
  words : List Word64
  /-- its members; 0 for an empty launch -/
  m     : Nat
  /-- the cluster assigned to it, and the tile-store blocks of the pool reserved there -/
  cluster : Nat
  blocks : Nat
  /-- it reserved an address-space entry of the cluster: its index -/
  asx   : Option Nat
  /-- time of the read and dispatch deadline, ns -/
  at0   : Nat
  due   : Nat
  /-- its members are placed -/
  placed : Bool
  /-- the join increment or the empty launch's store is done (R495) -/
  joined : Bool
  /-- it has waited T_age: its cluster is under port pressure (R127) -/
  aged  : Bool
  /-- the DC's access parked on a fault (R495) -/
  park  : Option Park
  /-- the page-table lines whose invalidation rounds its access, performed, still awaits (R262) -/
  pts   : List Nat
  deriving DecidableEq, Repr

/-- A launch whose members are placed in a slot of the member area (R75): its number, the address of member 0's live record, its member
count, and the members neither DONE nor FAULTED, and those FAULTED. -/
structure Launch where
  seq  : Word32
  base : Nat
  m    : Nat
  live : List Nat
  dead : List Nat
  deriving DecidableEq, Repr

/-- A launch port's registers and its accepted entries (R76). -/
structure Port where
  /-- LPBASE -/
  base  : Word64
  /-- LPMBASE -/
  mbase : Word64
  /-- LPCFG -/
  cfg   : Word64
  /-- LPTAIL -/
  tail  : Word32
  /-- LPACC -/
  acc   : Word32
  /-- LPHEAD -/
  head  : Word32
  /-- LPSTAT -/
  stat  : Word32
  /-- LPBND -/
  bnd   : Word64
  /-- accepted entries, in order -/
  ents  : List PortEnt
  /-- by slot of the member area (R75): the last launch placed there -/
  live  : Tbl Launch
  deriving DecidableEq, Repr

/-- Pennant rounds (R138, R139, R454). The units of one die stand as one, with the die's links, its loop and its optical ports as inputs
(notes/assumptions 85). -/
structure Rounds where
  /-- the round whose edge was complete last, `.dev` and `.pod` -/
  dev   : Word64
  pod   : Word64
  /-- the round that the units of each die have entered, `.dev` and `.pod` -/
  units : Vector (Word64 × Word64) 4
  /-- a round of the scope is running: begun, its edge not complete -/
  devRun : Bool
  podRun : Bool
  /-- a round of the scope is requested from its injector -/
  devWant : Bool
  podWant : Bool
  /-- PENNANT's status words: pod scope or not, the round awaited, slot, s-register, record, context block -/
  waits : List (Bool × Word64 × Landing)
  /-- the dies whose units have sent the running round's pennants, by scope -/
  told  : List (Bool × Nat)
  /-- the pennants under way on the loops and between the dies: scope, die, input -/
  fly   : List (Bool × Nat × Nat)
  /-- the inputs that have delivered the running round's pennant: die · 16 + input, by scope -/
  seen  : List (Bool × Nat)
  /-- the running `.dev` round is marked DUMP (R107) -/
  dump  : Bool
  /-- what the running `.pod` round's pennants of this package carry (notes/assumptions 85) -/
  pay   : List Byte
  /-- arrivals at this package's side of the `.pod` barriers, by number, that no pennant has told yet -/
  news  : Tbl Nat
  /-- the compacts that those pennants tell as waiting for the edge, with their supersteps (R188) -/
  ready : List (Nat × Nat)
  /-- the packages whose pennant of the running `.pod` round has come -/
  heard : List Nat
  deriving DecidableEq, Repr

/-- Time as the model keeps it (R455) and the counter of free values. -/
structure Time where
  /-- nanoseconds since cold reset -/
  ns    : Nat
  /-- arithmetic cycles since cold reset -/
  cyc   : Nat
  /-- steps taken; the model's own (notes/assumptions 3) -/
  steps : Nat
  /-- free values taken; the model's own (notes/assumptions 2) -/
  free  : Nat
  deriving DecidableEq, Repr

/-- A pinned range of a member (R173): virtual base, zero-filled or not, size in 64 KiB units. -/
structure Range where
  base : BitVec 64
  zero : Bool
  size : Nat
  deriving DecidableEq, Repr

/-- A member of a compact (R173-R175, R180). -/
structure MemberDesc where
  /-- the member's package -/
  pkg   : Nat
  /-- its global tile number on that package -/
  tile  : Nat
  /-- K0 to K3 -/
  ks    : List Nat
  /-- MREC -/
  mrec  : Nat
  /-- MCTX -/
  mctx  : Nat
  /-- the pinned ranges -/
  ranges : List Range
  /-- the physical addresses of the ranges' 4 KiB pages, in order, as translated at signing (R177) -/
  pages : List Nat
  /-- the role's entry, length and class bits T and V -/
  entry : BitVec 48
  len   : Nat
  cls   : BitVec 2
  /-- the physical addresses of the image's 4 KiB pages, in order, as translated at signing -/
  ipages : List Nat
  /-- the valid source entries: source slot, sending member, preset count (R175) -/
  srcs  : List (Nat × Nat × Nat)
  deriving DecidableEq, Repr

/-- The states of a compact (R192), in the code order of CSTAT.STATE. -/
inductive CState where
  | signing | running | stopped | stalled | dissolving
  deriving DecidableEq, Repr

/-- A held compact (R172-R194). -/
structure Compact where
  /-- its state -/
  st    : CState
  /-- the ASID of its strands -/
  asid  : BitVec 16
  /-- barrier scope: 0 clu, 1 die, 2 dev, 3 pod -/
  scope : Nat
  /-- SCNT, none when open-ended -/
  scnt  : Option Nat
  /-- TDL in microseconds, 0 for none -/
  tdl   : Nat
  /-- ENTRY WAIT, with its limit in microseconds; none for ENTRY STOP -/
  entry : Option Nat
  /-- JOIN as the member records hold it -/
  join  : Word64
  /-- JOIN's word as translated at signing: its package when it lies on a REM page, its physical address, and whether its page is
  mirrored -/
  joinPa : Option (Option Nat × Nat × Bool)
  /-- the members -/
  mems  : List MemberDesc
  /-- the superstep number -/
  step  : Nat
  /-- phase cycle and time (ns) of the last arrival at the present barrier (R185, R189) -/
  arr   : Nat
  arrNs : Nat
  /-- the `.pod` round whose edge releases the present barrier (R188) -/
  round : Option Word64
  /-- the other packages that have told their members as waiting for that edge -/
  heard : List Nat
  /-- a CDISS is pending -/
  diss  : Bool
  /-- a GSTOP that arrived during signing (R193) -/
  stopPending : Bool
  /-- the slots whose phase had ended when the compact was stopped (R134, R182) -/
  phaseEnded : List Nat
  /-- by core, how many of its inbox words came from its `le` FIFO (R133, R134) -/
  leWords : Tbl Nat
  /-- the groups that carry its traffic to each remote package, fixed at signing, and the turn towards each (R70) -/
  sets  : Tbl (List Nat)
  turn  : Tbl Nat
  /-- the status words that await the end of the signing or the dissolution, with the ns of their issue (R177) -/
  wait  : List (Landing × Nat)
  /-- ns at which it was signed (R178) -/
  t0    : Nat
  /-- the far JOIN's increment has its RESP (R180) -/
  joined : Bool
  /-- the other packages known to have all their members at the present barrier (R189) -/
  there : List Nat
  /-- signed by another package, whose start of superstep 0 is still to come (R188, notes/assumptions 120) -/
  away  : Bool
  deriving DecidableEq, Repr

/-- What another package's signing or dissolution of a compact with members here asks of this one (R176, R178, R188, R191,
notes/assumptions 120). -/
inductive FarSign where
  /-- the checks of the members here and, with them, the beginning: the descriptor's words; the members, those here with the pages of
  their ranges and images as translated on this package; JOIN's package and physical address, and whether its page is mirrored -/
  | ask (desc : List Word64) (mems : List MemberDesc) (join : Option (Nat × Nat × Bool))
  /-- every package has accepted, and the join word is incremented -/
  | start (cid : Nat)
  /-- another package has refused: the signing is none -/
  | cancel (cid : Nat)
  /-- a CDISS issued on another package -/
  | diss (cid : Nat)
  deriving DecidableEq, Repr

/-- A pinned line in state C (R179): the compact, the member, the tile and tile-store offset that hold it. -/
structure CLine where
  cid  : BitVec 16
  mem  : Nat
  tile : Nat
  off  : Nat
  deriving DecidableEq, Repr

/-- Thermal and power state (R16-R23). -/
structure Therm where
  /-- the sensor words by index k (R74); an absent source has given no sample: 0 -/
  words : Tbl Word32
  /-- throttle level in force on each die, 0-8 (R18) -/
  level : Tbl Nat
  /-- the level that each die itself needs: the dies of a compact run at the highest (R186) -/
  need : Tbl Nat
  /-- ns of the last raise or lowering of the level that a die needs, and of the level in force -/
  moved : Tbl Nat
  lmoved : Tbl Nat
  /-- the stacks whose refresh rate is doubled (R20) -/
  refresh : List Nat
  /-- droop events of each core in the open window (R21, R23) -/
  droops : Tbl Nat
  deriving DecidableEq, Repr

/-- The states of an optical port direction (R47). -/
inductive PortSt where
  | down | train | up | hold | restripe | replay | failed
  deriving DecidableEq, Repr

/-- A sequenced flit of this end: its header's fields but SEQ and ACK, its payload's meaningful bytes (R32), and the number of this
package's request that it belongs to. -/
structure OFlit where
  typ  : Nat
  dst  : BitVec 9
  src  : BitVec 9
  path : BitVec 4
  hop  : BitVec 2
  tag  : BitVec 12
  pay  : List Byte
  own  : Option Nat
  deriving DecidableEq, Repr

/-- A flit as light: the fibre that carries it, and by active wavelength the bits that it carries, lowest first (R35, R48). -/
structure Light where
  fibre : Nat
  lanes : List (Nat × Nat)
  deriving DecidableEq, Repr

/-- An OPT_LOS record still open (R54): the fields known at detection. -/
structure LosRec where
  cause : Nat
  /-- DIR: this end receives -/
  recv  : Bool
  dbl   : Bool
  fOld  : BitVec 4
  tdet  : Nat
  lvOld : Word64
  gOld  : Nat
  lOld  : Nat
  /-- NREP so far -/
  nrep  : Nat
  deriving DecidableEq, Repr

/-- One optical port (R29-R50). -/
structure OPort where
  /-- the state of its transmit direction, and of its receive direction (R47) -/
  tx    : PortSt
  rx    : PortSt
  /-- SEQ of the next new flit -/
  seq   : BitVec 12
  /-- the replay buffer: flits sent and not acknowledged, oldest first, at most 4,095 (R36) -/
  buf   : List (BitVec 12 × OFlit)
  /-- flits accepted and not yet sent, oldest first -/
  queue : List OFlit
  /-- the newest 4,096 flits that this end has put on its fibres, oldest first; the model's own (notes/assumptions 86) -/
  wire  : List Light
  /-- SEQ expected next by the receiver -/
  want  : BitVec 12
  /-- a NAK asks for `want` -/
  nak   : Bool
  /-- an acknowledgement is due (R36), and the ns at which a flit last carried one -/
  ackDue : Bool
  ackAt : Nat
  /-- the ns at which ACK last advanced, or since which flits are outstanding (R36) -/
  advAt : Nat
  /-- the SEQ last lost on the way out and how often in succession (R36) -/
  lost  : BitVec 12
  losses : Nat
  /-- live masks of the receive direction, and of the transmit direction as the peer reported them (R48) -/
  rxLive : Word64
  txLive : Word64
  /-- the wavelengths that this end's transmitter has not switched off (R48) -/
  lit   : Word64
  /-- a STRIPE_REQ waits for the restripe of the transmit direction (R49) -/
  reqDue : Bool
  /-- the stripe in force on the transmit direction: fibre set F and n (R48) -/
  fset  : BitVec 4
  n     : Nat
  /-- PORTBND: G_p and L_p (R50) -/
  g     : Nat
  l     : Nat
  /-- new work is accepted (R49) -/
  open_ : Bool
  /-- it drains for a reconfiguration (R38) -/
  drain : Bool
  /-- its bound is to be published: after a fault, or after training (R38, R49) -/
  fresh : Bool
  /-- sequenced flits that came after a pennant on this input, in order, until the unit enters the next round (R138) -/
  behind : List (List Byte)
  /-- the peer's package and port -/
  peer  : Nat
  pport : Nat
  /-- the open OPT_LOS record, and whether it only waits for the bound -/
  los   : Option LosRec
  deriving DecidableEq, Repr

/-- A request or response of which DATA flits are still to come (R41): its head flit, what it is, and the bytes so far. -/
structure Asm where
  h    : Flit
  /-- a store or atomic request; none: a RESP with its status -/
  req  : Option Request
  status : BitVec 8
  want : Nat
  data : List Byte
  deriving DecidableEq, Repr

/-- A remote read parked at the home of a line in state C (R190). -/
structure ParkedReq where
  h   : Flit
  req : Request
  deriving DecidableEq, Repr

/-- A route configuration asked for (R38, R39): entries, transit reservations by port, the ports that drain. -/
structure RouteConf where
  entries : List RouteEntry
  transit : List (Nat × Nat)
  drain   : BitVec 16
  deriving DecidableEq, Repr

/-- The optical engine (R29-R55). -/
structure Optic where
  ports  : Tbl OPort
  /-- the route table in force (R39) -/
  routes : List RouteEntry
  /-- transit reservations by port (R40, R52) -/
  transit : List (Nat × Nat)
  /-- the configuration whose ports still drain (R38) -/
  pending : Option RouteConf
  /-- bounds of other packages' ports as BOUND flits gave them (R37, R51): by this package's port · 16 + port number -/
  bounds : Tbl Word64
  /-- requests and responses in assembly -/
  asm    : List Asm
  /-- flush markers gathered: source, tag and the paths seen (R45) -/
  marks  : List (BitVec 9 × BitVec 12 × BitVec 16)
  /-- remote reads parked at lines in state C -/
  parked : List ParkedReq
  deriving DecidableEq, Repr

/-- The states of a SerDes group (R59, R62), in GSTAT's code order; `off`, before its bring-up, reads as code 0 (R59). -/
inductive GroupSt where
  | off | ready | drain | unbind | retrain | load | bind | failed
  deriving DecidableEq, Repr

/-- A transfer packet of a compact (R67). -/
structure Packet where
  cid   : BitVec 16
  sstep : Word32
  smem  : Nat
  dmem  : Nat
  off   : Nat
  data  : List Byte
  /-- the poison flags of its units, unit 0 lowest (R179) -/
  bad   : Word64
  /-- retransmissions so far (R69), its number among this package's packets (R68), and the port of its group that carries it (R70) -/
  tries : Nat
  seq   : Nat
  port  : Nat
  deriving DecidableEq, Repr

/-- A SerDes group's registers and work (R59-R69). -/
structure Group where
  /-- GSWC's TARGET, ROLE and UEM as written -/
  target : Nat
  role   : Bool
  uem    : Bool
  st     : GroupSt
  /-- PERS, with its ROLE and UEM -/
  pers   : Nat
  prole  : Bool
  puem   : Bool
  /-- PEND, with its ROLE and UEM -/
  pend   : Nat
  pdrole : Bool
  pduem  : Bool
  fb     : Bool
  lastref : Nat
  swgen  : BitVec 16
  gbnd   : Word64
  /-- an accepted switch is under way: its end counts in SWGEN; a retrain after a link failure is none -/
  sw     : Bool
  /-- a link failure in LOAD or BIND acts once READY (R66) -/
  broken : Bool
  /-- WIN0 to WIN7, two words each (R59) -/
  wins   : List (Word64 × Word64)
  /-- transfer packets accepted and unacknowledged, oldest first (R69) -/
  out    : List Packet
  /-- accesses of engine commands through its windows accepted and not yet answered, oldest first: the command's queue and the bytes (R63) -/
  work   : List (Nat × Nat)
  /-- packets held for the next superstep (R68) -/
  held   : List Packet
  /-- packets discarded: the error counter of R68 -/
  errs   : Nat
  /-- packets sent so far, which the group's ports take in turn (R70); and those handed over, by source package and number: a duplicate is
  discarded (R68) -/
  sent   : Nat
  got    : List (Nat × Nat)
  /-- training attempts left in RETRAIN (R62, R66) -/
  tries  : Nat
  /-- the response to the last inbound request: its status (R418's codes) and data (R63) -/
  resp   : Nat × List Byte
  deriving DecidableEq, Repr

/-- An event record: up to eight words (R89, R90). -/
abbrev EvRec := List Word64

/-- The event queue (R88, R89). -/
structure EvQ where
  base  : Word64
  en    : Bool
  int   : Bool
  log2n : BitVec 5
  tail  : Word32
  head  : Word32
  lost  : Word32
  /-- the records the NMC holds, oldest first, at most 1,024 -/
  held  : List EvRec
  /-- EQTAIL has advanced since MSI-X vector 0 was last sent, and when that was; how often it was sent -/
  due   : Bool
  sentAt : Nat
  sent  : Nat
  deriving DecidableEq, Repr

/-- A controller image as a slot holds it: the header of R94 and the digest of its body; none: empty. -/
structure Image where
  ver    : Word64
  fmtMin : Nat
  fmtMax : Nat
  fmtOut : Nat
  floor  : Word64
  digest : Nat
  deriving DecidableEq, Repr

/-- The states of an update (R96, R98), in STATE's code order. -/
inductive UpSt where
  | idle | stage | waithp | freeze | start | commit | rollback
  deriving DecidableEq, Repr

/-- A command that a frozen controller holds unresolved (R100). -/
inductive HeldCmd where
  /-- GSWC of a group, with GO -/
  | go (group : Nat) (word : Word32)
  /-- LPCFG with EN set -/
  | lpcfg (port : Nat) (value : Word64)
  /-- a new route configuration -/
  | route (c : RouteConf)
  /-- a dispatcher parameter written by a slot (R122) -/
  | sd (slot num : Nat) (v : Word64)
  deriving DecidableEq, Repr

/-- The NMC's update, attestation and dump registers (R93-R109). -/
structure Nmc where
  upaddr : Word64
  ctl    : Nat
  wd     : Nat
  st     : UpSt
  uctl   : Nat
  result : Nat
  upgen  : BitVec 8
  /-- ACTSLOT: bit i, controller i boots from slot B -/
  act    : BitVec 41
  /-- the image slots, controller · 2 + (0 A, 1 B) -/
  images : Tbl Image
  /-- VFLOOR by controller -/
  floors : Tbl Word64
  /-- TFRZ of the update under way, and the time its present state began -/
  tfrz   : Nat
  since  : Nat
  /-- the `.dev` round in force at FREEZE: PRND (R101) -/
  prnd   : Word64
  /-- commands held for the frozen controller, oldest first -/
  held   : List HeldCmd
  attaddr : Word64
  /-- ATTNONCE, four words -/
  nonce  : List Word64
  attgen : Word32
  /-- quotes asked for and not yet written -/
  quotes : Nat
  dumphost : Word64
  /-- the hand-over record of the update under way: header and body in words (R101-R104) -/
  record : List Word64
  /-- the fatal error declared: cause and time (R107) -/
  fatal  : Option (Nat × Nat)
  /-- the round at whose edge every unit has stopped for the dump (R107) -/
  cut    : Option Word64
  /-- the dump of that error has ended -/
  dumped : Bool
  /-- the header kept in the always-on island (R108) -/
  kept   : List Word64
  /-- the key store's public keys 0 to 3 (R94, R95), and the device attestation key (R106) -/
  keys   : List (BitVec 256)
  attkey : BitVec 256
  /-- the ports' tables of deadlines and clusters, as a hand-over record leaves them in private memory (R102) -/
  tables : Tbl (List Word64)
  deriving DecidableEq, Repr

/-- A tile's request that its cluster home has not yet answered (R207-R209). -/
structure TileReq where
  tile : Nat
  line : Nat
  kind : CohReq
  mask : BitVec 64
  /-- the ticket of a NACK at a full miss table, and whether it has been called -/
  ticket : Option (BitVec 16)
  called : Bool
  /-- CONFLICT was sent: the home will answer NACK -/
  clash : Bool
  /-- probes parked with ORD set, oldest first -/
  probes : List ProbeKind
  /-- the probes that the home has sent for it and not yet seen acknowledged, by tile (R207) -/
  acks   : List (Nat × ProbeKind)
  deriving DecidableEq, Repr

/-- An L2 slice's tables (R205, R209). -/
structure SliceTabs where
  /-- the miss table, at most 64 entries: line, and the tiles combined in it, at most 8 -/
  miss  : List (Nat × List Nat)
  /-- the next ticket, and the tickets waiting, oldest first, with tile and line -/
  next  : BitVec 16
  wait  : List (BitVec 16 × Nat × Nat)
  /-- the write-back buffer's lines, at most 16, and the write-backs that circle, with their tiles -/
  wb    : List Nat
  circ  : List (Nat × Nat)
  deriving DecidableEq, Repr

/-- Who asked the MSA for an atomic (R221). -/
inductive MsaFrom where
  | slot (n : Nat) (recAddr : BitVec 48)
  | remote (h : Flit)
  deriving DecidableEq, Repr

/-- An atomic at an MSA (R221): operand address and bytes, operation and values. -/
structure MsaReq where
  pa   : Nat
  k    : Nat
  aop  : Nat
  b    : Nat
  c    : Nat
  who  : MsaFrom
  /-- the rounds whose pennants the asking slot's die had sent (R138) -/
  rnd  : Word64 × Word64
  deriving DecidableEq, Repr

/-- A GSTOP under way (R132, R133, R449): whom its status word goes to, the members asked to stop, how many it has counted, and
whether some member could not be stopped. -/
structure GangStop where
  land  : Landing
  /-- its scope code -/
  sc    : Nat
  /-- the compact it stops, none for a gid -/
  cid   : Option Nat
  slots : List Nat
  count : Nat
  part  : Bool
  deriving DecidableEq, Repr

/-- An L2 mode switch under way or waiting (R201, R452). -/
structure L2Switch where
  part : Bool
  land : Landing
  since : Nat
  deriving DecidableEq, Repr

/-- The links between the dies and the dies themselves (R141, R220): the failed links 0 (0-1), 1 (1-3), 2 (3-2), 3 (2-0), the
suspected dies and the dies taken over. -/
structure Ring where
  down : List Nat
  suspect : List Nat
  gone : List Nat
  deriving DecidableEq, Repr

/-- The host's side (R73): the answer of its last BAR2 read with the poison mark, and the reads parked at lines in state C: 16 for
the host's or the number of the group that it came in by, address and length. -/
structure HostSide where
  answer : List Byte
  bad    : Bool
  parked : List (Nat × Nat × Nat)
  /-- the largest write time of the host's stores: what a launch's members start from (R84, R213) -/
  clock  : Word64
  deriving DecidableEq, Repr

/-- Whose move comes next: a slot's, or an agent's (notes/assumptions 1). -/
inductive Turn where
  | slot (n : Nat)
  | event (i : Instr)
  deriving DecidableEq, Repr

/-- A boot tree entry (R316), with the strand records that the placement names for its tile (R315): the target tile by its global
number, the source tile (none: the DC loads it from memory), the lines of its role image, the records by slot of the tile, and whether
the tile has its image. -/
structure BootEnt where
  tile : Nat
  src : Option Nat
  image : List Nat
  recs : List (Nat × Nat)
  done : Bool
  deriving DecidableEq, Repr

/-- The state of the part. An absent key of a table stands for the component's reset value. -/
structure State where
  /-- the strand slots by global slot number (R9); 12,288 + c is the TSC of cluster c -/
  slots : Tbl Slot
  /-- the cores, by global tile · 4 + core; 3,072 + c is the TSC of cluster c -/
  cores : Tbl Core
  /-- the tiles, by global tile number -/
  tiles : Tbl Tile
  /-- the clusters -/
  clusters : Tbl Cluster
  /-- the dies -/
  dies : Tbl Die
  /-- the slot whose turn it is when the agenda is empty; the model's own -/
  cur : Nat
  /-- the moves fixed to come next; the model's own (notes/assumptions 1) -/
  agenda : List Turn
  /-- memory by physical address (R195), canonical: rising addresses, no byte 0 -/
  mem : List Host.Cell
  /-- the tile stores, by global tile · 2^20 + offset (R142), canonical as `mem` -/
  ts : List Host.Cell
  /-- the L1 instruction caches' lines, by global tile · 2^46 + line (R306) -/
  icache : Tbl (BitVec 512)
  /-- the entries of the boot tree handed to the dies' controllers, in its order (R316, notes/assumptions 108) -/
  boot : List BootEnt
  /-- what other packages' signings ask of this one, in the order of arrival (R176, R188, notes/assumptions 120) -/
  signs : List FarSign
  /-- caches and homes -/
  coh : Coh
  /-- translation -/
  xl : Xlat
  /-- messages under way (R369) -/
  sent : List Sent
  /-- status words under way (R140) -/
  landings : List Landing
  /-- the barriers, by unit key · 16 + number (R367) -/
  barriers : Tbl Barrier
  /-- the designated record of each ASID: HANGREC (R136) -/
  desig : Tbl Nat
  /-- the watched lines written since their watches were last evaluated, by
  (point · 16 + cluster) · 2^46 + line (R365) -/
  touched : List Nat
  /-- pennant rounds -/
  rounds : Rounds
  /-- the fabric -/
  fab : Fab
  /-- the launch ports (R74, R76) -/
  ports : Tbl Port
  /-- UEPKG masks: the packages that a group reaches in personality 2 (R70) -/
  uepkg : Tbl (BitVec 512)
  /-- the bound SerDes windows (R59, R254) -/
  windows : List SerWin
  /-- SerDes group 0 has reached READY since cold reset: the host range is backed (R254) -/
  hostUp : Bool
  /-- the held compacts by CID (R192) -/
  compacts : Tbl Compact
  /-- the lines in state C (R179) -/
  clines : Tbl CLine
  /-- the poisoned 64-byte granules of compact-held tile stores, by global tile · 2^14 + granule (R179) -/
  tsPoison : List Nat
  /-- RDY0 to RDY3, word n at bits 32·n (R24) -/
  rdy : BitVec 128
  /-- FAIL0 to FAIL3 -/
  fail : BitVec 128
  /-- RDYGEN (R28) -/
  rdygen : Word32
  /-- sensors, throttling, droops -/
  therm : Therm
  /-- the optical engine -/
  optic : Optic
  /-- the SerDes groups -/
  groups : Tbl Group
  /-- the event queue -/
  evq : EvQ
  /-- the NMC's update, attestation and dump registers -/
  nmc : Nmc
  /-- the requests of tiles at their cluster homes -/
  treqs : List TileReq
  /-- the slices' tables, by cluster · 12 + slice -/
  tabs : Tbl SliceTabs
  /-- the atomics at the MSAs, in arrival order (R221) -/
  msaq : List MsaReq
  /-- the FENCE.sc.dev that wait for a ticket, by slot, and the tickets issued (R233) -/
  scq : List Nat
  scTicket : Nat
  /-- the TLBWRs whose registration is not yet acknowledged, with the status that will land (R261) -/
  tlbRegs : List Landing
  /-- the GSTOPs under way -/
  gstops : List GangStop
  /-- the L2 mode switches, the running one first -/
  l2sw : List L2Switch
  /-- links between dies, suspected and lost dies -/
  ring : Ring
  /-- the host's side of BAR2 -/
  host : HostSide
  /-- by cluster · 2^16 + ASID, the cycle at which a message or an engine command of the address space was last in flight there
  (R136) -/
  quiet : Tbl Nat
  /-- the address spaces whose HANG has been delivered, the detector not rearmed (R136) -/
  hung : List Nat
  /-- the records that take HANG before their next instruction: delivered while PARKED or SUSPENDED (R136) -/
  hangs : List Nat
  /-- time -/
  time : Time
  /-- standby power stands (05 R108) -/
  power : Bool
  deriving DecidableEq, Repr

/-- An empty vector register: untagged, zero. -/
def VReg.reset : VReg := ⟨none, 0⟩
/-- An empty tile register. -/
def TReg.reset : TReg := ⟨none, 0, 0⟩

/-- A slot after reset: no strand; PFB_CEIL 20 (R258), every other register 0 (R286, R437, notes/assumptions 6). -/
def Slot.reset : Slot where
  occ := false
  recAddr := 0
  asx := 0
  cls := 0
  gid := 0
  prio := 0
  ctx := 0
  pc := 0
  s := Vector.replicate 64 0
  p := 1
  v := Vector.replicate 16 VReg.reset
  m := Vector.replicate 4 0
  t := Vector.replicate 2 TReg.reset
  loops := []
  status := 0
  cause := 0
  epc := 0
  tvec := 0
  fflags := 0
  lclock := 0
  pfb := 20
  lh := false
  lm := none
  wake := false
  busyS := 0
  busyV := 0
  busyT := 0
  wait := .none
  park := none
  streams := Vector.replicate 4 none
  reply := none
  served := []
  stall := 0
  skip := false
  yielded := 0
  quantum := 0
  stop := .none
  late := []
  gone := false
  sentUnits := 0
  xargs := none
  making := none
  ended := false
  arrived := false

/-- A core after reset. -/
def Core.reset : Core := ⟨[], [], 0, false, 3, [], 0, 0, [], [], [], [], 0, 0⟩
/-- A tile after reset: VWEIGHT 0x8888 (R154), SCR 0 (R197), semaphores 0 (R162). -/
def Tile.reset : Tile := ⟨0x8888, 0, 0, none, Vector.replicate 16 0, Vector.replicate 16 0, none, [], [], [], 3, 0, 0, 0, [], [], 0, Vector.replicate 4 0, 0, 0⟩
/-- A cluster after reset (R122). -/
def Cluster.reset : Cluster := ⟨0, Vector.replicate 16 none, [], Vector.replicate 8 [], 0, [], [], [], [], Vector.replicate 4 11⟩
/-- A die after reset: SDCTL PPRIO 4 and D 4, SDTAGE 50,000, SDQUANT 2,000,000 (R122). -/
def Die.reset : Die := ⟨0x44, 50000, 2000000, []⟩
/-- A line's order at its home after reset: no timestamp, no owner (R201, R213). -/
def HomeLine.reset : HomeLine := ⟨0, 0, none⟩
/-- A page-table line without holders. -/
def PtLine.reset : PtLine := ⟨[], [], [], []⟩
/-- Caches and homes after cold reset: unified mode (R200), nothing cached, no poison. -/
def Coh.reset : Coh := ⟨false, [], [], [], [], [], [], [], 0⟩
/-- Translation after cold reset: empty caches (R249). -/
def Xlat.reset : Xlat := ⟨[], [], [], 0, [], []⟩
/-- Time at cold reset. -/
def Time.reset : Time := ⟨0, 0, 0, 0⟩

/-- A launch port at reset (R76). -/
def Port.reset : Port := ⟨0, 0, 0, 0, 0, 0, 0, 0, [], []⟩
/-- A port of the optical engine at reset (R47): DOWN. -/
def OPort.reset : OPort where
  tx := .down
  rx := .down
  seq := 0
  buf := []
  queue := []
  wire := []
  want := 0
  nak := false
  ackDue := false
  ackAt := 0
  advAt := 0
  lost := 0
  losses := 0
  rxLive := 0
  txLive := 0
  lit := BitVec.allOnes 64
  reqDue := false
  fset := 0
  n := 0
  g := 0
  l := 0
  open_ := false
  drain := false
  fresh := false
  behind := []
  peer := 0
  pport := 0
  los := none
/-- A SerDes group at reset (R58, R59): it trains in personality 0, role EP; what the NMC configuration names for the others is
not given (notes/assumptions 8). -/
def Group.reset : Group :=
  ⟨0, false, false, .off, 0, false, false, 0, false, false, false, 0, 0, 0, false, false, List.replicate 8 (0, 0), [], [], [], 0, 0, [], 2, (0, [])⟩
/-- The event queue at reset (R88). -/
def EvQ.reset : EvQ := ⟨0, false, false, 0, 0, 0, 0, [], false, 0, 0⟩
/-- The NMC's registers at reset (R96); ACTSLOT names slot A for every controller (notes/assumptions 8), VFLOOR 0 (R95). -/
def Nmc.reset : Nmc := ⟨0, 0, 0, .idle, 0, 0, 0, 0, [], [], 0, 0, 0, [], 0, [0, 0, 0, 0], 0, 0, 0, [], none, none, false, [], [0, 0, 0, 0], 0, []⟩
/-- A slice's tables at reset. -/
def SliceTabs.reset : SliceTabs := ⟨[], 0, [], [], []⟩

/-- The part right after cold reset: nothing ready, no strand placed, memory with nothing listed. -/
def State.reset : State where
  slots := []
  cores := []
  tiles := []
  clusters := []
  dies := []
  cur := 0
  agenda := []
  mem := []
  ts := []
  icache := []
  boot := []
  signs := []
  coh := Coh.reset
  xl := Xlat.reset
  sent := []
  landings := []
  barriers := []
  desig := []
  touched := []
  rounds := ⟨0, 0, Vector.replicate 4 (0, 0), false, false, false, false, [], [], [], [], false, [], [], [], []⟩
  fab := ⟨0, [], [], 0, [], [], []⟩
  ports := []
  uepkg := []
  windows := []
  hostUp := false
  compacts := []
  clines := []
  tsPoison := []
  rdy := 0
  fail := 0
  rdygen := 0
  therm := ⟨[], [], [], [], [], [], []⟩
  optic := ⟨[], [], [], none, [], [], [], []⟩
  groups := []
  evq := EvQ.reset
  nmc := Nmc.reset
  treqs := []
  tabs := []
  msaq := []
  scq := []
  scTicket := 0
  tlbRegs := []
  gstops := []
  l2sw := []
  ring := ⟨[], [], []⟩
  host := ⟨[], false, [], 0⟩
  quiet := []
  hung := []
  hangs := []
  time := Time.reset
  power := true

/-- Why a run stops with a fault. -/
inductive Fault where
  /-- raised by every step and every move while the part has no standby power (POWER_LOSS, 05 R108): nothing runs. Safe. -/
  | noPower
  deriving DecidableEq, Repr

/-- Why an instruction has no meaning in this model. -/
inductive Refusal where
  /-- raised by the arms of exec that are not modelled yet. Safe. -/
  | notModelled (mnemonic : String)
  deriving DecidableEq, Repr

end Sys2Proof.Machine
end

