-- ==== Sys2Proof/Machine/Access.lean ====
section
/-! DEFINITION. Where the units lie (00 R9, 09 R196, 01 R24), and the reads and writes of slots, cores, tiles and their
registers. A register has one home; what is hard-wired (s0, p0, m0, R300) is decided here. -/

namespace Sys2Proof.Machine
open Sys2Proof

/-- Strand slots of the package's compute cores (R9). -/
def slotCount : Nat := 12288
/-- Is this the slot of a translation service core? -/
def isTsc (n : Nat) : Bool := decide (slotCount ≤ n)
/-- The global tile of a slot (R9); a TSC has a number past the tiles. -/
def tileOf (n : Nat) : Nat := if isTsc n then 768 + (n - slotCount) else n / 16
/-- The core number of a slot (R22); 3,072 + c for the TSC of cluster c. -/
def coreOf (n : Nat) : Nat := if isTsc n then 3072 + (n - slotCount) else n / 4
/-- Core `k` of a tile; a TSC has one core. -/
def coreAt (t k : Nat) : Nat := if t < 768 then t * 4 + k else 3072 + (t - 768)
/-- The cluster of a tile or of a TSC's tile number. -/
def clusterOfTile (t : Nat) : Nat := if t < 768 then t / 48 else (t - 768) % 16
/-- The cluster of a slot. -/
def clusterOf (n : Nat) : Nat := if isTsc n then (n - slotCount) % 16 else n / 768
/-- The die of a slot. -/
def dieOf (n : Nat) : Nat := clusterOf n / 4
/-- The translation cache that serves a slot: its tile's, or its TSC's (R251, R446). -/
def cacheOf (n : Nat) : Nat := tileOf n

/-- The readiness number of a function: 32·word + bit (R24). -/
def rdyIndex : Func → Nat
  | .clu c => c
  | .hbm s => 16 + s
  | .sds g => 32 + g
  | .opt p => 48 + p
  | .nmc => 64
  | .dcr d => 65 + d
  | .oec d => 69 + d
  | .tscf c => 73 + c
  | .sgc g => 96 + g

/-- Is the function ready? -/
def State.ready (s : State) (f : Func) : Bool := bit s.rdy (rdyIndex f)
/-- Has the function failed? -/
def State.failed (s : State) (f : Func) : Bool := bit s.fail (rdyIndex f)

/-- A slot. -/
def State.getSlot (s : State) (n : Nat) : Slot := Tbl.get s.slots n Slot.reset
/-- A slot replaced. -/
def State.putSlot (s : State) (n : Nat) (x : Slot) : State := { s with slots := Tbl.set s.slots n x }
/-- The slot whose turn it is. -/
def State.slot (s : State) : Slot := s.getSlot s.cur
/-- The current slot replaced. -/
def State.setSlot (s : State) (x : Slot) : State := s.putSlot s.cur x
/-- A change of one slot. -/
def State.modSlot (s : State) (n : Nat) (f : Slot → Slot) : State := s.putSlot n (f (s.getSlot n))
/-- A core. -/
def State.core (s : State) (n : Nat) : Core := Tbl.get s.cores n Core.reset
/-- A core replaced. -/
def State.setCore (s : State) (n : Nat) (x : Core) : State := { s with cores := Tbl.set s.cores n x }
/-- A tile. -/
def State.tile (s : State) (n : Nat) : Tile := Tbl.get s.tiles n Tile.reset
/-- A tile replaced. -/
def State.setTile (s : State) (n : Nat) (x : Tile) : State := { s with tiles := Tbl.set s.tiles n x }
/-- A cluster. -/
def State.cluster (s : State) (n : Nat) : Cluster := Tbl.get s.clusters n Cluster.reset
/-- A cluster replaced. -/
def State.setCluster (s : State) (n : Nat) (x : Cluster) : State := { s with clusters := Tbl.set s.clusters n x }
/-- A die. -/
def State.die (s : State) (n : Nat) : Die := Tbl.get s.dies n Die.reset
/-- A die replaced. -/
def State.setDie (s : State) (n : Nat) (x : Die) : State := { s with dies := Tbl.set s.dies n x }

/-- Class bit V: the strand owns vector state (R111). -/
def Slot.clsV (x : Slot) : Bool := bit x.cls 0
/-- Class bit T. -/
def Slot.clsT (x : Slot) : Bool := bit x.cls 1
/-- Class bit C: a compact member. -/
def Slot.clsC (x : Slot) : Bool := bit x.cls 2
/-- Class bit G: a gang member. -/
def Slot.clsG (x : Slot) : Bool := bit x.cls 3

/-- s[n]; s0 reads as zero (R300). -/
def Slot.getS (x : Slot) (n : Nat) : Word64 := if n = 0 then 0 else (x.s[n]?).getD 0
/-- s[n] := v; a write to s0 is discarded (R300). -/
def Slot.setS (x : Slot) (n : Nat) (v : Word64) : Slot := if n = 0 then x else { x with s := x.s.setIfInBounds n v }
/-- p[n]; p0 reads as true. -/
def Slot.getP (x : Slot) (n : Nat) : Bool := n == 0 || bit x.p n
/-- p[n] := b; a write to p0 is discarded. -/
def Slot.setP (x : Slot) (n : Nat) (b : Bool) : Slot := if n = 0 then x else { x with p := setBit x.p n b }
/-- m[n]; m0 reads as all ones. -/
def Slot.getM (x : Slot) (n : Nat) : Word64 := if n = 0 then BitVec.allOnes 64 else (x.m[n]?).getD 0
/-- m[n] := v; a write to m0 is discarded. -/
def Slot.setM (x : Slot) (n : Nat) (v : Word64) : Slot := if n = 0 then x else { x with m := x.m.setIfInBounds n v }
/-- v[n]. -/
def Slot.getV (x : Slot) (n : Nat) : VReg := (x.v[n]?).getD VReg.reset
/-- v[n] := r. -/
def Slot.setV (x : Slot) (n : Nat) (r : VReg) : Slot := { x with v := x.v.setIfInBounds n r }
/-- t[n]. -/
def Slot.getT (x : Slot) (n : Nat) : TReg := (x.t[n]?).getD TReg.reset
/-- t[n] := r. -/
def Slot.setT (x : Slot) (n : Nat) (r : TReg) : Slot := { x with t := x.t.setIfInBounds n r }

/-- `lc`: the count of the top entry of the loop stack, 0 when it is empty (R346, R348). -/
def Slot.lc (x : Slot) : Word32 := match x.loops with
  | [] => 0
  | e :: _ => e.count
/-- `lc` := v; discarded while the loop stack is empty (R348). -/
def Slot.setLc (x : Slot) (v : Word32) : Slot := match x.loops with
  | [] => x
  | e :: r => { x with loops := { e with count := v } :: r }

/-- The slot runs in supervisor state; a TSC's SUP reads 1 (R436). -/
def State.sup (s : State) (n : Nat) : Bool := isTsc n || bit (s.getSlot n).status 0

/-- Is the slot's core in compact mode (R144)? -/
def State.compactAt (s : State) (n : Nat) : Bool := !isTsc n && (s.tile (tileOf n)).held.isSome && (s.getSlot n).clsC
/-- Is the current slot's core in compact mode? -/
def State.compact (s : State) : Bool := s.compactAt s.cur

/-- The member strands of a slot's core in its compact: the length of the issue rotation (R146, R180). -/
def State.rotation (s : State) (n : Nat) : Nat :=
  match (s.tile (tileOf n)).held with
  | some m =>
    match Tbl.get? s.compacts m.cid.toNat with
    | some c => ((c.mems[m.idx]?).bind fun d => d.ks[coreOf n % 4]?).getD 1
    | none => 1
  | none => 1

/-- The first cycle in which slot `n` issues again after an issue now with stall count `st` and, when `taken`, an empty cycle of free
mode (R147, R344); the empty turn of compact mode is `Slot.skip`. -/
def State.nextTurn (s : State) (n st : Nat) (taken : Bool) : Nat :=
  let gap := if taken && !s.compactAt n then 1 else 0
  (s.core (coreOf n)).cycle + 1 + max st gap

/-- The slot's own system registers written under their layouts (R437, R286, R213, R258); another number: unchanged. -/
def Slot.writeSys (x : Slot) (k : Nat) (v : Word64) : Slot :=
  match k with
  | 0x00 => { x with status := v &&& 7 }
  | 0x01 => { x with cause := v &&& 0xFFFFFFFFFFFF07FF }
  | 0x02 => if fld v 47 0 % 12 = 0 then { x with epc := v &&& 0xFFFFFFFFFFFF } else x
  | 0x03 => if fld v 47 0 % 12 = 0 then { x with tvec := v &&& 0xFFFFFFFFFFFF } else x
  | 0x04 => { x with fflags := v.setWidth 6 }
  | 0x05 => { x with lclock := if x.lclock.toNat ≤ v.toNat then v else x.lclock }
  | 0x06 => if 8 ≤ fld v 4 0 && fld v 4 0 ≤ 30 then { x with pfb := v &&& 31 } else x
  | _ => x

/-- A register write that lands (R148): the last step of every instruction that writes a register. -/
def Slot.land (x : Slot) : RegWrite → Slot
  | .s n v => x.setS n v
  | .p n b => x.setP n b
  | .v n r => x.setV n r
  | .m n v => x.setM n v
  | .t n r => x.setT n r
  | .lc v => x.setLc v
  | .sys k v => x.writeSys k v
  | .flags f => { x with fflags := x.fflags ||| f }
  | .push e => { x with loops := e :: x.loops }
  | .link _ _ => x
  | .ts _ _ => x
  | .sem _ _ => x

/-- The next free value (notes/assumptions 2), and the state that has taken it. -/
def State.freeVal (s : State) : Word64 × State :=
  (Config.freeWord s.time.free, { s with time := { s.time with free := s.time.free + 1 } })

end Sys2Proof.Machine
end

