-- ==== Sys2Proof/Machine/Mem.lean ====
section
/-! DEFINITION. Memory: bytes and lines, the copies that clusters hold and their order in unified mode (09 R213-R215), the
partitions (R218), the directory (R206-R212), poison (R222) and the tile stores (R197-R199). -/

namespace Sys2Proof.Machine
open Sys2Proof

/-- The byte at address `a`; a byte that nothing has written reads as 0 (notes/assumptions 7). -/
def Mem.get (m : List Host.Cell) (a : Nat) : Byte := Tbl.get m a 0
/-- Byte `a` written; a byte 0 is not listed. -/
def Mem.put (m : List Host.Cell) (a : Nat) (b : Byte) : List Host.Cell := if b = 0 then Tbl.erase m a else Tbl.set m a b
/-- The canonical form: addresses strictly rising, no byte 0 listed. -/
def Memory.wf (m : List Host.Cell) : Bool := rising (m.map Prod.fst) && m.all fun c => c.2 != 0
/-- `k` bytes from `a`, as a number, lowest address least significant (R4). -/
def Mem.read (m : List Host.Cell) (a : Nat) : Nat → Nat
  | 0 => 0
  | k + 1 => (Mem.get m a).toNat + (Mem.read m (a + 1) k <<< 8)
/-- The low `k` bytes of `v` from `a`. -/
def Mem.write (m : List Host.Cell) (a v : Nat) : Nat → List Host.Cell
  | 0 => m
  | k + 1 => Mem.write (Mem.put m a (BitVec.ofNat 8 v)) (a + 1) (v >>> 8) k
/-- The bytes of a 64-byte line at `a` that `mask` names. -/
def Mem.writeMask (m : List Host.Cell) (a v : Nat) (mask : BitVec 64) : Nat → List Host.Cell
  | 0 => m
  | k + 1 => let m' := Mem.writeMask m a v mask k
             if bit mask k then Mem.put m' (a + k) (BitVec.ofNat 8 (v >>> (8 * k))) else m'
/-- A list of bytes from `a`. -/
def Mem.writeBytes (m : List Host.Cell) (a : Nat) : List Byte → List Host.Cell
  | [] => m
  | b :: r => Mem.writeBytes (Mem.put m a b) (a + 1) r

/-- First address past the HBM (R195). -/
def hbmEnd : Nat := 0x6000000000
/-- One stack's bytes. -/
def stackSize : Nat := 0xC00000000
/-- First address of the host range. -/
def hostBase : Nat := 0x8000000000000
/-- Does the physical address lie in this package's HBM? -/
def isHbm (pa : Nat) : Bool := decide (pa < hbmEnd)
/-- The line of a physical address. -/
def lineOf (pa : Nat) : Nat := pa / 64
/-- The key of a line in a cluster (or of a line in a tile). -/
def lineKey (c line : Nat) : Nat := c * 2 ^ 46 + line
/-- The device home's cluster (R196). -/
def homeCluster (pa : Nat) : Nat :=
  4 * (pa / stackSize / 2) + ((pa / 2 ^ 12 % 4) ^^^ (pa / 2 ^ 20 % 4))
/-- The slice of a line in its clusters (R196). -/
def sliceOf (line : Nat) : Nat := line % 12

/-- Is the line's poison flag set? -/
def State.poisoned (s : State) (line : Nat) : Bool := s.coh.poison.contains line
/-- The caches and homes replaced. -/
def State.withCoh (s : State) (c : Coh) : State := { s with coh := c }
/-- A line's flag set and its bytes 0xFF (R222). -/
def State.setPoison (s : State) (line : Nat) : State :=
  { s with coh := { s.coh with poison := insertNat line s.coh.poison },
           mem := Mem.write s.mem (64 * line) (2 ^ 512 - 1) 64 }
/-- A line's flag cleared. -/
def State.clearPoison (s : State) (line : Nat) : State :=
  if s.poisoned line then { s with coh := { s.coh with poison := s.coh.poison.filter (· != line) } } else s

/-- A line's order at its device home. -/
def State.home (s : State) (line : Nat) : HomeLine := Tbl.get s.coh.home line HomeLine.reset
/-- A line's order replaced. -/
def State.setHome (s : State) (line : Nat) (h : HomeLine) : State := s.withCoh { s.coh with home := Tbl.set s.coh.home line h }
/-- The copy that a cluster holds of a line. -/
def State.copy (s : State) (c line : Nat) : Option CopyLine := Tbl.get? s.coh.copies (lineKey c line)
/-- A cluster's copy replaced. -/
def State.setCopy (s : State) (c line : Nat) (x : CopyLine) : State :=
  s.withCoh { s.coh with copies := Tbl.set s.coh.copies (lineKey c line) x }
/-- A cluster's copy dropped. -/
def State.dropCopy (s : State) (c line : Nat) : State :=
  s.withCoh { s.coh with copies := Tbl.erase s.coh.copies (lineKey c line) }
/-- The directory entry of a line in a cluster; none is state I (R206). -/
def State.dirOf (s : State) (c line : Nat) : Option DirEnt := Tbl.get? s.coh.dir (lineKey c line)
/-- Does a directory entry name tile `t` (0-47) of its cluster: as a sharer or owner, or with a P copy (R206, R210)? -/
def dirNames (e : Option DirEnt) (t : Nat) : Bool := (e.map fun e => bit e.sharers t || e.masks.any fun m => m.1 == t).getD false
/-- A line removed from the caches of the tiles of cluster `c` that `keep` does not spare, with the L1 copies in the same step (R199). -/
def Coh.prune (x : Coh) (c line : Nat) (keep : Nat → Bool) : Coh :=
  let cut (t : Nat) (l : List Nat) : List Nat := if t / 48 = c && !keep (t % 48) then l.filter (· != line) else l
  { x with tcache := x.tcache.map fun e => (e.1, cut e.1 e.2), l1d := x.l1d.map fun e => (e.1, cut (e.1 / 4) e.2) }
/-- A directory entry replaced, or made I. -/
def State.putDir (s : State) (c line : Nat) (e : Option DirEnt) : State :=
  s.withCoh { s.coh with dir := match e with
    | some e => Tbl.set s.coh.dir (lineKey c line) e
    | none => Tbl.erase s.coh.dir (lineKey c line) }
/-- A directory entry replaced, or made I, and the copies gone that it does not name. -/
def State.setDir (s : State) (c line : Nat) (e : Option DirEnt) : State :=
  let s1 := s.putDir c line e
  s1.withCoh (s1.coh.prune c line (dirNames e))

/-- The line as memory holds it, as a number of 512 bits. -/
def State.memLine (s : State) (line : Nat) : BitVec 512 := BitVec.ofNat 512 (Mem.read s.mem (64 * line) 64)

/-- Does a plain access to this line go through the accessing cluster's own copies: partitioned mode for HBM lines, both modes
for the others (R196, R218, R224)? -/
def State.partLine (s : State) (line : Nat) : Bool := s.coh.part || !isHbm (64 * line)

/-- Is the line a PT line, served at its device home (R260)? -/
def State.isPt (s : State) (line : Nat) : Bool := (Tbl.get? s.xl.ptl line).isSome

/-- A line has been written at a point, 0 to 15 a cluster home's copy, 16 memory, the device home or the MSA: the SDs that watch
it will evaluate their watches there (R365). -/
def State.note (s : State) (line : Nat) (pt : Nat := 16) : State :=
  let hit := (s.clusters.filter fun c => c.2.watch.any fun w => w.pa / 64 == line).map Prod.fst
  { s with touched := hit.foldl (fun l c => insertNat (lineKey (pt * 16 + c) line) l) s.touched }

/-- The mirror entries of a line released, of every cluster but `keep`: their source copies have been written back or invalidated
(R219). -/
def State.unmirror (s : State) (line : Nat) (keep : Option Nat := none) : State :=
  let goes (m : MirEnt) : Bool := m.line == line && keep != some m.src
  if s.coh.mirror.any goes then s.withCoh { s.coh with mirror := s.coh.mirror.filter fun m => !goes m } else s
/-- The mirror entry of one cluster's copy of a line released (R219). -/
def State.unmirrorOf (s : State) (c line : Nat) : State :=
  let goes (m : MirEnt) : Bool := m.line == line && m.src == c
  if s.coh.mirror.any goes then s.withCoh { s.coh with mirror := s.coh.mirror.filter fun m => !goes m } else s

/-- A write-back of a partition's copy: the dirty bytes reach memory (R218); at a poisoned line only a full mask does, and it
clears the flag (R222). The copy stays, clean. -/
def State.writeBack (s : State) (c line : Nat) : State :=
  match s.copy c line with
  | none => s
  | some x =>
    if x.dirty = 0 then s
    else
      let s1 := (s.setCopy c line { x with dirty := 0 }).unmirrorOf c line
      if s.poisoned line then
        if x.dirty = BitVec.allOnes 64 then
          { (s1.clearPoison line).note line with mem := Mem.writeMask s.mem (64 * line) x.data.toNat x.dirty 64 }
        else s1
      else { s1.note line with mem := Mem.writeMask s.mem (64 * line) x.data.toNat x.dirty 64 }

/-- The lines a cluster holds copies of. -/
def State.linesOf (s : State) (c : Nat) : List Nat :=
  (s.coh.copies.filter fun e => e.1 / 2 ^ 46 == c).map fun e => e.1 % 2 ^ 46

/-- Write-backs of several lines. -/
def State.writeBacks (s : State) (c : Nat) (ls : List Nat) : State := ls.foldl (fun t l => t.writeBack c l) s

/-- A line's data with `k` bytes from byte `o` replaced. -/
def patchBytes (d : BitVec 512) (o k v : Nat) : BitVec 512 := setFld d (8 * o) (8 * k) v

/-- The bytes of a line in words of 64 bits: byte `o` of `d`, `k` bytes. -/
def sliceBytes (d : BitVec 512) (o k : Nat) : Nat := (d.toNat >>> (8 * o)) % 2 ^ (8 * k)

/-- A line with the bytes that a mask names replaced. -/
def blend (old new : BitVec 512) (mask : BitVec 64) : BitVec 512 :=
  (List.range 64).foldl (fun d i => if bit mask i then patchBytes d i 1 (sliceBytes new i 1) else d) old

/-- A clean copy invalidated; a dirty one keeps its dirty bytes and takes the others from memory, as a load after an acquire does (R231,
R230, R239). -/
def State.invalidate (s : State) (c line : Nat) : State :=
  match s.copy c line with
  | some x =>
    if x.dirty = 0 then s.dropCopy c line
    else if s.poisoned line then s
    else s.setCopy c line { x with data := blend (s.memLine line) x.data x.dirty }
  | none => s

/-- Invalidations of several lines. -/
def State.invalidates (s : State) (c : Nat) (ls : List Nat) : State := ls.foldl (fun t l => t.invalidate c l) s

/-- The byte mask of `k` bytes from byte `o` of a line. -/
def maskOf (o k : Nat) : BitVec 64 := BitVec.ofNat 64 ((2 ^ k - 1) <<< o)

/-- The larger of two timestamps. -/
def tmax (a b : Word64) : Word64 := if a.toNat ≤ b.toNat then b else a

/-! The directory's moves (R206-R212): what a request from a tile leaves at its cluster home. They carry no data: the copies
of one cluster agree. -/

/-- The sharer vector of one tile. -/
def tileBit (t : Nat) : BitVec 48 := BitVec.ofNat 48 (2 ^ t)

/-- The entry after RdS from tile `t` (of its cluster, 0-47) (R207). -/
def dirRds (e : Option DirEnt) (_now t : Nat) : Option DirEnt :=
  match e with
  | none => some ⟨.e, tileBit t, t, [], false, []⟩
  | some e =>
    match e.st with
    | .s => some { e with sharers := e.sharers ||| tileBit t, bounces := [], gather := false }
    | .e => if e.owner = t then some e
            else some { e with st := .s, sharers := tileBit e.owner ||| tileBit t, bounces := [], gather := false }
    | .m => if e.owner = t then some e
            else some { e with st := .o, sharers := tileBit e.owner ||| tileBit t, bounces := [], gather := false }
    | .o => some { e with sharers := e.sharers ||| tileBit t, bounces := [], gather := false }
    | .p => some ⟨.e, tileBit t, t, [], false, []⟩
    | .c => some e

/-- Do any bytes of the mask lie in another tile's P copy (R211)? -/
def pOverlap (ms : List (Nat × BitVec 64)) (t : Nat) (mask : BitVec 64) : Bool :=
  ms.any fun x => x.1 != t && (x.2 &&& mask) != 0

/-- The masks with `mask` added to tile `t`'s. -/
def pAdd (ms : List (Nat × BitVec 64)) (t : Nat) (mask : BitVec 64) : List (Nat × BitVec 64) :=
  if ms.any fun x => x.1 == t then ms.map fun x => if x.1 = t then (t, x.2 ||| mask) else x else ms ++ [(t, mask)]

/-- The entry after RdX or Upg from tile `t` for the bytes of `mask`: state M, and the bounce count of R210 that leads to
privatisation; in state P a mask extended or a merge (R211, R212). -/
def dirRdx (e : Option DirEnt) (now t : Nat) (mask : BitVec 64) : Option DirEnt :=
  match e with
  | none => some ⟨.m, tileBit t, t, [], false, []⟩
  | some e =>
    match e.st with
    | .c => some e
    | .p =>
      if pOverlap e.masks t mask || (decide (8 ≤ e.masks.length) && !(e.masks.any fun x => x.1 == t)) then
        some ⟨.m, tileBit t, t, [], false, []⟩
      else some { e with masks := pAdd e.masks t mask }
    | st =>
      if (st = .m || st = .e) && e.owner = t then some { e with st := .m, sharers := tileBit t }
      else
        let moved := st = .m || st = .e
        let b := if moved then (now :: e.bounces).filter fun x => decide (now < x + 2048) else e.bounces
        let gather := e.gather || decide (4 ≤ b.length)
        if e.gather then some { e with st := .p, sharers := 0, masks := [(t, mask)], bounces := [], gather := false }
        else some { e with st := .m, sharers := tileBit t, owner := t, bounces := b, gather := gather }

/-- The directory's part of a load of tile `t` (global): RdS when the tile holds no copy; a load inside the tile's own P mask
stays there (R211). -/
def State.dirLoad (s : State) (t line : Nat) (mask : BitVec 64) : State :=
  let c := t / 48
  match s.dirOf c line with
  | some e =>
    if e.st = .p && (e.masks.any fun x => x.1 == t % 48 && (x.2 &&& mask) == mask) then s
    else if e.st = .p && !pOverlap e.masks (t % 48) mask && (decide (e.masks.length < 8) || e.masks.any fun x => x.1 == t % 48) then
      s.setDir c line (some { e with masks := pAdd e.masks (t % 48) mask })
    else if bit e.sharers (t % 48) then s
    else s.setDir c line (dirRds (some e) s.time.cyc (t % 48))
  | none => s.setDir c line (dirRds none s.time.cyc (t % 48))

/-- The directory's part of a store of tile `t`. -/
def State.dirStore (s : State) (t line : Nat) (mask : BitVec 64) : State :=
  s.setDir (t / 48) line (dirRdx (s.dirOf (t / 48) line) s.time.cyc (t % 48) mask)

/-- Does the tile keep a cache: SCR below 16 (R199)? A TSC has none of the tile's. -/
def State.caches (s : State) (t : Nat) : Bool := decide (t < 768) && decide ((s.tile t).scr.toNat < 16)

/-- The lines in a tile's cache (R199). -/
def State.cached (s : State) (t : Nat) : List Nat := Tbl.get s.coh.tcache t []
/-- A line that its cluster home grants to tile `t` enters the tile's cache; R199's size is kept by evictions (Caches.lean). -/
def State.fillTile (s : State) (t line : Nat) : State :=
  if s.caches t && dirNames (s.dirOf (t / 48) line) (t % 48) then
    s.withCoh { s.coh with tcache := Tbl.set s.coh.tcache t (line :: (s.cached t).filter (· != line)) }
  else s
/-- A line that the tile's cache holds enters a core's L1 data cache (R142, R199). -/
def State.fillL1 (s : State) (core line : Nat) : State :=
  if (s.cached (core / 4)).contains line then
    s.withCoh { s.coh with l1d := Tbl.set s.coh.l1d core (line :: (Tbl.get s.coh.l1d core []).filter (· != line)) }
  else s

/-- The directory and the tile's cache after an access of tile `t` to a cached line. -/
def State.dirTouch (s : State) (t line : Nat) (store : Bool) (mask : BitVec 64) : State :=
  if s.caches t then (if store then s.dirStore t line mask else s.dirLoad t line mask).fillTile t line else s

/-- A load of slot `n` from a cached line: its tile's and its core's copies (R199). -/
def State.readTouch (s : State) (n line : Nat) (mask : BitVec 64) : State :=
  (s.dirTouch (tileOf n) line false mask).fillL1 (coreOf n) line

/-- The package's largest timestamp raised to `ts`. -/
def State.raiseClock (s : State) (ts : Word64) : State := s.withCoh { s.coh with clock := tmax s.coh.clock ts }
/-- LCLOCK of a slot raised by an access (R214, R215). -/
def State.setPts (s : State) (n : Nat) (ts : Word64) : State := (s.modSlot n fun x => { x with lclock := ts }).raiseClock ts

/-- The lease of R214 renewed: rts := max(rts, p + 8) at the responder, and the copy refreshed. -/
def State.renew (s : State) (c line : Nat) (p : Word64) : State × CopyLine :=
  let h := s.home line
  let r := tmax h.rts (p + 8)
  let x : CopyLine := ⟨h.wts, r, s.memLine line, 0⟩
  ((s.setHome line { h with rts := r }).setCopy c line x, x)

/-- A load of `k` bytes within one line by slot `n` (R214, R218, R260): the value and the state after. `unc` marks a page with
MT 1, served at its home. -/
def State.load (s : State) (n pa k : Nat) (unc : Bool) : Nat × State :=
  let c := clusterOf n
  let l := lineOf pa
  if s.partLine l && !s.isPt l then
    let s := if unc then s else s.readTouch n l (maskOf (pa % 64) k)
    match s.copy c l with
    | some x => (sliceBytes x.data (pa % 64) k, s)
    | none => (Mem.read s.mem pa k, if unc then s else s.setCopy c l ⟨0, 0, s.memLine l, 0⟩)
  else if s.coh.part then (Mem.read s.mem pa k, s)
  else
    let p := (s.getSlot n).lclock
    let h := s.home l
    if unc || s.isPt l || h.owner = some c then
      let p' := tmax p h.wts
      let s := if unc || s.isPt l then s else s.readTouch n l (maskOf (pa % 64) k)
      (Mem.read s.mem pa k, (s.setHome l { h with rts := tmax h.rts p' }).setPts n p')
    else
      let s := s.readTouch n l (maskOf (pa % 64) k)
      match s.copy c l with
      | some x =>
        if p.toNat ≤ x.rts.toNat then (sliceBytes x.data (pa % 64) k, s.setPts n (tmax p x.wts))
        else let (s, y) := s.renew c l p; (sliceBytes y.data (pa % 64) k, s.setPts n (tmax p y.wts))
      | none => let (s, y) := s.renew c l p; (sliceBytes y.data (pa % 64) k, s.setPts n (tmax p y.wts))

/-- A line taken from its owner cluster, if that is not `own`: it recalls its tiles' copies first (R215). -/
def State.giveUp (s : State) (line : Nat) (own : Option Nat) : State :=
  match (s.home line).owner with
  | some c => if own = some c then s else s.setDir c line none
  | none => s

/-- The timestamps of a store that slot `n` makes to a line in unified mode: its cluster becomes owner, or the device home
keeps the line (`own` none) for an atomic at device scope (R215, R234). -/
def State.stamp (s : State) (n line : Nat) (own : Option Nat) : State :=
  let h := s.home line
  let ts := tmax (s.getSlot n).lclock (h.rts + 1)
  let s := match own with
    | some c => s.dropCopy c line
    | none => s
  let s := if h.owner = own then s else (s.giveUp line own).unmirror line own
  (s.setHome line ⟨ts, ts, own⟩).setPts n ts

/-- The line at its cluster home alone, no tile's copy left (R234, R237). -/
def State.atSlice (s : State) (c line : Nat) : State := s.setDir c line none

/-- A partition's copy of a line, or what a fill brings (R218). -/
def State.filled (s : State) (c line : Nat) : CopyLine := (s.copy c line).getD ⟨0, 0, s.memLine line, 0⟩

/-- A store of `k` bytes within one line by slot `n` (R215, R218, R260). A store of a whole line clears its poison (R222). -/
def State.store (s : State) (n pa k v : Nat) (unc : Bool) : State :=
  let c := clusterOf n
  let l := lineOf pa
  let t := tileOf n
  let s := s.note l (if s.partLine l && !s.isPt l && !unc then c else 16)
  if s.partLine l && !s.isPt l && !unc then
    let s := s.dirTouch t l true (maskOf (pa % 64) k)
    let x := (s.copy c l).getD ⟨0, 0, s.memLine l, 0⟩
    s.setCopy c l { x with data := patchBytes x.data (pa % 64) k v, dirty := x.dirty ||| maskOf (pa % 64) k }
  else if s.partLine l then
    let s := match s.copy c l with
      | some x => s.setCopy c l { x with data := patchBytes x.data (pa % 64) k v }
      | none => s
    { (if k = 64 then s.clearPoison l else s) with mem := Mem.write s.mem pa v k }
  else
    let s := if unc || s.isPt l then s else s.dirTouch t l true (maskOf (pa % 64) k)
    let s := s.stamp n l (if unc || s.isPt l then none else some c)
    { (if k = 64 then s.clearPoison l else s) with mem := Mem.write s.mem pa v k }

/-- Does a load by cluster `c` meet the poison flag (R222)? In a partition a held copy was not poisoned. -/
def State.meetsPoison (s : State) (c line : Nat) : Bool :=
  s.poisoned line && !(s.partLine line && (s.copy c line).isSome)

/-! Accesses that act on the device image itself: records, context blocks, the host, the fabric, the MSA (R242, R244). In
unified mode they are accesses of the package domain: every owner's data is the image. -/

/-- `k` bytes of the device image. -/
def State.memRead (s : State) (pa k : Nat) : Nat := Mem.read s.mem pa k
/-- The lease copies of a line dropped in every cluster, which R214 lets a cluster do at any time (notes/assumptions 115). -/
def State.dropLeases (s : State) (line : Nat) : State :=
  s.withCoh { s.coh with copies := s.coh.copies.filter fun e => e.1 % 2 ^ 46 != line }
/-- The place of a write of the package's own agents in the order of a line (R217, R242, R244): in unified mode after every lease granted
and every access before it, with no lease left. -/
def State.orderWrite (s : State) (line : Nat) : State :=
  let s := s.note line
  if s.partLine line then s else
    let h := s.home line
    let ts := tmax s.coh.clock (h.rts + 1)
    ((((s.giveUp line none).unmirror line).dropLeases line).setHome line ⟨ts, ts, none⟩).raiseClock ts
/-- The bytes of a line that a mask names written so; a poisoned line takes a whole one alone, which clears the flag (R222). -/
def State.memWriteMask (s : State) (line : Nat) (mask : BitVec 64) (v : BitVec 512) : State :=
  if mask ≠ BitVec.allOnes 64 && s.poisoned line then s
  else let t := (s.orderWrite line).clearPoison line; { t with mem := Mem.writeMask t.mem (64 * line) v.toNat mask 64 }
/-- `k` bytes of the device image written line by line, in at most `n` lines (R112: a release at device scope). -/
def State.memWriteIn (s : State) (pa k v : Nat) : Nat → State
  | 0 => s
  | n + 1 =>
    if k = 0 then s
    else
      let p := min k (64 - pa % 64)
      let l := lineOf pa
      let s1 := if p < 64 && s.poisoned l then s
        else let t := (s.orderWrite l).clearPoison l; { t with mem := Mem.write t.mem pa v p }
      State.memWriteIn s1 (pa + p) (k - p) (v >>> (8 * p)) n
/-- `k` bytes of the device image written. -/
def State.memWrite (s : State) (pa k v : Nat) : State := s.memWriteIn pa k v (k / 64 + 2)
/-- Eight bytes of the image. -/
def State.mem8 (s : State) (pa : Nat) : Word64 := BitVec.ofNat 64 (s.memRead pa 8)
/-- Eight bytes of the image written. -/
def State.memPut8 (s : State) (pa : Nat) (v : Word64) : State := s.memWrite pa 8 v.toNat

/-! Releases and acquires of a cluster (R231). -/

/-- Does a scope code reach the device or further: `.die`, `.dev`, `.pod` (R231)? -/
def wideScope (sc : Nat) : Bool := decide (5 ≤ sc)

/-- The lines that a wide fence of a cluster acts on: every copy in partitioned mode, those outside HBM in unified mode, and
only those of `within` for a range form (R231, R232). -/
def State.fenceLines (s : State) (c : Nat) (within : Nat → Bool) : List Nat :=
  (s.linesOf c).filter fun l => within l && s.partLine l

/-- `perform_release(S)` for a strand of cluster `c` once nothing more is awaited (R231). -/
def State.releaseAt (s : State) (c sc : Nat) (within : Nat → Bool) : State :=
  if wideScope sc then s.writeBacks c (s.fenceLines c within) else s

/-- `perform_acquire(S)` for a strand of cluster `c` (R231). -/
def State.acquireAt (s : State) (c sc : Nat) (within : Nat → Bool) : State :=
  if wideScope sc then s.invalidates c (s.fenceLines c within) else s

/-- The release at device scope that comes before a record's new state is written (R112, R229). -/
def State.publish (s : State) (c : Nat) : State := s.releaseAt c 6 fun _ => true

/-- `k` bytes of a tile store. -/
def State.tsRead (s : State) (tile off k : Nat) : Nat := Mem.read s.ts (tile * 2 ^ 20 + off) k
/-- `k` bytes of a tile store written. -/
def State.tsWrite (s : State) (tile off k v : Nat) : State := { s with ts := Mem.write s.ts (tile * 2 ^ 20 + off) v k }

end Sys2Proof.Machine
end

