-- ==== Sys2Proof/Machine/Xlate.lean ====
section
/-! DEFINITION. Address translation: entries, lookup, permissions, unbacked addresses, fault messages and the back-off of a
parked access (11_translation R248-R263). -/

namespace Sys2Proof.Machine
open Sys2Proof

/-- What an access does, with the codes of ACC (R255). -/
inductive Acc where
  | load | store | atomic | fetch | engRead | engWrite | mxFetch
  deriving DecidableEq, Repr

/-- ACC's code (R255). -/
def Acc.code : Acc → Nat
  | .load => 0 | .store => 1 | .atomic => 2 | .fetch => 3 | .engRead => 4 | .engWrite => 5 | .mxFetch => 6

/-- Page-size code of an entry. -/
def TlbEnt.size (e : TlbEnt) : Nat := fld e.e0 11 9
/-- Bits of the page offset: 12 + 2z (R248). -/
def TlbEnt.shift (e : TlbEnt) : Nat := 12 + 2 * e.size
/-- V. -/
def TlbEnt.valid (e : TlbEnt) : Bool := bit e.e0 0
/-- GLB. -/
def TlbEnt.glb (e : TlbEnt) : Bool := bit e.e0 8
/-- ASID. -/
def TlbEnt.asid (e : TlbEnt) : Nat := fld e.e0 63 48
/-- The virtual base address. -/
def TlbEnt.vbase (e : TlbEnt) : Nat := fld e.e0 47 12 * 4096
/-- The physical base address. -/
def TlbEnt.pbase (e : TlbEnt) : Nat := fld e.e1 51 12 * 4096
/-- The page-table line from which the entry derives, as a line number. -/
def TlbEnt.ptLine (e : TlbEnt) : Nat := fld e.e2 51 6

/-- Does the entry match virtual address `va` in address space `asid` (R252)? -/
def TlbEnt.hits (e : TlbEnt) (asid va : Nat) : Bool :=
  e.valid && (e.glb || e.asid == asid) && e.vbase >>> e.shift == va >>> e.shift

/-- The entries of a translation cache. -/
def State.cache (s : State) (c : Nat) : List TlbEnt := Tbl.get s.xl.caches c []
/-- The entries of a translation cache replaced; its cores' L1 caches keep no entry that it does not hold (R251). -/
def State.setCache (s : State) (c : Nat) (l : List TlbEnt) : State :=
  let keep (e : Nat × List TlbEnt) : Nat × List TlbEnt := if e.1 / 4 = c then (e.1, e.2.filter l.contains) else e
  { s with xl := { s.xl with caches := Tbl.set s.xl.caches c l, l1 := s.xl.l1.map keep } }
/-- The L1 translation cache of a core. -/
def State.l1Cache (s : State) (k : Nat) : List TlbEnt := Tbl.get s.xl.l1 k []

/-- What a translation gives. -/
inductive Xl where
  /-- a page of this package: physical address, uncached (MT 1), MIRROR -/
  | here (pa : Nat) (unc mir : Bool)
  /-- a page of package `pkg` (REM): its physical address there (R249, R494) -/
  | far (pkg pa : Nat)
  /-- a fault to post, by its KIND (R253) -/
  | fault (kind : Nat)
  /-- the physical address is unbacked (R254) -/
  | unbacked
  deriving DecidableEq, Repr

/-- A SerDes group. -/
def State.group (s : State) (g : Nat) : Group := Tbl.get s.groups g Group.reset
/-- A SerDes group replaced. -/
def State.setGroup (s : State) (g : Nat) (x : Group) : State := { s with groups := Tbl.set s.groups g x }

/-- GRATE and GLAT's promise for `b` more bytes behind those accepted and unacknowledged: ns until delivery (R64). DESIGN CHOICE: a
packet counts with its 16-byte header, which the rule does not say (notes/assumptions 119). -/
def Group.delivery (x : Group) (b : Nat) : Nat :=
  let w := (x.out.map fun k => 16 + k.data.length).foldl (· + ·) 0 + (x.work.map Prod.snd).foldl (· + ·) 0
  fld x.gbnd 31 0 + cdiv (w + b) (max (fld x.gbnd 47 32) 1)

/-- Does a group accept a request of `b` bytes: V 1, and its delivery at most 8 ms away (R63, R69)? -/
def Group.takes (x : Group) (b : Nat) : Bool := bit x.gbnd 63 && decide (x.delivery b ≤ 8000000)

/-- The window that covers a physical address. -/
def State.winOf (s : State) (pa : Nat) : Option SerWin := s.windows.find? fun w => decide (w.base ≤ pa) && decide (pa < w.base + w.size)

/-- Has the window's group FAILED, so that it is bound no more (R65)? -/
def State.windowLost (s : State) (w : SerWin) : Bool := (s.group w.group).st == .failed

/-- Is the physical address backed (R254)? A window that its group has withdrawn counts as backed. -/
def State.backed (s : State) (pa : Nat) : Bool :=
  if pa < hbmEnd then s.ready (.hbm (pa / stackSize))
  else if pa < hostBase then (s.winOf pa).isSome
  else s.hostUp

/-- Does the entry permit the access (R253)? 0: it does; else the KIND of the fault. -/
def TlbEnt.permits (e : TlbEnt) (sup : Bool) (a : Acc) : Nat :=
  let u := bit e.e1 8
  let x := bit e.e1 7
  let w := bit e.e1 6
  let r := bit e.e1 5
  let d := bit e.e1 4
  let ok := match a with
    | .load | .engRead | .mxFetch => r
    | .store | .engWrite => w
    | .atomic => r && w
    | .fetch => x
  if !ok || (!sup && !u) then 2
  else match a with
    | .store | .engWrite | .atomic => if d then 0 else 3
    | _ => 0

/-- A lookup in cache `c` (R252-R254, R65): the entry's page, a fault, or the unbacked outcome. -/
def State.lookup (s : State) (c asid : Nat) (sup : Bool) (va : Nat) (a : Acc) : Xl :=
  match (s.cache c).find? fun e => e.hits asid va with
  | none => .fault 1
  | some e =>
    let k := e.permits sup a
    if k ≠ 0 then .fault k
    else
      let pa := e.pbase + va % 2 ^ e.shift
      if bit e.e1 63 then .far (fld e.e1 62 54) pa
      else if !s.backed pa then .unbacked
      else match s.winOf pa with
        | some w => if w.drawn then (if s.windowLost w then .unbacked else .fault 4) else .here pa (fld e.e1 10 9 == 1) (bit e.e1 11)
        | none => .here pa (fld e.e1 10 9 == 1) (bit e.e1 11)

/-- Does the translated address lie in a withdrawn window (R65)? -/
def State.inDrawn (s : State) (c asid va : Nat) : Bool :=
  match (s.cache c).find? fun e => e.hits asid va with
  | some e => ((s.winOf (e.pbase + va % 2 ^ e.shift)).map SerWin.drawn).getD false
  | none => false

/-- The ASID of a slot's strand, by its entry in the cluster's table (R114); a TSC's is its firmware's (notes/assumptions 9). -/
def State.asidOf (s : State) (n : Nat) : BitVec 16 :=
  if isTsc n then Config.tscAsid (n - slotCount)
  else match (s.cluster (clusterOf n)).asids[(s.getSlot n).asx.toNat]? with
  | some (some e) => e.asid
  | _ => 0

/-- The translation of a slot's access. -/
def State.xlate (s : State) (n va : Nat) (a : Acc) : Xl := s.lookup (cacheOf n) (s.asidOf n).toNat (s.sup n) va a

/-- The L1 copy of an entry that a core's lookup has hit in its tile's cache; of 64 the oldest leaves (R251). A TSC has no L1. -/
def State.fillL1T (s : State) (n : Nat) (e : TlbEnt) : State :=
  let l := s.l1Cache (coreOf n)
  if isTsc n || l.contains e then s else { s with xl := { s.xl with l1 := Tbl.set s.xl.l1 (coreOf n) ((e :: l).take 64) } }

/-- Is this the parked access: what it does, and where? -/
def Park.isFor (p : Park) (a : Acc) (va : Nat) : Bool := p.acc == a.code && p.va.toNat == va % 2 ^ 48
/-- Does a DENY end the access (R256)? -/
def deniedBy (p : Option Park) (a : Acc) (va : Nat) : Bool := (p.map fun p => p.deny && p.isFor a va).getD false
/-- Does a DENY end the slot's access (R256)? -/
def Slot.denied (x : Slot) (a : Acc) (va : Nat) : Bool := deniedBy x.park a va

/-- The rest `t` of an access of slot `n` that state `s` has translated: the L1 copy is made (R251), and the access is parked no more
(R256). A fetch leaves the data access parked that its instruction will make again. -/
def State.passed (s : State) (n va : Nat) (a : Acc) (t : State) : State :=
  let t1 := match (s.cache (cacheOf n)).find? fun e => e.hits (s.asidOf n).toNat va with
    | some e => t.fillL1T n e
    | none => t
  match (t1.getSlot n).park with
  | some p => if (t1.getSlot n).wait != .fault && (a != .fetch || p.acc == a.code) then t1.modSlot n fun x => { x with park := none } else t1
  | none => t1

/-- The back-off before attempt `tries` + 1 (R257). -/
def backoff (tries cexp : Nat) : Nat := min (256 * 2 ^ (tries - 1)) (2 ^ cexp)

/-- A fault message put into a cluster's mailbox; dropped when it holds 256 (R255). The answer says whether it was taken. -/
def State.postMsg (s : State) (c : Nat) (m : FaultMsg) : State × Bool :=
  let k := s.cluster c
  if k.mailbox.length < 256 then (s.setCluster c { k with mailbox := k.mailbox ++ [m] }, true) else (s, false)

/-- The fault message of R255. -/
def faultMsg (kind acc : Nat) (usr : Bool) (va asid slot eng tag : Nat) (pc : Word64) : FaultMsg where
  w0 := BitVec.ofNat 64 (kind * 2 ^ 60 + acc * 2 ^ 56 + usr.toNat * 2 ^ 55 + va % 2 ^ 48)
  w1 := BitVec.ofNat 64 (asid * 2 ^ 48 + slot * 2 ^ 34 + eng * 2 ^ 30 + tag % 2 ^ 30)
  w2 := pc
  w3 := 0

/-- A slot's access to an address space parks, or fails again: a message is posted unless one is outstanding, and the back-off goes
on (R255, R257). -/
def State.parkIn (s : State) (asid : BitVec 16) (n kind : Nat) (a : Acc) (va : Nat) (eng : Nat := 0) : State :=
  let x := s.getSlot n
  -- another access of the instruction begins anew
  let old := x.park.filter fun p => p.isFor a va
  let tries := match old with
    | some p => p.tries + 1
    | none => 1
  let out := match old with
    | some p => p.out
    | none => false
  let tag := s.xl.tag
  let m := faultMsg kind a.code (!s.sup n) va asid.toNat n eng tag.toNat x.pc
  let (s1, took) := if out then (s, false) else { s with xl := { s.xl with tag := tag + 1 } }.postMsg (clusterOf n) m
  s1.modSlot n fun x => { x with
    wait := .fault,
    park := some ⟨kind, a.code, BitVec.ofNat 48 va, if took then tag else (old.map Park.tag).getD tag, tries,
      s.time.cyc + backoff tries (fld x.pfb 4 0), out || took, false, eng⟩ }

/-- A slot's access in its own address space parks, or fails again. -/
def State.parkAt (s : State) (n kind : Nat) (a : Acc) (va : Nat) (eng : Nat := 0) : State := s.parkIn (s.asidOf n) n kind a va eng

end Sys2Proof.Machine
end

