-- ==== Sys2Proof/Machine/Ctx.lean ====
section
/-! DEFINITION. Strand records, context blocks, run queues and address-space tables: stopping a strand, placing one, and the
transitions of its record (06_strands R111-R117, R121, R123, R136). -/

namespace Sys2Proof.Machine
open Sys2Proof

/-- The codes of a record's state (R111). -/
def stREADY : Nat := 0
/-- RUNNING -/
def stRUNNING : Nat := 1
/-- SUSPENDED -/
def stSUSPENDED : Nat := 2
/-- PARKED -/
def stPARKED : Nat := 3
/-- PREEMPTED -/
def stPREEMPTED : Nat := 4
/-- DONE -/
def stDONE : Nat := 5
/-- FAULTED -/
def stFAULTED : Nat := 6

/-- Word `k` (0-7) of the record at `a`. -/
def State.recWord (s : State) (a k : Nat) : Word64 := s.mem8 (a + 8 * k)
/-- Word `k` of the record at `a` written. -/
def State.setRecWord (s : State) (a k : Nat) (v : Word64) : State := s.memPut8 (a + 8 * k) v
/-- The state of the record at `a` (R111). -/
def State.recState (s : State) (a : Nat) : Nat := fld (s.recWord a 1) 3 0
/-- The state of the record written, every other field kept (R112). -/
def State.setRecState (s : State) (a st : Nat) : State := s.setRecWord a 1 (setFld (s.recWord a 1) 0 4 st)
/-- The link of the record written: bits [47:6] of word 7 (R111). -/
def State.setRecLink (s : State) (a next : Nat) : State := s.setRecWord a 7 (setFld (s.recWord a 7) 6 42 (next / 64))

/-- Words written one after another from a base address. -/
def State.putWords (s : State) (base : Nat) (ws : List (Nat × Word64)) : State :=
  ws.foldl (fun t e => t.memPut8 (base + e.1) e.2) s

/-- Is the record queued in this cluster: any run queue entry naming it? -/
def Cluster.queued (c : Cluster) (a : Nat) : Bool := c.queues.toList.any fun q => q.any fun e => e.recs.contains a

/-- The links of a run queue written into its records: each record names the next one, the last none (R111, R123). -/
def State.relink (s : State) : List Nat → State
  | [] => s
  | [a] => s.setRecLink a 0
  | a :: b :: r => State.relink (s.setRecLink a b) (b :: r)

/-- A cluster's run queue of priority `q`. -/
def State.queue (s : State) (c q : Nat) : List QEnt := ((s.cluster c).queues[q]?).getD []

/-- A run queue replaced, and its links. -/
def State.setQueue (s : State) (c q : Nat) (l : List QEnt) : State :=
  let k := s.cluster c
  (s.setCluster c { k with queues := k.queues.setIfInBounds q l }).relink (l.flatMap QEnt.recs)

/-- An entry put at the tail of the run queue of its priority. -/
def State.enqTail (s : State) (c q : Nat) (e : QEnt) : State := s.setQueue c q (s.queue c q ++ [e])
/-- An entry put at the head of the run queue of its priority (R130). -/
def State.enqHead (s : State) (c q : Nat) (e : QEnt) : State := s.setQueue c q (e :: s.queue c q)

/-- The index of the entry of `asid` in a cluster's address-space table. -/
def Cluster.asxOf (c : Cluster) (asid : BitVec 16) : Option Nat :=
  let i := findFrom (fun i => match c.asids[i]? with
    | some (some e) => e.asid == asid
    | _ => false) 0 16
  if i < 16 then some i else none

/-- The lowest free entry of a cluster's address-space table. -/
def Cluster.asxFree (c : Cluster) : Option Nat :=
  let i := findFrom (fun i => match c.asids[i]? with
    | some none => true
    | _ => false) 0 16
  if i < 16 then some i else none

/-- `asid_entry(c, asid)` of R318 and R114: the entry of the ASID with `k` more uses, allocated when there is none; none when
the table is full. -/
def State.asidEntry (s : State) (c : Nat) (asid : BitVec 16) (k : Nat) : Option (Nat × State) :=
  let x := s.cluster c
  match x.asxOf asid with
  | some i =>
    let e := match x.asids[i]? with
      | some (some e) => some { e with uses := e.uses + k }
      | _ => none
    some (i, s.setCluster c { x with asids := x.asids.setIfInBounds i e })
  | none =>
    match x.asxFree with
    | some i =>
      let e : AsEnt := ⟨asid, (Tbl.get? s.desig asid.toNat).map (BitVec.ofNat 48), k⟩
      some (i, s.setCluster c { x with asids := x.asids.setIfInBounds i (some e) })
    | none => none

/-- A use of entry `i` ends; the entry is freed with its last use (R114). -/
def State.asidDrop (s : State) (c i : Nat) : State :=
  let x := s.cluster c
  match x.asids[i]? with
  | some (some e) => s.setCluster c { x with asids := x.asids.setIfInBounds i (if e.uses ≤ 1 then none else some { e with uses := e.uses - 1 }) }
  | _ => s

/-- The designated record of an ASID, set or cleared package-wide, and its copies in the SDs (R114, R136). -/
def State.setDesig (s : State) (asid : BitVec 16) (r : Option Nat) : State :=
  { s with
    desig := match r with
      | some a => Tbl.set s.desig asid.toNat a
      | none => Tbl.erase s.desig asid.toNat,
    clusters := s.clusters.map fun c => (c.1, { c.2 with asids := c.2.asids.map fun e =>
      match e with
      | some e => if e.asid = asid then some { e with desig := r.map (BitVec.ofNat 48) } else some e
      | none => none }) }

/-- A launch without the member whose live record is at `a`: DONE, or FAULTED. -/
def Launch.without (l : Launch) (a : Nat) (faulted : Bool) : Launch :=
  let i := (a - l.base) / 64
  if a < l.base || (a - l.base) % 64 ≠ 0 || !l.live.contains i then l
  else { l with live := l.live.filter (· != i), dead := if faulted then insertNat i l.dead else l.dead }

/-- A record that ends is a live member of its launch no more (R75, R80). -/
def State.retire (s : State) (a : Nat) (faulted : Bool) : State :=
  let ports : Tbl Port := s.ports.map fun p =>
    let live : Tbl Launch := p.2.live.map fun l => (l.1, l.2.without a faulted)
    (p.1, { p.2 with live := live })
  { s with ports := ports }

/-- A record becomes DONE or FAULTED: its use of the address-space entry ends, its launch counts it, and a designation it holds is
cleared (R112, R114, R136). -/
def State.endRecord (s : State) (c asx a st : Nat) (asid : BitVec 16) : State :=
  let s1 := (((s.publish c).setRecState a st).retire a (st == stFAULTED)).asidDrop c asx
  if Tbl.get? s1.desig asid.toNat = some a then s1.setDesig asid none else s1

/-- A tag byte of R115: [5] valid, [4:0] the format's code. -/
def tagByte : Option Fmt → Nat
  | none => 0
  | some f => 32 + f.code
/-- The tag of a byte of R115; bits [7:6] are ignored (R267). -/
def tagOfByte (b : Nat) : Option Fmt := if b.testBit 5 then some (Fmt.ofCode (b % 32)) else none

/-- Size of a context block's V part's end (R115). -/
def vEnd (v : Bool) : Nat := if v then 0x5000 else 0x1000

/-- The first word of a context block (R115). -/
def ctxHeader (x : Slot) (asid : BitVec 16) (full pool vp tp : Bool) : Word64 :=
  BitVec.ofNat 64 (asid.toNat * 2 ^ 48 + 2 ^ 40 + x.lh.toNat * 2 ^ 38 + (if x.lm.isSome then 2 ^ 37 else 0) +
    pool.toNat * 2 ^ 36 + x.wake.toNat * 2 ^ 35 + tp.toNat * 2 ^ 34 + vp.toNat * 2 ^ 33 + full.toNat * 2 ^ 32 +
    ((x.lm.map BitVec.toNat).getD 0))

/-- The words 0x008 to 0x04F of a context block (R115). -/
def ctxRegs (x : Slot) (pc : Word64) (epend : Word64) : List (Nat × Word64) :=
  [(0x008, pc), (0x010, x.status), (0x018, x.cause), (0x020, x.epc), (0x028, x.tvec), (0x030, x.fflags.setWidth 64),
   (0x038, x.lclock), (0x040, x.pfb), (0x048, epend)]

/-- The tags and progress fields of a context block (R115). -/
def ctxTags (x : Slot) : List (Nat × Word64) :=
  let vt (lo : Nat) : Word64 := BitVec.ofNat 64 ((List.range 8).foldl (fun a i => a + tagByte (x.getV (lo + i)).tag <<< (8 * i)) 0)
  [(0x398, vt 0), (0x3A0, vt 8), (0x3A8, BitVec.ofNat 64 (tagByte (x.getT 0).tag + tagByte (x.getT 1).tag * 256)),
   (0x3B0, (x.getT 0).prog), (0x3B8, (x.getT 1).prog)]

/-- The scalar part of a context block, 0x050 to 0x397 and the words behind (R115). -/
def ctxScalars (x : Slot) : List (Nat × Word64) :=
  let loops := x.loops.reverse
  (List.range 64).map (fun i => (0x100 + 8 * i, x.getS i)) ++
  [(0x300, (setBit x.p 0 true).setWidth 64)] ++
  (List.range 4).map (fun i => (0x308 + 8 * i, x.getM i)) ++
  [(0x328, x.lc.setWidth 64), (0x330, BitVec.ofNat 64 x.loops.length)] ++
  (List.range 4).flatMap fun i =>
    match loops[i]? with
    | some e => [(0x338 + 24 * i, e.start), (0x340 + 24 * i, e.stop), (0x348 + 24 * i, e.count.setWidth 64)]
    | none => [(0x338 + 24 * i, 0), (0x340 + 24 * i, 0), (0x348 + 24 * i, 0)]

/-- The V part of a context block: registers, stream bindings, zeros (R115, R400). -/
def State.saveV (s : State) (ctx : Nat) (x : Slot) : State :=
  let s1 := (List.range 16).foldl (fun t i => t.memWrite (ctx + 0x1000 + 256 * i) 256 (x.getV i).val.toNat) s
  let words (b : Option Stream) : Nat := match b with
    | some b => b.w0.toNat + b.w1.toNat <<< 64 + b.w2.toNat <<< 128
    | none => 0
  let s2 := (List.range 4).foldl (fun t r => t.memWrite (ctx + 0x2000 + 64 * r) 64 (words ((x.streams[r]?).getD none))) s1
  s2.memWrite (ctx + 0x2100) 12032 0

/-- The T part of a context block (R115). -/
def State.saveT (s : State) (ctx : Nat) (x : Slot) : State :=
  let b := ctx + vEnd x.clsV
  (s.memWrite b 4096 (x.getT 0).val.toNat).memWrite (b + 4096) 4096 (x.getT 1).val.toNat

/-- What a suspension point saves into the block (R116): header and words 0x008-0x04F, tags, and the V and T parts that the
class bits cover. -/
def State.saveSoft (s : State) (n : Nat) (pc : Word64) : State :=
  let x := s.getSlot n
  let c := x.ctx.toNat
  if c = 0 then s
  else
    let s1 := s.putWords c ((0, ctxHeader x (s.asidOf n) false false x.clsV x.clsT) :: ctxRegs x pc x.busyS ++ ctxTags x)
    let s2 := if x.clsV then s1.saveV c x else s1
    if x.clsT then s2.saveT c x else s2

/-- The inbox words of a block: count and words (R115, R133). -/
def ctxInbox (ws : List Word64) : List (Nat × Word64) :=
  (0x7F8, BitVec.ofNat 64 ws.length) :: (List.range 256).map fun i => (0x800 + 8 * i, (ws[i]?).getD 0)

/-- The full context (R115) at `c`: FULL set; the words that the layout gives as zero are written zero. -/
def State.saveFull (s : State) (n c : Nat) (pc : Word64) (pool vp tp : Bool) (inbox : List Word64) (epend : Word64) : State :=
  let x := s.getSlot n
  let s0 := s.memWrite c 4096 0
  let s1 := s0.putWords c ((0, ctxHeader x (s.asidOf n) true pool vp tp) :: ctxRegs x pc epend ++ ctxTags x ++ ctxScalars x ++
    ctxInbox inbox)
  let s2 := if vp then s1.saveV c x else s1
  if tp then s2.saveT c x else s2

/-- Record words written at a stop: pc, c1-c3 (R116). -/
def State.saveRecord (s : State) (n : Nat) (pc : Word64) : State :=
  let x := s.getSlot n
  let a := x.recAddr.toNat
  s.putWords a [(0, pc &&& 0xFFFFFFFFFFFF), (0x18, x.getS 1), (0x20, x.getS 2), (0x28, x.getS 3)]

/-- The posted entries of core `k` replaced. When an entry of a full list comes free, the core's slots that wait for one try again
(R371). -/
def State.setPosted (s : State) (k : Nat) (p : List Posted) : State :=
  let t := s.setCore k { s.core k with posted := p }
  if 32 ≤ (s.core k).posted.length && decide (p.length < 32) then
    { t with slots := t.slots.map fun e => if coreOf e.1 = k ∧ e.2.wait = .recv then (e.1, { e.2 with wait := .none }) else e }
  else t

/-- A message put back into an overflow queue, ahead of every one that arrived after it (R372). -/
def putBack (q : List Msg) (m : Msg) : List Msg :=
  q.takeWhile (fun x => decide (x.seq ≤ m.seq)) ++ m :: q.dropWhile fun x => decide (x.seq ≤ m.seq)

/-- The posted entries of a slot withdrawn; the messages of matched ones return to the overflow queue in order of arrival (R372). -/
def State.withdraw (s : State) (n : Nat) : State :=
  let c := s.core (coreOf n)
  let back := (c.posted.filter fun e => e.slot == n).filterMap Posted.got
  let s1 := s.setPosted (coreOf n) (c.posted.filter fun e => e.slot != n)
  if back.isEmpty then s1
  else let t := s1.tile (tileOf n); s1.setTile (tileOf n) { t with overflow := back.foldl putBack t.overflow }

/-- The slot becomes idle. A core's vector queue keeps no entry of it: its operations have completed (R116). -/
def State.freeSlot (s : State) (n : Nat) : State :=
  let s1 := s.withdraw n
  let c := s1.core (coreOf n)
  let t := s1.tile (tileOf n)
  let s2 := ((s1.setCore (coreOf n) { c with vq := c.vq.filter (· != n) }).setTile (tileOf n)
    { t with semw := t.semw.filter fun e => e.who != n }).putSlot n Slot.reset
  { s2 with scq := s2.scq.filter (· != n) }

/-- A stop at a suspension point (R116): the record takes `st`, the block what R116 names, and the slot is idle. -/
def State.stopSoft (s : State) (n : Nat) (pc : Word64) (st : Nat) : State :=
  let a := (s.getSlot n).recAddr.toNat
  ((((s.saveRecord n pc).saveSoft n pc).publish (clusterOf n)).setRecState a st).freeSlot n

/-- The lowest free block of a cluster's pool (R117). -/
def Cluster.poolFree (c : Cluster) : Option Nat :=
  if bit c.sdpool 63 then
    let i := findFrom (fun i => !c.pool.contains i) 0 768
    if i < 768 then some i else none
  else none

/-- The address of block `i` of a cluster's pool (R122). -/
def Cluster.poolAddr (c : Cluster) (i : Nat) : Nat := fld c.sdpool 51 22 * 2 ^ 22 + 4096 * i

/-- May slot `n`'s strand be stopped by pre-emption or gang-stop: has it a block, or its cluster's pool one (R117)? -/
def State.stoppable (s : State) (n : Nat) : Bool := (s.getSlot n).ctx != 0 || (s.cluster (clusterOf n)).poolFree.isSome

/-- A pre-emption or gang-stop (R116, R117, R130): the whole context is saved, the record becomes PREEMPTED and goes to the head
of its run queue when `queue` is set; a `ctx`-0 strand takes a block of the pool. -/
def State.stopFull (s : State) (n : Nat) (inbox : List Word64) (queue : Bool) : State :=
  let x := s.getSlot n
  let a := x.recAddr.toNat
  let k := clusterOf n
  let (s1, c, pool) :=
    if x.ctx != 0 then (s, x.ctx.toNat, false)
    else match (s.cluster k).poolFree with
      | some i =>
        let cl := s.cluster k
        let p := cl.poolAddr i
        ((s.setCluster k { cl with pool := insertNat i cl.pool }).setRecWord a 2 (BitVec.ofNat 64 p), p, true)
      | none => (s, 0, false)
  let s2 := (s1.saveRecord n x.pc).saveFull n c x.pc pool x.clsV x.clsT inbox x.busyS
  let s3 := ((s2.publish k).setRecState a stPREEMPTED).freeSlot n
  if queue then s3.enqHead k x.prio.toNat ⟨[a], true, s3.time.ns⟩ else s3

/-- The registers of a context block over a slot (R115): everything the block holds but the V and T parts. -/
def State.loadRegs (s : State) (c : Nat) (x : Slot) : Slot :=
  let w (o : Nat) : Word64 := s.mem8 (c + o)
  let h := w 0
  let depth := min (fld (w 0x330) 2 0) 4
  let ent (i : Nat) : LoopEnt := ⟨w (0x338 + 24 * i), w (0x340 + 24 * i), (w (0x348 + 24 * i)).setWidth 32⟩
  let loops := ((List.range depth).map ent).reverse
  let y := { x with
    pc := w 0x008, status := w 0x010 &&& 7, cause := w 0x018, epc := w 0x020, tvec := w 0x028,
    fflags := (w 0x030).setWidth 6, lclock := w 0x038,
    pfb := if 8 ≤ fld (w 0x040) 4 0 && fld (w 0x040) 4 0 ≤ 30 then w 0x040 &&& 31 else 20,
    busyS := w 0x048,
    s := Vector.ofFn fun i : Fin 64 => if i.val = 0 then 0 else w (0x100 + 8 * i.val),
    p := setBit ((w 0x300).setWidth 16) 0 true,
    m := Vector.ofFn fun i : Fin 4 => w (0x308 + 8 * i.val),
    loops := loops,
    lh := bit h 38, lm := if bit h 37 then some (h.setWidth 12) else none, wake := bit h 35 }
  y.setLc ((w 0x328).setWidth 32)

/-- The vector and tile state of a block, by the parts it holds valid (R115, R116); a part not valid leaves the registers
untagged. -/
def State.loadVT (s : State) (c : Nat) (x : Slot) (vp tp : Bool) : Slot :=
  let w (o : Nat) : Word64 := s.mem8 (c + o)
  let vtag (i : Nat) : Option Fmt := tagOfByte ((w (0x398 + 8 * (i / 8))).toNat >>> (8 * (i % 8)))
  let ttag (i : Nat) : Option Fmt := tagOfByte ((w 0x3A8).toNat >>> (8 * i))
  let strm (r : Nat) : Option Stream :=
    let b := c + 0x2000 + 64 * r
    if bit (s.mem8 b) 63 then some ⟨s.mem8 b, s.mem8 (b + 8), s.mem8 (b + 16), [], false, bit x.status 0, x.pfb, none, [], [], 0⟩ else none
  { x with
    v := if vp then Vector.ofFn fun i : Fin 16 => ⟨vtag i.val, BitVec.ofNat 2048 (s.memRead (c + 0x1000 + 256 * i.val) 256)⟩
         else Vector.replicate 16 VReg.reset,
    streams := if vp then Vector.ofFn fun r : Fin 4 => strm r.val else Vector.replicate 4 none,
    t := Vector.ofFn fun i : Fin 2 =>
      if tp then ⟨ttag i.val, BitVec.ofNat 32768 (s.memRead (c + vEnd x.clsV + 4096 * i.val) 4096), w (0x3B0 + 8 * i.val)⟩
      else TReg.reset }

/-- A record's words as a strand that starts or resumes after a suspension point in a slot (R116): s1-s3 from the record,
everything else at the values of R116, TVEC, FFLAGS, LCLOCK, PFB_CEIL, vector and tile state from a block of format 1. -/
def State.startSlot (s : State) (a : Nat) : Slot :=
  let w1 := s.recWord a 1
  let w7 := s.recWord a 7
  let c := (s.recWord a 2).toNat
  let base : Slot := { Slot.reset with
    occ := true, recAddr := BitVec.ofNat 48 a, asx := w7.setWidth 4, cls := (w1 >>> 8).setWidth 4, gid := (w1 >>> 32).setWidth 32,
    prio := (w1 >>> 4).setWidth 4, ctx := BitVec.ofNat 64 c, pc := s.recWord a 0 &&& 0xFFFFFFFFFFFF }
  let x := ((base.setS 1 (s.recWord a 3)).setS 2 (s.recWord a 4)).setS 3 (s.recWord a 5)
  let h := s.mem8 c
  if c = 0 || fld h 47 40 != 1 then x
  else
    let y := s.loadRegs c x
    let x := { x with tvec := y.tvec, fflags := y.fflags, lclock := y.lclock, pfb := y.pfb, lh := y.lh, lm := y.lm, wake := y.wake }
    s.loadVT c x (bit h 33 && x.clsV) (bit h 34 && x.clsT)

/-- A record's words as a pre-empted or gang-stopped strand that resumes: the whole saved context exactly (R116). -/
def State.resumeSlot (s : State) (a : Nat) : Slot :=
  let x := s.startSlot a
  let c := x.ctx.toNat
  let h := s.mem8 c
  if c = 0 || fld h 47 40 != 1 then x else s.loadVT c (s.loadRegs c x) (bit h 33) (bit h 34)

/-- The name of a strand that is no more: no record lies there. -/
def noRecord : BitVec 48 := BitVec.allOnes 48

/-- Status words on their way that the strand of record `a` awaited before it was suspended: it awaits none at its resumption, and they
are discarded (R116, R140). Its stores to other packages stay its own, for the releases that come (R231, R245). -/
def State.orphan (s : State) (a : BitVec 48) : State :=
  let cmd (c : Cmd) : Cmd := if c.recAddr = a then { c with recAddr := noRecord, ctx := 0 } else c
  let land (l : Landing) : Landing := if l.recAddr = a then { l with recAddr := noRecord, ctx := 0 } else l
  let cores : Tbl Core := s.cores.map fun e => (e.1, { e.2 with ceq := e.2.ceq.map cmd })
  let tiles : Tbl Tile := s.tiles.map fun e => (e.1, { e.2 with req := e.2.req.map cmd })
  let out : List FabReq := s.fab.out.map fun q =>
    if q.recAddr ≠ a then q else match q.use with
      | .rst r _ => { q with use := .rst r true }
      | _ => { q with recAddr := noRecord, ctx := 0 }
  let waits : List (Bool × Word64 × Landing) := s.rounds.waits.map fun w => (w.1, w.2.1, land w.2.2)
  let sent : List Sent := s.sent.map fun m => if m.recAddr = a then { m with recAddr := noRecord } else m
  let compacts : Tbl Compact := s.compacts.map fun e => (e.1, { e.2 with wait := e.2.wait.map fun w => (land w.1, w.2) })
  let stops : List GangStop := s.gstops.map fun g => { g with land := land g.land }
  { s with cores := cores, tiles := tiles, sent := sent, gstops := stops, landings := s.landings.map land,
           tlbRegs := s.tlbRegs.map land, compacts := compacts,
           fab := { s.fab with out := out }, rounds := { s.rounds with waits := waits } }

/-- Does the record at `a` belong to a launch whose join increment is still to come (R495)? -/
def State.launchHeld (s : State) (a : Nat) : Bool :=
  s.ports.any fun p => p.2.live.any fun l => decide (l.2.base ≤ a) && decide (a < l.2.base + 64 * l.2.m) &&
    p.2.ents.any fun e => e.seq == l.2.seq && !e.joined

/-- The aging time of what began to wait at `since` (R125, R127, R140): the SDTAGE then in force. -/
def Die.ageFor (x : Die) (since : Nat) : Nat := ((x.ages.find? fun e => decide (since < e.1)).map Prod.snd).getD x.sdtage.toNat

/-- The quantum of a slot's die, in ns (R122). -/
def State.quantumOf (s : State) (n : Nat) : Nat := (s.die (dieOf n)).sdquant.toNat

/-- A record placed in slot `n` (R112, R116, R117, R129): RUNNING, its context restored, a pool block given back, EPEND cleared
after a suspension point, LCLOCK 0 in partitioned mode (R218). -/
def State.place (s : State) (n a : Nat) : State :=
  let pre := s.recState a == stPREEMPTED
  let x := if pre then s.resumeSlot a else s.startSlot a
  let c := x.ctx.toNat
  let pool := pre && bit (s.mem8 c) 36
  let k := clusterOf n
  let s1 := if pool then
      let cl := s.cluster k
      (s.setCluster k { cl with pool := cl.pool.filter (· != c % 2 ^ 22 / 4096) }).setRecWord a 2 0
    else if c ≠ 0 && !pre && fld (s.mem8 c) 47 40 == 1 then s.memPut8 (c + 0x48) 0
    else s
  let t := s.tile (tileOf n)
  let x := { x with ctx := if pool then 0 else x.ctx, quantum := s.quantumOf n - t.charge, wait := if s.launchHeld a then .launch else .none,
                    lclock := if s.coh.part then 0 else x.lclock, lh := x.lh || s.hangs.contains a }
  let s2 := if pre then s1 else s1.orphan (BitVec.ofNat 48 a)
  let s3 := if t.charge = 0 then s2 else s2.setTile (tileOf n) { s2.tile (tileOf n) with charge := 0 }
  { ((s3.publish k).setRecState a stRUNNING).putSlot n x with hangs := s3.hangs.filter (· != a) }

/-- The arrival of slot `n`'s strand at its compact's barrier (R185, R189). -/
def State.noteArrival (s : State) (n : Nat) : State :=
  match (s.tile (tileOf n)).held with
  | none => s
  | some m => match Tbl.get? s.compacts m.cid.toNat with
    | none => s
    | some c =>
      let c := { c with arr := max c.arr (s.core (coreOf n)).cycle, arrNs := s.time.ns }
      { s with compacts := Tbl.set s.compacts m.cid.toNat c }

/-- A trap taken while TVEC is 0, or a lost die: the record becomes FAULTED, with the trap registers saved when there is a
block (R112, R331). -/
def State.faultSlot (s : State) (n : Nat) : State :=
  let x := s.getSlot n
  let a := x.recAddr.toNat
  let asid := s.asidOf n
  let c := x.ctx.toNat
  let s1 := s.saveRecord n x.pc
  let s2 := if c = 0 then s1 else s1.putWords c ((0, ctxHeader x asid false false false false) :: ctxRegs x x.pc x.busyS)
  let s3 := s2.endRecord (clusterOf n) x.asx.toNat a stFAULTED asid
  if s.compactAt n then (if x.arrived then s3 else s3.noteArrival n).modSlot n fun x => { x with gone := true, arrived := true, wait := .none }
  else s3.freeSlot n

end Sys2Proof.Machine
end

