-- ==== Sys2Proof/Machine/Forms.lean ====
section
/-! DEFINITION. Which operand kinds, classes, numbers and modifiers each instruction admits: the RESERVED fates of R327
(13 R298-R302, 14 R322-R326, and each instruction's own row). A word whose fields fail its form traps RESERVED. -/

namespace Sys2Proof.Forms
open Sys2Proof Sys2Proof.Machine

/-- An all-zero operand field (R301), which is also the s0 carrier without modifiers. -/
def zeroField : Operand := .reg 0 0 0

/-- The modifier bits [17:8] of a register field; zero for another kind. -/
def mods : Operand → BitVec 10
  | .reg _ m _ => m
  | _ => 0

/-- The register number of a register field. -/
def num : Operand → Nat
  | .reg _ _ n => n.toNat
  | _ => 0

/-- The register class of a register field; 16 for another kind. -/
def clsOf : Operand → Nat
  | .reg c _ _ => c.toNat
  | _ => 16

/-- The system register numbers that R305 assigns. -/
def sysAssigned : List Nat :=
  [0x00, 0x01, 0x02, 0x03, 0x04, 0x05, 0x06, 0x07, 0x08, 0x10, 0x11, 0x12, 0x20, 0x21, 0x30, 0x31, 0x32, 0x33, 0x38]

/-- How many registers a class has (R299). -/
def classSize : Nat → Nat
  | 0 => 64 | 1 => 16 | 2 => 16 | 3 => 4 | 4 => 2 | 5 => 2 | 6 => 256 | 7 => 1 | _ => 0

/-- A register of class `c` in range, with any modifiers (R299, R305). -/
def isCls (c : Nat) : Operand → Bool
  | .reg k _ n => k.toNat == c && decide (n.toNat < classSize c) && (c != 6 || sysAssigned.contains n.toNat)
  | _ => false

/-- A register of class `c` whose modifier bits are zero. -/
def plain (c : Nat) (o : Operand) : Bool := isCls c o && mods o == 0

/-- An immediate, kind 01. -/
def isImm : Operand → Bool
  | .imm _ => true
  | _ => false

/-- A memory operand, kind 10. -/
def isMem : Operand → Bool
  | .mem _ _ => true
  | _ => false

/-- A wide half, kind 11. -/
def isWide : Operand → Bool
  | .wide _ => true
  | _ => false

/-- The s0 carrier: a register field naming s0, with any modifiers (R324). -/
def isS0 : Operand → Bool
  | .reg k _ n => k == 0 && n == 0
  | _ => false

/-- A field that must be zero. -/
def isZ (o : Operand) : Bool := o == zeroField

/-- A value operand: a class 0 register without modifiers, or an immediate (R351). -/
def isVal (o : Operand) : Bool := plain 0 o || isImm o

/-- FMT, bits [17:13], of a modifier field (R325). -/
def fmtOf (m : BitVec 10) : Fmt := Fmt.ofCode (fld m 9 5)
/-- ANY, bit [12]. -/
def anyOf (m : BitVec 10) : Bool := bit m 4
/-- OTH, bits [11:8], of groups 0-2 and 8-B. -/
def oth4 (m : BitVec 10) : Nat := fld m 3 0
/-- TYPE, bits [17:15]. -/
def typeOf (m : BitVec 10) : Nat := fld m 9 7
/-- SCOPE, bits [14:12]. -/
def scopeOf (m : BitVec 10) : Nat := fld m 6 4
/-- ORD, bits [11:10]. -/
def ordOf (m : BitVec 10) : Nat := fld m 3 2
/-- OTH, bits [9:8], of groups 5-7, C and D. -/
def oth2 (m : BitVec 10) : Nat := fld m 1 0

/-- Integer type modifiers (R332): no FMT, no ANY; `u` admits U, `w` admits W, `sat` admits SAT. -/
def intMods (w u sat : Bool) (m : BitVec 10) : Bool :=
  fld m 9 4 == 0 && (w || fld m 3 2 == 0) && (u || !bit m 1) && (sat || !bit m 0)

/-- The three-operand integer form: `imm` for group 1 (R322, R333). -/
def int3 (imm sat : Bool) (i : Ins) : Bool :=
  isCls 0 i.d && intMods true true sat (mods i.d) && plain 0 i.a && (if imm then isImm i.b else plain 0 i.b)

/-- The two-operand integer form; B is zero. -/
def int2 (u sat : Bool) (i : Ins) : Bool :=
  isCls 0 i.d && intMods true u sat (mods i.d) && plain 0 i.a && isZ i.b

/-- SEL (R336). -/
def selForm (imm : Bool) (i : Ins) : Bool :=
  plain 0 i.d && isCls 0 i.a && fld (mods i.a) 9 4 == 0 && (if imm then isImm i.b else plain 0 i.b)

/-- CMP (R336). -/
def cmpForm (imm : Bool) (i : Ins) : Bool :=
  isCls 1 i.d && intMods true true false (mods i.d) && isCls 0 i.a && fld (mods i.a) 9 3 == 0 &&
    decide (fld (mods i.a) 2 0 ≤ 5) && (if imm then isImm i.b else plain 0 i.b)

/-- BFX, BFI, SEXT and ZEXT: the types their rows admit (R335). -/
def bitForm (imm u : Bool) (i : Ins) : Bool :=
  isCls 0 i.d && intMods false u false (mods i.d) && plain 0 i.a && (if imm then isImm i.b else plain 0 i.b)

/-- MOV's classes (R337). -/
def movCls (o : Operand) : Bool := plain 0 o || plain 3 o || plain 5 o || plain 7 o

/-- The scalar float form (R338, R339). -/
def float3 (dcls : Nat) (i : Ins) (b : Bool) (othOk : Nat → Bool) : Bool :=
  isCls dcls i.d && (fmtOf (mods i.d)).isFloat3 && !anyOf (mods i.d) && othOk (oth4 (mods i.d)) && plain 0 i.a &&
    (if b then plain 0 i.b else isZ i.b)

/-- The conversion modifiers SR, SAT, INF, NAN against a target (R283, R342). A target b32.f8e4 admits `.nan`, because
R277 gives its companion 0xFF case a result under `.nan`. -/
def cvtMods (m : BitVec 10) : Bool :=
  let tgt := fmtOf m
  !(bit m 2 && bit m 1) && (!bit m 1 || tgt.hasInf) && (!bit m 0 || tgt == .f8e4 || tgt == .b32f8e4)

/-- FCVT (R342). -/
def fcvtForm (i : Ins) : Bool :=
  isCls 0 i.d && (fmtOf (mods i.d)).isFcvt && !anyOf (mods i.d) && cvtMods (mods i.d) &&
    isCls 0 i.a && (fmtOf (mods i.a)).isFcvt && fld (mods i.a) 4 0 == 0 &&
    (if bit (mods i.d) 3 then isVal i.b else isZ i.b)

/-- SCOPE and ORD: both zero, or SCOPE in 2..`hi` with ORD in `ords`. -/
def scopeOrd (opt : Bool) (lo hi : Nat) (ords : List Nat) (m : BitVec 10) : Bool :=
  (opt && scopeOf m == 0 && ordOf m == 0) ||
    (decide (lo ≤ scopeOf m) && decide (scopeOf m ≤ hi) && ords.contains (ordOf m))

/-- LD, LDW, and the modifiers of RLD's type: TYPE 1-4, no scope, U in OTH[8] (R350). -/
def ldMods (m : BitVec 10) : Bool :=
  decide (1 ≤ typeOf m) && decide (typeOf m ≤ 4) && fld m 6 1 == 0

/-- ST and STW: the carrier is A (R351). -/
def stForm (i : Ins) : Bool :=
  isMem i.d && isCls 0 i.a && decide (1 ≤ typeOf (mods i.a)) && decide (typeOf (mods i.a) ≤ 4) &&
    fld (mods i.a) 6 0 == 0 && isZ i.b

/-- PREF and FLUSHL (R350). -/
def prefForm (i : Ins) : Bool := isS0 i.d && fld (mods i.d) 9 1 == 0 && isMem i.a && isZ i.b

/-- The atomics (R350): `wOnly` for AFADD and AAMAX, `u` for AMIN and AMAX. -/
def atomForm (wOnly u : Bool) (i : Ins) : Bool :=
  let m := mods i.d
  isCls 0 i.d && (typeOf m == 3 || (typeOf m == 4 && !wOnly)) && scopeOrd false 2 7 [0, 1, 2, 3] m && (u || !bit m 1) &&
    isMem i.a && isVal i.b

/-- A group 7 destination with an optional release (SPAWN, SPAWNG, SIGNAL, SEND). -/
def relMods (m : BitVec 10) : Bool := typeOf m == 0 && scopeOrd true 2 6 [2] m && oth2 m == 0

/-- The mask bits of A: mask number [9:8] and Z [10]; the rest zero (R380). -/
def maskA (i : Ins) : Bool := isCls 2 i.a && fld (mods i.a) 9 3 == 0

/-- Z of A's modifier bits. -/
def zA (i : Ins) : Bool := bit (mods i.a) 2

/-- A broadcast B for format `f` (R381). -/
def bcast (f : Fmt) (b : Operand) : Bool := plain 2 b || plain 0 b || (isImm b && f.isInt)

/-- An element-wise form: accepted formats, SAT's formats, and whether B is a broadcast or zero (R380, R385). -/
def elemForm (ok sat : Fmt → Bool) (b : Bool) (i : Ins) : Bool :=
  let m := mods i.d
  let f := fmtOf m
  isCls 2 i.d && ok f && fld m 3 1 == 0 && (!bit m 0 || sat f) && maskA i && (if b then bcast f i.b else isZ i.b)

/-- The formats of VRED, VSCAN and VCMP (R386, R387). -/
def is3 (f : Fmt) : Bool := f == .f32 || f == .i32 || f == .z32

/-- VCMP (R386); B may be broadcast as in the other element-wise forms. -/
def vcmpForm (i : Ins) : Bool :=
  let m := mods i.d
  isCls 3 i.d && is3 (fmtOf m) && !bit m 3 && (fmtOf m == .f32 || decide (fld m 2 0 ≤ 5)) && maskA i && bcast (fmtOf m) i.b

/-- VRED and VSCAN (R387, R388). -/
def redForm (dcls : Nat) (exc z : Bool) (i : Ins) : Bool :=
  let m := mods i.d
  isCls dcls i.d && is3 (fmtOf m) && (exc || !bit m 3) && decide (fld m 2 0 ≤ 5) &&
    (decide (fld m 2 0 ≤ 2) || fmtOf m != .f32) && maskA i && (z || !zA i) && isZ i.b

/-- VDOT4 (R391). -/
def vdot4Form (i : Ins) : Bool :=
  let m := mods i.d
  let src := fmtOf (mods i.a)
  isCls 2 i.d && fld m 3 1 == 0 && isCls 2 i.a && fld (mods i.a) 4 3 == 0 &&
    ((fmtOf m == .i32 && (src == .i8 || src == .z8)) || (fmtOf m == .f32 && (src == .f8e4 || src == .f8e5) && !bit m 0)) &&
    bcast src i.b

/-- VCVT (R394, R395). -/
def vcvtForm (i : Ins) : Bool :=
  let m := mods i.d
  let tgt := fmtOf m
  let src := fmtOf (mods i.a)
  let part := fld (mods i.a) 4 3
  let blk := src.isBlock || tgt.isBlock
  let ok (f : Fmt) : Bool := f != .q4n && f != .b64mix
  isCls 2 i.d && ok tgt && ok src && cvtMods m && isCls 2 i.a && !(src.isBlock && tgt.isBlock) && !(blk && bit m 3) &&
    (if blk then plain 2 i.b else if bit m 3 then isVal i.b else isZ i.b) &&
    (if src.count = tgt.count then part == 0
     else if src.count < tgt.count then decide (part < tgt.count / src.count)
     else decide (part < min 4 (src.count / tgt.count)))

/-- A vector load (R380, R396-R399): accepted formats and B. -/
def vldForm (ok : Fmt → Bool) (b : Operand → Bool) (i : Ins) : Bool :=
  isCls 2 i.d && ok (fmtOf (mods i.d)) && isMem i.a && b i.b

/-- A vector store: the carrier is A, and OTH[10] is zero. -/
def vstForm (ok : Fmt → Bool) (b : Operand → Bool) (i : Ins) : Bool :=
  isMem i.d && isCls 2 i.a && ok (fmtOf (mods i.a)) && !bit (mods i.a) 2 && b i.b

/-- The formats of strided accesses (R398). -/
def strideFmt (f : Fmt) : Bool := f.memBits == 8 || f.memBits == 16 || f.memBits == 32 || f.memBits == 64

/-- SCOPE and ORD in A's modifier bits: none, or `.acq` at a scope (R407). -/
def acqA (a : Operand) : Bool :=
  isCls 0 a && scopeOrd true 2 7 [1] (mods a) && typeOf (mods a) == 0 && oth2 (mods a) == 0 &&
    (scopeOf (mods a) == 0) == (ordOf (mods a) == 0)

/-- MMAC's A: an even v register, the other t register, or a TS offset, with the formats each admits (R407). -/
def mmacA (i : Ins) : Bool :=
  let f := fmtOf (mods i.d)
  f != .q4n && f != .b64mix &&
    ((plain 2 i.a && num i.a % 2 == 0 && !f.isBlock) || (plain 4 i.a && num i.a != num i.d && !f.isBlock) ||
      (isMem i.a && f != .f32))

/-- MCVT's targets (R415). -/
def mcvtTgt (f : Fmt) : Bool := !f.isBlock && f != .q4n && f != .b64mix && f != .f32x3 && f != .i64

/-- The flags of an engine command (R420). -/
def engMods (ords : List Nat) (oth : Nat → Bool) (m : BitVec 10) : Bool :=
  typeOf m == 0 && scopeOrd true 2 7 ords m && oth (oth2 m)

/-- An engine command's destination: a class 0 register other than s0 (R419). -/
def engD (o : Operand) : Bool := isCls 0 o && num o != 0

/-- v12-v15 (R400). -/
def isStreamReg (o : Operand) : Bool := plain 2 o && decide (12 ≤ num o)

/-- A register pair s(2n), 2n from 2 to 62 (R431). -/
def isPair (o : Operand) : Bool := isCls 0 o && num o % 2 == 0 && decide (2 ≤ num o)

/-- A base of a run of registers, N from 1 to `hi` (R443). -/
def isBase (hi : Nat) (o : Operand) : Bool := isCls 0 o && decide (1 ≤ num o) && decide (num o ≤ hi)

/-- A class 0 register or an immediate not above `hi` (R443). -/
def valUpTo (hi : Nat) : Operand → Bool
  | .imm v => decide (v.toNat ≤ hi)
  | o => plain 0 o

/-- Is the function one of the readiness map (R24)? -/
def funcOk : Func → Bool
  | .clu c | .sds c | .opt c | .tscf c | .sgc c => decide (c < 16)
  | .hbm x => decide (x < 8)
  | .dcr d | .oec d => decide (d < 4)
  | .nmc => true

/-- The memory BARs of the device's one PCIe function (R71): BAR0 64 MiB, BAR2 384 GiB; every other reads as not implemented. -/
def barSize : Nat → Option Nat
  | 0 => some (2 ^ 26)
  | 2 => some 0x6000000000
  | _ => none

/-- Does the instruction's word have the form its description gives (R327)? The moves of the other agents have no word. -/
def ok : Instr → Bool
  | .add i | .sub i | .mul i | .madd i | .shl i => int3 false true i
  | .mulh i | .div i | .rem i | .and i | .or i | .xor i | .andn i | .shr i | .sar i | .rot i | .min i | .max i => int3 false false i
  | .addImm i | .subImm i | .mulImm i | .maddImm i | .shlImm i => int3 true true i
  | .mulhImm i | .divImm i | .remImm i | .andImm i | .orImm i | .xorImm i | .andnImm i | .shrImm i | .sarImm i | .rotImm i
  | .minImm i | .maxImm i => int3 true false i
  | .clz i | .ctz i | .popc i => int2 true false i
  | .abs i => int2 false true i
  | .sel i => selForm false i
  | .selImm i => selForm true i
  | .cmp i => cmpForm false i
  | .cmpImm i => cmpForm true i
  | .mov i => movCls i.d && movCls i.a && isZ i.b
  | .bfx i => bitForm false true i
  | .bfxImm i => bitForm true true i
  | .bfi i | .sext i | .zext i => bitForm false false i
  | .bfiImm i | .sextImm i | .zextImm i => bitForm true false i
  | .li i => (plain 0 i.d || plain 7 i.d) && isImm i.a && isZ i.b
  | .liw i => plain 0 i.d && isWide i.a && isWide i.b
  | .fadd i | .fsub i | .fmul i | .ffma i | .fdiv i | .fmin i | .fmax i => float3 0 i true (· == 0)
  | .fsqrt i | .fclass i => float3 0 i false (· == 0)
  | .fcmp i => float3 1 i true fun o => decide (o < 8)
  | .fsgn i => float3 0 i true fun o => decide (o ≤ 2)
  | .fcvt i => fcvtForm i
  | .br i => isZ i.d && isImm i.a && isZ i.b
  | .jmp i => isZ i.d && ((plain 0 i.a && isZ i.b) || (isWide i.a && isWide i.b))
  | .call i => plain 0 i.d && (isImm i.a || plain 0 i.a) && isZ i.b
  | .ret i => isZ i.d && plain 0 i.a && isZ i.b
  | .brx i => isZ i.d && plain 0 i.a && isImm i.b
  | .loop i => isZ i.d && isVal i.a && (match i.b with | .imm k => decide (1 ≤ k.toInt) | _ => false)
  | .endl i | .nop i | .suspend i | .yield i | .exit i | .sstep i | .eret i | .halt i | .idle i => isZ i.d && isZ i.a && isZ i.b
  | .pand i | .por i | .pxor i => plain 1 i.d && plain 1 i.a && plain 1 i.b
  | .pnot i => plain 1 i.d && plain 1 i.a && isZ i.b
  | .pmov i => plain 1 i.d && (plain 1 i.a || isVal i.a) && isZ i.b
  | .mand i | .mor i | .mxor i => plain 3 i.d && plain 3 i.a && plain 3 i.b
  | .mnot i => plain 3 i.d && plain 3 i.a && isZ i.b
  | .mpop i | .mfirst i => plain 0 i.d && plain 3 i.a && isZ i.b
  | .mtop i => isCls 1 i.d && fld (mods i.d) 9 2 == 0 && decide (oth2 (mods i.d) ≤ 2) && plain 3 i.a && isZ i.b
  | .ld i | .ldw i => isCls 0 i.d && ldMods (mods i.d) && isMem i.a && isZ i.b
  | .st i | .stw i => stForm i
  | .pref i | .flushl i => prefForm i
  | .aadd i | .aand i | .aor i | .axor i | .aswp i | .acas i => atomForm false false i
  | .afadd i | .aamax i => atomForm true false i
  | .amin i | .amax i => atomForm false true i
  | .fence i => isS0 i.d && typeOf (mods i.d) == 0 && scopeOrd false 2 7 [1, 2, 3] (mods i.d) && oth2 (mods i.d) == 0 &&
      isZ i.a && isZ i.b
  | .fenceRange i => isS0 i.d && typeOf (mods i.d) == 0 && scopeOrd false 2 7 [1, 2] (mods i.d) && oth2 (mods i.d) == 0 &&
      isMem i.a && isVal i.b
  | .spawn i | .spawng i => isCls 0 i.d && relMods (mods i.d) && isMem i.a && isVal i.b
  | .signal i => isCls 0 i.d && relMods (mods i.d) && isMem i.a && isZ i.b
  | .send i => isCls 0 i.d && relMods (mods i.d) && isVal i.a && isVal i.b
  | .join i => isZ i.d && isMem i.a && isZ i.b
  | .waitw i => isS0 i.d && (typeOf (mods i.d) == 3 || typeOf (mods i.d) == 4) && scopeOrd true 2 7 [1] (mods i.d) &&
      isMem i.a && isVal i.b
  | .bar i => engD i.d && typeOf (mods i.d) == 0 && scopeOrd false 2 7 [0] (mods i.d) && oth2 (mods i.d) == 0 &&
      isVal i.a && isVal i.b
  | .bara i => isCls 0 i.d && typeOf (mods i.d) == 0 && scopeOrd false 2 7 [0] (mods i.d) && oth2 (mods i.d) == 0 &&
      isVal i.a && isVal i.b
  | .barw i => isS0 i.d && typeOf (mods i.d) == 0 && scopeOrd false 2 7 [0] (mods i.d) && oth2 (mods i.d) == 0 &&
      isVal i.a && isVal i.b
  | .rwait i => isCls 0 i.d && typeOf (mods i.d) == 0 && scopeOrd true 2 7 [1] (mods i.d) && oth2 (mods i.d) == 0 &&
      isVal i.a && isZ i.b
  | .rpost i | .rprobe i => plain 0 i.d && isVal i.a && isZ i.b
  | .csign i => plain 0 i.d && isMem i.a && isZ i.b
  | .cdiss i => plain 0 i.d && isVal i.a && isZ i.b
  | .xfer i => plain 0 i.d && isVal i.a && isVal i.b
  | .expect i => isZ i.d && isVal i.a && isVal i.b
  | .lfwd i => plain 0 i.d && plain 5 i.a && isZ i.b
  | .vadd i | .vsub i | .vmul i | .vfma i => elemForm Fmt.isAF Fmt.isInt true i
  | .vmin i | .vmax i | .vand i | .vor i | .vxor i => elemForm Fmt.isAF (fun _ => false) true i
  | .vabs i | .vneg i => elemForm (fun f => f.isAF && !f.isZ) Fmt.isI false i
  | .vshl i => elemForm (fun f => f.isAF && f.isInt) (fun _ => true) true i
  | .vshr i | .vsar i => elemForm (fun f => f.isAF && f.isInt) (fun _ => false) true i
  | .vcmp i => vcmpForm i
  | .vsel i => elemForm (fun f => f.isAF || f.container == 32) (fun _ => false) true i && !zA i
  | .vred i => redForm 0 false false i
  | .vscan i => redForm 2 true true i
  | .vamax i => isCls 0 i.d && (fmtOf (mods i.d)).isFloat3 && oth4 (mods i.d) == 0 && maskA i && !zA i && isZ i.b
  | .vperm i => isCls 2 i.d && fld (mods i.d) 9 5 == 0 && oth4 (mods i.d) == 0 && maskA i && plain 2 i.b
  | .vslide i => isCls 2 i.d && fld (mods i.d) 9 5 == 0 && fld (mods i.d) 3 1 == 0 && maskA i && isVal i.b
  | .vext i => isCls 0 i.d && fld (mods i.d) 9 5 == 0 && oth4 (mods i.d) == 0 && plain 2 i.a && isVal i.b
  | .vins i => isCls 2 i.d && fld (mods i.d) 9 5 == 0 && oth4 (mods i.d) == 0 && plain 0 i.a && isVal i.b
  | .vbcast i => isCls 2 i.d && fmtOf (mods i.d) != .i64 && fld (mods i.d) 4 0 == 0 && isVal i.a && isZ i.b
  | .vexp i | .vrcp i | .vrsq i | .vlog i => elemForm Fmt.isFloat3 (fun _ => false) false i
  | .vdot4 i => vdot4Form i
  | .vcvt i => vcvtForm i
  | .vtag i => (isCls 2 i.d || isCls 4 i.d) && fld (mods i.d) 4 1 == 0 && (!bit (mods i.d) 0 || fld (mods i.d) 9 5 == 0) &&
      isZ i.a && isZ i.b
  | .vgtag i => plain 0 i.d && (plain 2 i.a || plain 4 i.a) && isZ i.b
  | .vld i => vldForm (fun _ => true) isZ i
  | .vst i => vstForm (fun _ => true) isZ i
  | .vlds i => vldForm strideFmt isVal i
  | .vsts i => vstForm strideFmt isVal i
  | .vgth i => vldForm (fun f => f.memBits == 32) (plain 2) i
  | .vsct i => vstForm (fun f => f.memBits == 32) (plain 2) i
  | .mldb i => isCls 0 i.d && fmtOf (mods i.d) != .f32 && fld (mods i.d) 4 1 == 0 && acqA i.a &&
      (if (fmtOf (mods i.d)).hasCompanion then plain 0 i.b else isZ i.b)
  | .mld i => isCls 4 i.d && fld (mods i.d) 4 0 == 0 && isMem i.a && isZ i.b
  | .mst i => isMem i.d && isCls 4 i.a && oth4 (mods i.a) == 0 && isZ i.b
  | .mzero i => isCls 4 i.d && (fmtOf (mods i.d) == .f32 || fmtOf (mods i.d) == .i32) && fld (mods i.d) 4 0 == 0 &&
      isZ i.a && isZ i.b
  | .mmac i => isCls 4 i.d && fld (mods i.d) 3 1 == 0 && mmacA i && plain 0 i.b
  | .mmacr i => isCls 4 i.d && fld (mods i.d) 3 1 == 0 && fmtOf (mods i.d) != .f32 && fmtOf (mods i.d) != .q4n &&
      fmtOf (mods i.d) != .b64mix && acqA i.a && plain 0 i.b
  | .mcvt i => isCls 4 i.d && mcvtTgt (fmtOf (mods i.d)) && cvtMods (mods i.d) && plain 4 i.a &&
      (if bit (mods i.d) 3 then isVal i.b else isZ i.b)
  | .mscale i => isCls 4 i.d && fmtOf (mods i.d) == .f32 && fld (mods i.d) 3 1 == 0 && plain 2 i.a && isZ i.b
  | .mtrans i => isCls 4 i.d && fld (mods i.d) 9 5 == 0 && oth4 (mods i.d) == 0 && plain 4 i.a && isZ i.b
  | .seminc i | .semwait i => isS0 i.d && fld (mods i.d) 9 2 == 0 && decide (oth2 (mods i.d) ≤ 2) && isVal i.a && isVal i.b
  | .copy i => engD i.d && engMods [1, 2, 3] (fun _ => true) (mods i.d) && plain 0 i.a && plain 0 i.b
  | .copy2d i => engD i.d && engMods [1, 2, 3] (fun _ => true) (mods i.d) && plain 0 i.a && decide (num i.a ≤ 62) &&
      plain 0 i.b && decide (num i.b ≤ 62)
  | .gather i => engD i.d && engMods [1, 2, 3] (fun o => decide (o ≤ 1)) (mods i.d) && plain 0 i.a && isMem i.b
  | .scatter i => engD i.d && engMods [1, 2, 3] (fun o => o % 2 == 0) (mods i.d) && plain 0 i.a && isMem i.b
  | .stream i => engD i.d && engMods [1] (fun o => o % 2 == 0) (mods i.d) && isStreamReg i.a && isMem i.b
  | .strend i => engD i.d && engMods [2] (· == 0) (mods i.d) && isStreamReg i.a && isZ i.b
  | .routeDsp i | .routeCmb i | .routeStat i => engD i.d && engMods [1, 2, 3] (· == 0) (mods i.d) && isMem i.a && isZ i.b
  | .rld i => isPair i.d && decide (1 ≤ typeOf (mods i.d)) && decide (typeOf (mods i.d) ≤ 4) &&
      scopeOrd true 7 7 [1] (mods i.d) && !bit (mods i.d) 1 && isMem i.a && isZ i.b
  | .rst i => isCls 0 i.d && decide (1 ≤ typeOf (mods i.d)) && decide (typeOf (mods i.d) ≤ 4) &&
      scopeOrd true 7 7 [2] (mods i.d) && decide (oth2 (mods i.d) ≤ 2) && isMem i.a && isVal i.b
  | .ratom i => isPair i.d && (typeOf (mods i.d) == 3 || typeOf (mods i.d) == 4) && scopeOrd false 7 7 [0, 1, 2, 3] (mods i.d) &&
      oth2 (mods i.d) == 0 && isMem i.a && isCls 0 i.b && decide (1 ≤ (mods i.b).toNat) && decide ((mods i.b).toNat ≤ 12) &&
      !(typeOf (mods i.d) == 4 && ((mods i.b).toNat == 2 || (mods i.b).toNat == 7))
  | .rfence i => isS0 i.d && typeOf (mods i.d) == 0 && scopeOrd false 2 7 [1, 2, 3] (mods i.d) && oth2 (mods i.d) == 0 &&
      isZ i.a && isZ i.b
  | .trap i | .brk i => isZ i.d && isImm i.a && isZ i.b
  | .mfs i => plain 0 i.d && plain 6 i.a && isZ i.b
  | .mts i => plain 6 i.d && isVal i.a && isZ i.b
  | .tlbwr i => plain 0 i.d && isBase 61 i.a && mods i.a == 0 && valUpTo 783 i.b
  | .tlbrd i => isBase 61 i.d && mods i.d == 0 && valUpTo 1023 i.a && valUpTo 783 i.b
  | .tlbinv i => isCls 0 i.d && fld (mods i.d) 9 2 == 0 && plain 0 i.a &&
      (if oth2 (mods i.d) ≥ 2 then isZ i.b else isVal i.b)
  | .mbxpost i => isZ i.d && plain 0 i.a && plain 0 i.b
  | .mbxwait i => isBase 60 i.d && fld (mods i.d) 9 1 == 0 && isZ i.a && isZ i.b
  | .gstop i => isCls 0 i.d && fld (mods i.d) 9 5 == 0 && !bit (mods i.d) 1 && decide (4 ≤ fld (mods i.d) 4 2) &&
      decide (fld (mods i.d) 4 2 ≤ 6) && isVal i.a && isZ i.b
  | .ctxsv i => isS0 i.d && fld (mods i.d) 9 2 == 0 && plain 0 i.a && isZ i.b
  | .ctxld i => isZ i.d && plain 0 i.a && isZ i.b
  | .l2mode i => plain 0 i.d && isVal i.a && isZ i.b
  | .pennant i => isCls 0 i.d && fld (mods i.d) 9 5 == 0 && fld (mods i.d) 1 0 == 0 && decide (6 ≤ fld (mods i.d) 4 2) &&
      isZ i.a && isZ i.b
  | .sense i => plain 0 i.d && isVal i.a && isZ i.b
  | .time i => isCls 0 i.d && fld (mods i.d) 9 1 == 0 && isZ i.a && isZ i.b
  | .asyncTrapTake n | .idleWake n | .quantumExpiry n | .preemptStop n | .lclockTick n | .writeLands n | .registrationAcknowledged n =>
    decide (n < 12304)
  | .debugResume _ | .coldReset | .standbyPowerGood | .droopWindowClose | .eqctlWrite _ | .eqheadWrite _ | .msixInterrupt | .updateGo _
  | .stageComplete | .handoverPoint | .freezeComplete | .aliveReport _ | .watchdogExpiry | .rollbackExpiry | .attestQuote
  | .dumpComplete _ | .hangDetect _ | .engineStatusLand _ | .gangStopDrain _ | .roundInject _ | .msaAtomic _ _ | .scTicketIssue
  | .wordNotInstruction _ | .modeSwitchComplete | .powerLoss | .superstepStart _ | .signingWaitExpiry _ | .holdAnnounce _ _
  | .compactBarrierRelease _ | .transferDeadlineExpiry _ | .compactDissolve _ | .ptStoreComplete _ | .mirrorUpdate _ => true
  | .functionReady f | .functionFailure f => funcOk f
  | .temperatureSample k _ => decide (k < 3072) || (decide (6160 ≤ k) && decide (k < 6168)) || (decide (6176 ≤ k) && decide (k < 6192))
  | .throttleStep d l => decide (d < 4) && decide (l ≤ 8)
  | .droopEvent c => decide (c < 3072)
  | .powerSampleUpdate d _ => decide (d < 6)
  | .reqLoad p b | .reqStore p b | .reqAtomic p b | .dataFlit p b | .markFlit p b | .linkAck p b | .linkNak p b
  | .stripeReq p b | .stripeAck p b => decide (p < 16) && b.length == 144
  | .respFlit p h b => decide (p < 16) && h.length == 8 && b.length == 136
  | .bound p h b c => decide (p < 16) && h.length == 8 && b.length == 128 && c.length == 8
  | .pennantFlit u i _ _ => decide (u < 4) && decide (i < 7)
  | .ackTimer p | .replayTimeout p | .lossOfLight p _ _ _
  | .lightDetect p | .replayEnd (p, _) | .boundPublish p | .portDrainComplete p => decide (p < 16)
  | .trainComplete p _ peer q => decide (p < 16) && decide (peer < 512) && decide (q < 16)
  | .routeReconfigure l _ _ => l.all fun e => decide (e.dst < 512)
  | .switchGo g _ | .drainComplete g | .unbindComplete g | .retrainComplete g _ | .loadComplete g | .bindComplete g | .serdesLinkFailure g =>
    decide (g < 16)
  | .serdesInboundRequest g (k, _) _ _ _ => decide (g < 16) && decide (k < 4)
  | .compactPacketReceive g (p, _) _ _ => decide (g < 16) && decide (p < 512)
  | .rudRetransmit g _ | .serdesResponse g _ => decide (g < 16)
  | .hostBar2Read pa n => decide (pa.toNat + n ≤ (barSize 2).getD 0)
  | .hostBar2Write pa d => decide (pa.toNat + d.length ≤ (barSize 2).getD 0) ||
    (decide (0x8000000000000 ≤ pa.toNat) && decide (pa.toNat + d.length ≤ 2 ^ 52))
  | .registerWrite o k _ => decide (o < (barSize 0).getD 0) && (k == 4 || k == 8) && decide (o % k = 0)
  | .lptailWrite p _ | .lpcfgWrite p _ | .lpbndUpdate p | .launchJoinIncrement p _ | .emptyLaunchComplete p | .portEntryAged p _ =>
    decide (p < 64)
  | .fatalError c => decide (1 ≤ c.toNat) && decide (c.toNat ≤ 5)
  | .strandPlace c | .gangAged c _ | .watchEvaluate c _ | .leaseRenewal c _ _ | .ownershipRequest c _ => decide (c < 16)
  | .d2dLinkFailure l => decide (l < 4)
  | .dieSuspect d | .dieTakeover d => decide (d < 4)
  | .unitLoad t | .messageArrive t | .tilePowerGate t | .xferUnitLand t | .rds t _ | .rdx t _ _ | .upg t _ _ | .wb t _
  | .cleanEvictionNotice t _ | .probe t _ _ _ | .conflict t _ | .nack t _ _ | .coherenceReply t _ => decide (t < 768)
  | .vectorBind t | .mxOpStart t => decide (t < 784)
  | .semaphoreWaitComplete t i => decide (t < 784) && decide (i < 16)
  | .engineCommandStart t q => decide (t < 784) && decide (q < 5)
  | .streamReadahead n r => decide (n < 12304) && decide (12 ≤ r) && decide (r < 16)
  | .faultRetry n e | .faultReply n e _ => decide (n < 12304) && decide (e.toNat ≤ 4)
  | .ptInvalidate c _ | .ptInvalidateAck c _ => decide (c < 784)
  | .ticketCall i | .fillReturn i _ | .wbDrain i => decide (i < 192)

/-- The guard that R302 refuses: GP = 0 with GN = 1. -/
def guardOk (i : Ins) : Bool := !(i.gp == 0 && i.gn)

/-- The word that an instruction of a strand carries; none for the moves of other agents, which have no word. -/
def fieldsOf : Instr → Option Ins
  | .add w | .sub w | .mul w | .mulh w | .div w | .rem w | .and w | .or w | .xor w | .andn w | .shl w | .shr w | .sar w
  | .rot w | .clz w | .ctz w | .popc w | .min w | .max w | .abs w | .sel w | .cmp w | .mov w | .bfx w | .bfi w | .madd w
  | .sext w | .zext w | .addImm w | .subImm w | .mulImm w | .mulhImm w | .divImm w | .remImm w | .andImm w | .orImm w
  | .xorImm w | .andnImm w | .shlImm w | .shrImm w | .sarImm w | .rotImm w | .minImm w | .maxImm w | .selImm w | .cmpImm w
  | .bfxImm w | .bfiImm w | .maddImm w | .sextImm w | .zextImm w | .li w | .liw w | .fadd w | .fsub w | .fmul w | .ffma w
  | .fdiv w | .fsqrt w | .fmin w | .fmax w | .fcmp w | .fcvt w | .fsgn w | .fclass w | .br w | .jmp w | .call w | .ret w
  | .brx w | .loop w | .endl w | .nop w | .pand w | .por w | .pxor w | .pnot w | .pmov w | .mand w | .mor w | .mxor w | .mnot w
  | .mpop w | .mfirst w | .mtop w | .ld w | .st w | .ldw w | .stw w | .pref w | .flushl w | .aadd w | .afadd w | .amin w
  | .amax w | .aamax w | .aand w | .aor w | .axor w | .aswp w | .acas w | .fence w | .fenceRange w | .spawn w | .spawng w
  | .suspend w | .yield w | .join w | .exit w | .waitw w | .signal w | .bar w | .bara w | .barw w | .send w | .rpost w
  | .rwait w | .rprobe w | .csign w | .cdiss w | .xfer w | .expect w | .sstep w | .lfwd w | .vadd w | .vsub w | .vmul w
  | .vfma w | .vmin w | .vmax w | .vabs w | .vneg w | .vand w | .vor w | .vxor w | .vshl w | .vshr w | .vsar w | .vcmp w
  | .vsel w | .vred w | .vscan w | .vperm w | .vslide w | .vexp w | .vrcp w | .vrsq w | .vlog w | .vdot4 w | .vext w | .vins w
  | .vamax w | .vbcast w | .vcvt w | .vtag w | .vgtag w | .vld w | .vst w | .vlds w | .vsts w | .vgth w | .vsct w | .mldb w
  | .mld w | .mst w | .mzero w | .mmac w | .mmacr w | .mcvt w | .mscale w | .mtrans w | .seminc w | .semwait w | .copy w
  | .copy2d w | .gather w | .scatter w | .stream w | .strend w | .routeDsp w | .routeCmb w | .routeStat w | .rld w | .rst w
  | .ratom w | .rfence w | .trap w | .eret w | .mfs w | .mts w | .tlbwr w | .tlbrd w | .tlbinv w | .mbxpost w | .mbxwait w
  | .gstop w | .ctxsv w | .ctxld w | .l2mode w | .halt w | .brk w | .pennant w | .sense w | .time w | .idle w => some w
  | .asyncTrapTake _ | .idleWake _ | .debugResume _ | .coldReset | .standbyPowerGood | .functionReady _ | .functionFailure _
  | .temperatureSample _ _ | .throttleStep _ _ | .droopEvent _ | .droopWindowClose | .powerSampleUpdate _ _ | .reqLoad _ _
  | .reqStore _ _ | .reqAtomic _ _ | .dataFlit _ _ | .respFlit _ _ _ | .markFlit _ _ | .pennantFlit _ _ _ _ | .linkAck _ _
  | .linkNak _ _ | .stripeReq _ _ | .stripeAck _ _ | .bound _ _ _ _ | .ackTimer _ | .replayTimeout _ | .lossOfLight _ _ _ _
  | .lightDetect _ | .trainComplete _ _ _ _ | .replayEnd _ | .boundPublish _ | .routeReconfigure _ _ _ | .portDrainComplete _
  | .switchGo _ _ | .drainComplete _ | .unbindComplete _ | .retrainComplete _ _ | .loadComplete _ | .bindComplete _
  | .serdesLinkFailure _ | .serdesInboundRequest _ _ _ _ _ | .compactPacketReceive _ _ _ _ | .rudRetransmit _ _
  | .hostBar2Read _ _ | .hostBar2Write _ _ | .registerWrite _ _ _ | .lptailWrite _ _ | .lpcfgWrite _ _ | .lpbndUpdate _
  | .launchJoinIncrement _ _ | .emptyLaunchComplete _ | .portEntryAged _ _ | .eqctlWrite _ | .eqheadWrite _ | .msixInterrupt
  | .updateGo _ | .stageComplete | .handoverPoint | .freezeComplete | .aliveReport _ | .watchdogExpiry | .rollbackExpiry
  | .attestQuote | .fatalError _ | .dumpComplete _ | .strandPlace _ | .quantumExpiry _ | .preemptStop _ | .gangAged _ _
  | .gangStopDrain _ | .unitLoad _ | .watchEvaluate _ _ | .hangDetect _ | .engineStatusLand _ | .roundInject _
  | .d2dLinkFailure _ | .dieSuspect _ | .dieTakeover _ | .vectorBind _ | .mxOpStart _ | .semaphoreWaitComplete _ _
  | .engineCommandStart _ _ | .streamReadahead _ _ | .faultRetry _ _ | .faultReply _ _ _ | .messageArrive _ | .ptInvalidate _ _
  | .ptInvalidateAck _ _ | .ptStoreComplete _ | .tilePowerGate _ | .superstepStart _ | .signingWaitExpiry _ | .holdAnnounce _ _
  | .xferUnitLand _ | .compactBarrierRelease _ | .transferDeadlineExpiry _ | .compactDissolve _ | .rds _ _ | .rdx _ _ _
  | .upg _ _ _ | .wb _ _ | .cleanEvictionNotice _ _ | .probe _ _ _ _ | .conflict _ _ | .nack _ _ _ | .ticketCall _
  | .fillReturn _ _ | .wbDrain _ | .leaseRenewal _ _ _ | .ownershipRequest _ _ | .mirrorUpdate _ | .lclockTick _
  | .msaAtomic _ _ | .scTicketIssue | .wordNotInstruction _ | .writeLands _ | .coherenceReply _ _ | .serdesResponse _ _
  | .registrationAcknowledged _ | .modeSwitchComplete | .powerLoss => none

/-- A well-formed instruction: its fields admitted, and not the guard GP 0 with GN 1 (R302). -/
def wellFormed (i : Instr) : Bool := ok i && ((fieldsOf i).map guardOk).getD true

end Sys2Proof.Forms
end

