-- ==== Sys2Proof/Machine/Flits.lean ====
section
/-! DEFINITION. The flit on the link (02_optical_fabric R32-R37, R48, R50): its 144 bytes with header and CRC-64, the stripe that a port's
live masks give, the striping of a flit over the wavelengths of a fibre, and the guaranteed rate of a port. -/

namespace Sys2Proof.Machine
open Sys2Proof

/-! The 144 bytes (R32, R33). -/

/-- CRC-64 over ECMA-182's polynomial, one bit. The bits of a byte enter lowest first, as R35 numbers them, so the polynomial stands
reversed (notes/assumptions 87). -/
def crc64Bit (c : Nat) : Nat := if c % 2 = 1 then (c / 2) ^^^ 0xC96C5795D7870F42 else c / 2
/-- CRC-64, one byte. -/
def crc64Byte (c : Nat) (b : Byte) : Nat := (List.range 8).foldl (fun c _ => crc64Bit c) (c ^^^ b.toNat)
/-- CRC-64 of a byte string: initial value and final XOR all ones (R33). -/
def crc64 (l : List Byte) : Nat := (l.foldl crc64Byte (2 ^ 64 - 1)) ^^^ (2 ^ 64 - 1)

/-- The header's 64 bits (R32). -/
def headWord (h : Flit) : Nat :=
  h.typ.toNat * 2 ^ 60 + h.seq.toNat * 2 ^ 48 + h.ack.toNat * 2 ^ 36 + h.dst.toNat * 2 ^ 27 + h.src.toNat * 2 ^ 18 +
    h.path.toNat * 2 ^ 14 + h.hop.toNat * 2 ^ 12 + h.tag.toNat
/-- The header that 64 bits hold. -/
def headOf (w : Nat) : Flit :=
  let x : Word64 := BitVec.ofNat 64 w
  ⟨BitVec.ofNat 4 (fld x 63 60), BitVec.ofNat 12 (fld x 59 48), BitVec.ofNat 12 (fld x 47 36), BitVec.ofNat 9 (fld x 35 27),
    BitVec.ofNat 9 (fld x 26 18), BitVec.ofNat 4 (fld x 17 14), BitVec.ofNat 2 (fld x 13 12), BitVec.ofNat 12 (fld x 11 0)⟩

/-- A list of bytes as exactly `n`, zeros behind. -/
def padTo (n : Nat) (l : List Byte) : List Byte := (l ++ List.replicate (n - l.length) 0).take n
/-- A flit's 144 bytes: header, payload, CRC of bytes 0-135 (R32, R33). -/
def flitBytes (h : Flit) (pay : List Byte) : List Byte :=
  let b := bytesOfNat 8 (headWord h) ++ padTo 128 pay
  b ++ bytesOfNat 8 (crc64 b)
/-- The header of a flit's bytes. -/
def flitHead (b : List Byte) : Flit := headOf (natOfBytes (b.take 8))
/-- The payload of a flit's bytes. -/
def flitPay (b : List Byte) : List Byte := (b.drop 8).take 128
/-- Is a flit intact: its CRC holds and its TYPE is not reserved (R33)? -/
def flitOk (b : List Byte) : Bool :=
  b.length == 144 && natOfBytes (b.drop 136) == crc64 (b.take 136) && decide ((flitHead b).typ.toNat ≤ 6)
/-- Word `i` of a payload. -/
def payWord (p : List Byte) (i : Nat) : Nat := natOfBytes ((p.drop (8 * i)).take 8)
/-- The subtype of a LINK flit (R37). -/
def linkSub (p : List Byte) : Nat := natOfBytes (p.take 1)

/-! Stripes (R35, R48). -/

/-- The live mask of fibre `f`. -/
def fibre (m : Word64) (f : Nat) : BitVec 16 := (m >>> (16 * f)).setWidth 16
/-- The fibres with at least `n` live wavelengths. -/
def fibresWith (m : Word64) (n : Nat) : BitVec 4 :=
  BitVec.ofNat 4 ((List.range 4).foldl (fun a f => if n ≤ popCount (fibre m f) 16 then a + 2 ^ f else a) 0)
/-- The stripe of R48: F and n with |F|·n greatest, ties to the larger F; n 0 when no fibre is usable. -/
def stripeOf (m : Word64) : BitVec 4 × Nat :=
  [16, 12, 8].foldl (fun b n =>
    let f := fibresWith m n
    let c := popCount f 4
    let k := popCount b.1 4
    if k * b.2 < c * n || (k * b.2 == c * n && decide (k < c)) then (f, n) else b) (0, 0)
/-- |F|·n of the stripe of some masks. -/
def stripeUnits (m : Word64) : Nat := let (f, n) := stripeOf m; popCount f 4 * n
/-- The wavelengths 4k to 4k + 3 of laser `k` on every fibre (R30). -/
def laserMask (k : Nat) : Word64 := BitVec.ofNat 64 (((15 : Nat) <<< (4 * k)) * 0x0001000100010001)
/-- The masks without laser `k` (R30). -/
def withoutLaser (m : Word64) (k : Nat) : Word64 := m &&& ~~~(laserMask k)
/-- The masks without fibre `f`. -/
def withoutFibre (m : Word64) (f : Nat) : Word64 := m &&& ~~~(BitVec.ofNat 64 (0xFFFF <<< (16 * f)))

/-- The wavelengths that a fibre of the stripe uses: its `n` lowest live ones (R48). -/
def active (m : BitVec 16) (n : Nat) : List Nat := ((List.range 16).filter fun w => bit m w).take n
/-- A flit over the active wavelengths of a fibre: the i-th carries bits i·L to i·L + L - 1, L = 1,152 / n (R35). -/
def striped (ws : List Nat) (b : List Byte) : List (Nat × Nat) :=
  let l := 1152 / ws.length
  ws.zipIdx.map fun w => (w.1, (natOfBytes b >>> (w.2 * l)) % 2 ^ l)

/-- What a change of a direction's live masks tells of its cause (R54): a laser, a fibre, or single wavelengths. -/
def darkCause (old new : Word64) : Nat :=
  if (List.range 4).any fun k => (old &&& laserMask k) != 0 && (new &&& laserMask k) == 0 then 1
  else if (List.range 4).any fun f => fibre old f != 0 && fibre new f == 0 then 2
  else 3

/-- G_p (R50): the least rate that one further fault leaves, times 31/32, in whole flits per µs. A fibre with n wavelengths moves
64,000·n / 1,152 flits per µs (R35). -/
def boundRate (m : Word64) : Nat :=
  let after := ((List.range 4).map (withoutLaser m) ++ (List.range 4).map (withoutFibre m)).map stripeUnits
  31 * 64000 * (after.foldl min 64) / (32 * 1152)
/-- L_p for one hop (R50); 0 when G_p is 0. -/
def boundLat (g : Nat) : Nat := if g = 0 then 0 else 600 + 2000 + cdiv 4096000 g
/-- PORTBND: [63:48] G_p, [47:16] L_p (R37, R50). -/
def boundWord (g l : Nat) : Nat := g % 65536 * 2 ^ 48 + l % 2 ^ 32 * 2 ^ 16

/-! What a port sends (R36, R37, R48). -/

/-- The flits' SEQ and ACK are written at every hop (R34). -/
def OFlit.head (f : OFlit) (seq ack : BitVec 12) : Flit := ⟨BitVec.ofNat 4 f.typ, seq, ack, f.dst, f.src, f.path, f.hop, f.tag⟩

/-- The fibres of the stripe in force, ascending. -/
def OPort.fibres (x : OPort) : List Nat := (List.range 4).filter fun f => bit x.fset f

/-- A flit put on a fibre: it carries the cumulative acknowledgement (R36). The wavelengths of the stripe that the transmitter has switched
off carry nothing (R48, R30). A port without a stripe sends nothing. -/
def OPort.emit (x : OPort) (now fib : Nat) (b : List Byte) : OPort :=
  if x.n = 0 then x
  else
    let w : Light := ⟨fib, (striped (active (fibre x.txLive fib) x.n) b).filter fun e => bit (fibre x.lit fib) e.1⟩
    { x with wire := (x.wire ++ [w]).drop (x.wire.length + 1 - 4096), ackDue := false, ackAt := now }

/-- A sequenced flit sent: the fibres of F in turn by SEQ (R48). -/
def OPort.emitSeq (x : OPort) (now : Nat) (e : BitVec 12 × OFlit) : OPort :=
  x.emit now (x.fibres.getD (e.1.toNat % max x.fibres.length 1) 0) (flitBytes (e.2.head e.1 (x.want - 1)) e.2.pay)

/-- A LINK flit sent on the lowest fibre of F (R37): subtype in payload byte 0, `rest` behind it. Its other header fields are zero
(notes/assumptions 86). -/
def OPort.emitLink (x : OPort) (now sub : Nat) (rest : List Byte) : OPort :=
  x.emit now (x.fibres.headD 0) (flitBytes ⟨6, 0, x.want - 1, 0, 0, 0, 0, 0⟩ (BitVec.ofNat 8 sub :: rest))

/-- A LINK flit with a word in payload bytes 8-15. -/
def OPort.emitWord (x : OPort) (now sub : Nat) (v : Word64) : OPort :=
  x.emitLink now sub (List.replicate 7 0 ++ bytesOfNat 8 v.toNat)

/-- New flits sent while the port is UP and fewer than 4,095 are outstanding (R36, R47); `n` bounds their number. -/
def OPort.pump (x : OPort) (now : Nat) : Nat → OPort
  | 0 => x
  | n + 1 =>
    match x.queue with
    | f :: r =>
      if x.tx = .up && x.buf.length < 4095 then
        let y := { x with queue := r, buf := x.buf ++ [(x.seq, f)], seq := x.seq + 1, advAt := if x.buf.isEmpty then now else x.advAt }
        (y.emitSeq now (x.seq, f)).pump now n
      else x
    | [] => x

/-- Everything unacknowledged sent again, in SEQ order from the oldest (R36). -/
def OPort.resend (x : OPort) (now : Nat) : OPort := x.buf.foldl (fun y e => y.emitSeq now e) x

/-- A cumulative acknowledgement: every flit up to `ack` leaves the replay buffer; new flits follow (R36). -/
def OPort.acked (x : OPort) (now : Nat) (ack : BitVec 12) : OPort :=
  if x.buf.any fun e => e.1 == ack then
    let rest := (x.buf.dropWhile fun e => e.1 != ack).drop 1
    { x with buf := rest, losses := 0, advAt := now }.pump now x.queue.length
  else x

end Sys2Proof.Machine
end

