-- ==== Sys2Proof/Machine/Link.lean ====
section
/-! DEFINITION. The sending side of the optical engine: ports, the choice of a path, the flits of a request or a response, the
replay buffer (02_optical_fabric R36, R39, R41, R53). -/

namespace Sys2Proof
open Sys2Proof.Machine

/-- The descriptor's fields (R41): OP, ACKL, PA, LEN + 1, AOP. -/
def Request.op (r : Request) : Nat := fld r.w0 63 60
/-- ACKL. -/
def Request.ackl (r : Request) : Nat := fld r.w0 59 58
/-- PA. -/
def Request.pa (r : Request) : Nat := fld r.w0 51 0
/-- LEN + 1. -/
def Request.len (r : Request) : Nat := fld r.w1 63 52 + 1
/-- AOP. -/
def Request.aop (r : Request) : Nat := fld r.w1 51 44

/-- Do two requests name a common byte of their target? -/
def Request.overlaps (a b : Request) : Bool := decide (a.pa < b.pa + b.len) && decide (b.pa < a.pa + a.len)

end Sys2Proof

namespace Sys2Proof.Machine
open Sys2Proof

/-- An optical port. -/
def State.port (s : State) (p : Nat) : OPort := Tbl.get s.optic.ports p OPort.reset
/-- An optical port replaced. -/
def State.setPort (s : State) (p : Nat) (x : OPort) : State :=
  { s with optic := { s.optic with ports := Tbl.set s.optic.ports p x } }

/-- A list cut into pieces of `k`, at most `n` of them. -/
def chunks {α : Type} (k : Nat) : Nat → List α → List (List α)
  | 0, _ => []
  | n + 1, l => if l.isEmpty then [] else l.take k :: chunks k n (l.drop k)

/-- The flits of a request (R41): the REQ flit with up to 112 bytes of data at payload byte 16, then DATA flits. -/
def reqFlits (me d path id : Nat) (r : Request) : List OFlit :=
  let f (t : Nat) (p : List Byte) : OFlit :=
    ⟨t, BitVec.ofNat 9 d, BitVec.ofNat 9 me, BitVec.ofNat 4 path, 0, BitVec.ofNat 12 id, p, some id⟩
  f 1 (bytesOfNat 8 r.w0.toNat ++ bytesOfNat 8 r.w1.toNat ++ r.data.take 112) :: (chunks 128 40 (r.data.drop 112)).map (f 2)

/-- The flits of a response (R41): the RESP flit with the status and up to 120 bytes, then DATA flits. -/
def respFlits (me d path : Nat) (tag : BitVec 12) (st : Nat) (data : List Byte) : List OFlit :=
  let f (t : Nat) (p : List Byte) : OFlit := ⟨t, BitVec.ofNat 9 d, BitVec.ofNat 9 me, BitVec.ofNat 4 path, 0, tag, p, none⟩
  f 3 (bytesOfNat 8 st ++ data.take 120) :: (chunks 128 40 (data.drop 120)).map (f 2)

/-- Flits accepted on a port, and sent as far as it can. -/
def State.enqueue (s : State) (p : Nat) (l : List OFlit) : State :=
  let x := s.port p
  let y := { x with queue := x.queue ++ l }
  s.setPort p (y.pump s.time.ns y.queue.length)

/-- The route-table entry of a destination (R39). -/
def State.route (s : State) (d : Nat) : Option RouteEntry := s.optic.routes.find? fun e => e.dst == d

/-- The guaranteed rates over the ports that a path through `p` crosses: its own, and those learnt from BOUND flits (R51). -/
def State.crossed (s : State) (e : RouteEntry) (p : Nat) : List Nat :=
  (s.port p).g :: (e.cross.filter fun c => c.1 == p).map fun c => fld (Tbl.get s.optic.bounds c.2 0) 63 48

/-- The egress ports of a destination that accept new work: open, and every port on the way with G_p above 0 (R39, R49, R51). -/
def State.pathsTo (s : State) (d : Nat) : List Nat :=
  match s.route d with
  | some e => (List.range 16).filter fun p => bit e.ports p && (s.port p).open_ && (s.crossed e p).all fun g => decide (0 < g)
  | none => []

/-- Does a port carry traffic, or recover: all but DOWN, TRAIN and FAILED, which accept no work (R47)? -/
def PortSt.live (t : PortSt) : Bool := t == .up || t == .hold || t == .restripe || t == .replay
/-- Is the port trained: does it carry LINK flits (R47)? -/
def OPort.linked (x : OPort) : Bool := x.tx.live

/-- The egress ports of a destination that still carry what they accept (R45, R47). -/
def State.livePaths (s : State) (d : Nat) : List Nat :=
  match s.route d with
  | some e => (List.range 16).filter fun p => bit e.ports p && (s.port p).linked
  | none => []

/-- The choice of an egress port among the eligible ones, which the specification leaves open (notes/assumptions 2). -/
def State.choosePath (s : State) (d : Nat) : Nat × State :=
  let l := s.pathsTo d
  if l.length ≤ 1 then (l.headD 0, s)
  else let (v, s) := s.freeVal; (l.getD (v.toNat % l.length) 0, s)

/-- Does a request await an answer: all but a store without acknowledgement (R41)? -/
def FabReq.answered (q : FabReq) : Bool :=
  match q.use with
  | .mark | .engMark _ => true
  | _ => !(q.req.op == 1 && q.req.ackl == 0)

/-- The number of the next request to a package: its TAG is that of no request that still awaits an answer from there. -/
def State.nextId (s : State) (pkg : Nat) : Nat :=
  let used := (s.fab.out.filter fun q => q.pkg == pkg && q.answered).map fun q => q.id % 4096
  findFrom (fun i => !used.contains (i % 4096)) s.fab.next 4096

/-- Is this request of the strand of record `rec`, in slot `slot` if it has none? -/
def FabReq.strand (q : FabReq) (slot : Nat) (rec : BitVec 48) : Bool := q.recAddr == rec && (rec != 0 || q.slot == slot)

/-- Is this a release's marker? -/
def FabUse.marks : FabUse → Bool
  | .mark | .engMark _ => true
  | _ => false

/-- An earlier unacknowledged request of the same strand to the same package that overlaps the request (R242). -/
def State.overlapped (s : State) (pkg : Nat) (r : Request) (slot : Nat) (rec : BitVec 48) : Option FabReq :=
  s.fab.out.find? fun q => q.strand slot rec && q.pkg == pkg && !q.use.marks && q.req.overlaps r

/-- Is the request to package `d` accepted now: DBT_d.V is 1 (R51, R53), some path is usable (R39, R51), and the path that it must share
(R242) is one of them? -/
def State.acceptsReq (s : State) (d : Nat) (r : Request) (slot : Nat) (rec : BitVec 48) : Bool :=
  bit (Tbl.get s.fab.dbt d 0) 63 &&
    (match s.overlapped d r slot rec with
     | some q => (s.pathsTo d).contains q.path
     | none => !(s.pathsTo d).isEmpty)

/-- Is a request still to be delivered (R53)? An answer tells of the delivery; a store that asks for none is delivered once its port holds
none of its flits, or, over more hops than one, once its bound has passed too (notes/assumptions 118). -/
def State.undelivered (s : State) (q : FabReq) : Bool :=
  let x := s.port q.path
  q.answered || (x.buf.any fun e => e.2.own == some q.id) || (x.queue.any fun f => f.own == some q.id) ||
    (decide (1 < ((s.route q.pkg).map RouteEntry.hops).getD 1) && decide (s.time.ns ≤ q.due))

/-- W_d: the flits to a destination accepted earlier and not yet delivered (R53). -/
def State.backlog (s : State) (d : Nat) : Nat :=
  ((s.fab.out.filter fun q => q.pkg == d && s.undelivered q).map FabReq.flits).foldl (· + ·) 0

/-- The ns by which `n` flits to package `d` are delivered when accepted now (R53). -/
def State.deliverBy (s : State) (d n : Nat) : Nat :=
  let w := Tbl.get s.fab.dbt d 0
  let g := fld w 47 32
  s.time.ns + fld w 31 0 + (if g = 0 then 0 else cdiv (1000 * (s.backlog d + n)) g)

/-- A request accepted at this package (R53): numbered, its path chosen, its bound fixed, its flits on the way. One that overlaps an
earlier unacknowledged request of the same strand to the same destination takes that one's path (R242). -/
def State.acceptReq (s : State) (pkg : Nat) (r : Request) (use : FabUse) (slot : Nat) (rec : BitVec 48) (ctx : Word64) : State :=
  let (p, s) := match s.overlapped pkg r slot rec with
    | some q => (q.path, s)
    | none => s.choosePath pkg
  let id := s.nextId pkg
  let flits := reqFlits s.fab.me pkg p id r
  let q : FabReq := ⟨id, pkg, r, slot, rec, ctx, s.asidOf slot, p, use, flits.length, s.deliverBy pkg flits.length, false⟩
  { s with fab := { s.fab with next := id + 1, out := s.fab.out ++ [q] } }.enqueue p flits

/-- The markers of a release towards a package (R45): one MARK down every path of its entry that still carries traffic, with the number
of paths and the acknowledgement level in the payload (notes/assumptions 88). -/
def State.sendMark (s : State) (pkg level : Nat) (use : FabUse) (slot : Nat) (rec : BitVec 48) (ctx : Word64) : State :=
  let l := s.livePaths pkg
  if l.isEmpty then s
  else
    let id := s.nextId pkg
    let q : FabReq := ⟨id, pkg, ⟨BitVec.ofNat 64 (level * 2 ^ 58), 0, []⟩, slot, rec, ctx, s.asidOf slot, l.headD 0, use, l.length, s.deliverBy pkg l.length, false⟩
    let f (p : Nat) : OFlit := ⟨4, BitVec.ofNat 9 pkg, BitVec.ofNat 9 s.fab.me, BitVec.ofNat 4 p, 0, BitVec.ofNat 12 id,
      [BitVec.ofNat 8 l.length, BitVec.ofNat 8 level], some id⟩
    l.foldl (fun t p => t.enqueue p [f p]) { s with fab := { s.fab with next := id + 1, out := s.fab.out ++ [q] } }

end Sys2Proof.Machine
end

