-- ==== Sys2Proof/Machine/Ops.lean ====
section
/-! DEFINITION. The shared operations of every meaning: taking a trap and returning from one (19 R436-R441, 14 R328-R330), the
order of checks (R329), guard and hint (R302, R147), a translated access, releases and acquires (10 R231), the cluster window
(R198, R353). -/

namespace Sys2Proof.Machine
open Sys2Proof

/-- The traps of R328. -/
inductive Trap where
  | illegalOp | reserved | fmt | align | prot | compactHeld | countRange | msgOverflow | poison | brk | trap | hang | priv
  | stream | engine | compactTimeout | zeroWord
  deriving DecidableEq, Repr

/-- The code of a trap (R328). -/
def Trap.code : Trap → Nat
  | .illegalOp => 0x01 | .reserved => 0x02 | .fmt => 0x03 | .align => 0x04 | .prot => 0x05 | .compactHeld => 0x06
  | .countRange => 0x07 | .msgOverflow => 0x08 | .poison => 0x09 | .brk => 0x0A | .trap => 0x0B | .hang => 0x0C
  | .priv => 0x0D | .stream => 0x0E | .engine => 0x0F | .compactTimeout => 0x10 | .zeroWord => 0x11

/-- CAUSE as a trap leaves it: CODE, INFO and ASYNC new, AH and AM kept (R437, R440). -/
def causeOf (old : Word64) (t : Trap) (info : Nat) (async : Bool) : Word64 :=
  (old &&& 0x600) ||| BitVec.ofNat 64 (info % 2 ^ 48 * 2 ^ 16 + async.toNat * 2 ^ 8 + t.code)

/-- Taking a trap in slot `n` with return address `ret` (R440): with TVEC 0 the record becomes FAULTED; an asynchronous trap in
a handler only marks AH or AM and restarts the handler. -/
def State.enterTrap (s : State) (n : Nat) (t : Trap) (info : Nat) (async : Bool) (ret : Word64) : State :=
  let x := s.getSlot n
  if x.tvec = 0 then (s.putSlot n { x with cause := causeOf x.cause t info async, wait := .none, park := none }).faultSlot n
  else
    let nested := bit x.status 2 && async
    let cause := if nested then x.cause ||| (if t = .hang then 0x400 else 0x200) else causeOf x.cause t info async
    let psup := if nested then bit x.status 1 else s.sup n
    s.putSlot n { x with
      epc := if nested then x.epc else ret &&& 0xFFFFFFFFFFFF,
      cause := cause,
      status := BitVec.ofNat 64 (4 + psup.toNat * 2 + 1),
      pc := x.tvec,
      wait := .none, park := none, served := [], reply := none, making := none, stall := s.nextTurn n 0 true, skip := s.compactAt n }

/-- A synchronous trap of the current slot's instruction: EPC is its address, past it for TRAP (R439). -/
def State.takeTrap (s : State) (t : Trap) (info : Nat) : State :=
  s.enterTrap s.cur t info false (if t = .trap then s.slot.pc + 12 else s.slot.pc)

/-- The return of ERET (R441): SUP := PSUP, TH := 0; PSUP, CAUSE and EPC stay. The transfer to EPC is a taken one. -/
def Slot.trapReturn (x : Slot) : Slot :=
  let psup := bit x.status 1
  { x with status := BitVec.ofNat 64 (psup.toNat * 2 + psup.toNat) }

/-- The compact member at member index `i` of a compact: its tile on this package. -/
def Compact.tileOfMember (c : Compact) (i : Nat) : Option Nat := (c.mems[i]?).map MemberDesc.tile

/-- The east or west neighbour of a tile (R143). -/
def neighbour (east : Bool) (t : Nat) : Option Nat :=
  let col := t % 48 % 12
  if east then (if col < 11 then some (t + 1) else none) else (if 0 < col then some (t - 1) else none)

/-- Does core `k` of global tile `t` run a member strand of compact `cid` (R166)? -/
def State.memberCore (s : State) (cid : BitVec 16) (t k : Nat) : Bool :=
  match (s.tile t).held with
  | some m => m.cid == cid && (List.range 4).any fun j => (s.getSlot (t * 16 + k * 4 + j)).occ
  | none => false

/-- The neighbour tile that takes what core `k` of tile `t` sends, none when it is absent (R166). -/
def State.linkPeer (s : State) (t k : Nat) (east : Bool) : Option Nat :=
  match neighbour east t, (s.tile t).held with
  | some u, some m => if s.memberCore m.cid u k then some u else none
  | _, _ => none

/-- A word pushed towards a neighbour by the core of slot `n`: a full FIFO or an absent neighbour discards it and sets the OVR
bit (R163, R166). -/
def State.pushLink (s : State) (n : Nat) (east : Bool) (v : Word64) : State :=
  let c := coreOf n
  let k := c % 4
  let lost := let x := s.core c; s.setCore c { x with lnk := setBit x.lnk (if east then 3 else 2) true }
  match s.linkPeer (tileOf n) k east with
  | none => lost
  | some u =>
    let y := s.core (u * 4 + k)
    if east then (if y.lw.length < 4 then s.setCore (u * 4 + k) { y with lw := y.lw ++ [v] } else lost)
    else (if y.le.length < 4 then s.setCore (u * 4 + k) { y with le := y.le ++ [v] } else lost)

/-- A link register read by the current slot: its oldest word; an empty one gives 0 and sets its UND bit (R164, R166). -/
def State.popLink (s : State) (east : Bool) : Word64 × State :=
  let c := coreOf s.cur
  let x := s.core c
  match (if east then x.le else x.lw) with
  | v :: r => (v, s.setCore c (if east then { x with le := r } else { x with lw := r }))
  | [] => (0, s.setCore c { x with lnk := setBit x.lnk (if east then 1 else 0) true })

/-- A directory entry of a cluster without the copies of its tile `t` (0-47); none when nothing is left of it (R207, R212). -/
def dirDrop (t : Nat) (d : DirEnt) : Option DirEnt :=
  let d := { d with sharers := d.sharers &&& ~~~(tileBit t), masks := d.masks.filter fun m => m.1 != t }
  if (d.st = .m || d.st = .e) && d.owner = t then none
  else if d.st = .o && d.owner = t then (if d.sharers = 0 then none else some { d with st := .s })
  else if d.st = .s && d.sharers = 0 then none
  else if d.st = .p && d.masks.isEmpty then none
  else some d

/-- The directories without the copies of one tile (R199). -/
def State.dropTile (s : State) (t : Nat) : State :=
  let f (e : Nat × DirEnt) : Option (Nat × DirEnt) :=
    if e.1 / 2 ^ 46 = t / 48 then (dirDrop (t % 48) e.2).map fun d => (e.1, d) else some e
  s.withCoh { s.coh with dir := s.coh.dir.filterMap f, tcache := Tbl.erase s.coh.tcache t, l1d := s.coh.l1d.filter fun e => e.1 / 4 != t }

/-- A write into SDCTL, SDTAGE, SDQUANT or SDPOOL under its own layout; values out of a field's range are ignored (R122). -/
def State.writeSd (s : State) (n k : Nat) (v : Word64) : State :=
  let d := dieOf n
  let x := s.die d
  let c := clusterOf n
  match k with
  | 0x30 => s.setDie d { x with sdctl := (v.setWidth 32) &&& 0xFF }
  | 0x31 => if 1000 ≤ fld v 31 0 && fld v 31 0 ≤ 10000000 then
      s.setDie d { x with sdtage := v.setWidth 32, ages := x.ages ++ [(s.time.ns, x.sdtage.toNat)] } else s
  | 0x32 => if 10000 ≤ fld v 31 0 && fld v 31 0 ≤ 100000000 then s.setDie d { x with sdquant := v.setWidth 32 } else s
  | _ => s.setCluster c { s.cluster c with sdpool := v &&& 0x800FFFFFFFC00000 }

/-- A unit load of a tile that changes its scratch partition (R131, R197): its caches are left, its L1 instruction cache too. -/
def State.setScr (s : State) (t : Nat) (v : BitVec 5) : State :=
  let x := s.tile t
  if x.scr = v then s
  else
    let s1 := (s.setTile t { x with scr := v }).dropTile t
    { s1 with icache := s1.icache.filter fun e => e.1 / 2 ^ 46 != t }

/-- A write of a system register that several slots share (R305): LNKST clears by ones, CSTAT, CCLK, L2ST and SREC ignore it,
HANGREC makes the strand the designated one (R136). -/
def State.writeShared (s : State) (n k : Nat) (v : Word64) : State :=
  match k with
  | 0x08 => s.setDesig (s.asidOf n) (some (s.getSlot n).recAddr.toNat)
  | 0x10 => let c := s.core (coreOf n); s.setCore (coreOf n) { c with lnk := c.lnk &&& ~~~(v.setWidth 4) }
  | 0x20 =>
    let t := s.setTile (tileOf n) { s.tile (tileOf n) with vweight := v.setWidth 16 }
    (List.range 4).foldl (fun t k => let c := t.core (tileOf n * 4 + k); t.setCore (tileOf n * 4 + k) { c with acc := 0 }) t
  | 0x21 =>
    let t := s.tile (tileOf n)
    if fld v 4 0 ≤ 16 && t.scr != v.setWidth 5 then s.setTile (tileOf n) { t with load := some (v.setWidth 5), loadAt := s.time.ns } else s
  | 0x30 | 0x31 | 0x32 | 0x33 => s.writeSd n k v
  | _ => s

/-- MST's 4,096 bytes written (R408); whole granules, so poison flags there clear (R179). -/
def State.tsStore (s : State) (t off : Nat) (v : BitVec 32768) : State :=
  let s1 := s.tsWrite t off 4096 v.toNat
  { s1 with tsPoison := s1.tsPoison.filter fun g => !(decide (t * 2 ^ 14 + off / 64 ≤ g) && decide (g < t * 2 ^ 14 + off / 64 + 64)) }

/-- A semaphore's count. -/
def State.semVal (s : State) (t i : Nat) : Nat := (((s.tile t).sems[i]?).getD 0).toNat
/-- A semaphore's count replaced. -/
def State.semPut (s : State) (t i v : Nat) : State :=
  let x := s.tile t
  s.setTile t { x with sems := x.sems.setIfInBounds i (BitVec.ofNat 16 v) }
/-- An increment by `k`, which stops at 65,535; IDLE of the tile's slots ends (R161, R456). -/
def State.semAdd (s : State) (t i k : Nat) : State :=
  let s1 := s.semPut t i (min (s.semVal t i + k) 65535)
  { s1 with slots := s1.slots.map fun e =>
      match e.2.wait with
      | .idle _ => if tileOf e.1 = t then (e.1, { e.2 with wait := .none }) else e
      | _ => e }

/-- A write of slot `n` that lands: into its own registers, or where it goes from there. -/
def State.landWrite (s : State) (n : Nat) (w : RegWrite) : State :=
  match w with
  | .link e v => s.pushLink n e v
  | .sys k v =>
    -- in partitioned mode no timestamp is kept (R218)
    if k = 5 && s.coh.part then s
    else if k < 7 then s.modSlot n fun x => x.writeSys k v else s.writeShared n k v
  | .ts o v => s.tsStore (tileOf n) o v
  | .sem i k => s.semAdd (tileOf n) i k
  | w => s.modSlot n fun x => x.land w

/-- `wr` of R318 by latency: at once in free mode, where results are those of program order (R145); in compact mode the write
is in flight until phase cycle c + L (R148). -/
def State.put (s : State) (lat : Nat) (w : RegWrite) : State :=
  if s.compact then s.modSlot s.cur fun x => { x with late := x.late ++ [⟨(s.core (coreOf s.cur)).cycle + lat, w, (s.core (coreOf s.cur)).cycle⟩] }
  else s.landWrite s.cur w

/-- Several writes of one latency. -/
def State.puts (s : State) (lat : Nat) (ws : List RegWrite) : State := ws.foldl (fun t w => t.put lat w) s

/-- How an instruction that executes ends. -/
inductive Res where
  /-- it completes: the pc advances by one word -/
  | ok (s : State)
  /-- a taken transfer: the slot's next issue turn stays empty (R344) -/
  | jump (s : State) (pc : Word64)
  /-- ENDL's branch back, which costs no turn (R344) -/
  | back (s : State) (pc : Word64)
  /-- a trap, with its INFO -/
  | trap (t : Trap) (info : Nat)
  /-- it waits: the pc stays at it -/
  | hold (s : State)
  /-- the strand has left the slot, or the meaning has set the pc itself -/
  | done (s : State)

/-- An outcome with `f` done to its state; a trap's state is the one before the instruction. -/
def Res.after (f : State → State) : Res → Res
  | .ok s => .ok (f s)
  | .jump s pc => .jump (f s) pc
  | .back s pc => .back (f s) pc
  | .trap t info => .trap t info
  | .hold s => .hold (f s)
  | .done s => .done (f s)

/-- The hint's effects when an instruction has issued (R147, R182): stall count, yield, end of phase. -/
def Slot.hint (x : Slot) (w : Ins) (compact : Bool) (stall : Nat) : Slot :=
  { x with stall := stall, yielded := if w.yd && !compact then 15 else 0, ended := x.ended || (w.eop && compact) }

/-- A synchronous trap of an instruction that has issued: its hint acts all the same (R303, R331); with TVEC 0 the strand is gone. -/
def State.trapAt (s : State) (w : Ins) (t : Trap) (info : Nat) : State :=
  if s.slot.tvec = 0 then s.takeTrap t info
  else (s.takeTrap t info).modSlot s.cur fun x => x.hint w s.compact (s.nextTurn s.cur w.st.toNat true)

/-- The current slot moved on to `pc`, its waits over, its hint in force. -/
def State.moveTo (s : State) (w : Ins) (pc : Word64) (taken : Bool) : State :=
  s.modSlot s.cur fun x => { x.hint w s.compact (s.nextTurn s.cur w.st.toNat taken) with
    pc := pc, wait := .none, park := none, served := [], reply := none, making := none, skip := taken && s.compact }

/-- The current slot moved on to the next word. -/
def State.advance (s : State) (w : Ins) : State := s.moveTo w (s.slot.pc + 12) false

/-- The outcome of an instruction of the current slot. -/
def finish (w : Ins) (s0 : State) : Res → Host.Outcome State Fault Refusal
  | .ok s => .next (s.advance w)
  | .jump s pc => .next (s.moveTo w pc true)
  | .back s pc => .next (s.moveTo w pc false)
  | .trap t info => .next (s0.trapAt w t info)
  | .hold s => .next s
  | .done s => .next s

/-- The guard: p[GP] XOR GN (R302). -/
def Slot.guard (x : Slot) (w : Ins) : Bool := x.getP w.gp.toNat != w.gn

/-- Every instruction's checks in the order of R329, up to its own: form, privilege, guard, compact mode; then its body.
`sup` demands supervisor state, `free` traps PROT in compact mode. -/
def run (i : Instr) (w : Ins) (sup free : Bool) (body : State → Res) (s : State) : Host.Outcome State Fault Refusal :=
  if !s.power then .fault .noPower
  else if !(Forms.ok i && Forms.guardOk w) then .next (s.takeTrap .reserved 0)
  else if sup && !s.sup s.cur then .next (s.trapAt w .priv 0)
  else if !s.slot.guard w then .next (s.advance w)
  else if free && s.compact then .next (s.trapAt w .prot 0)
  else finish w s (body s)

/-- `run` of an instruction some of whose operand values are reserved: they trap RESERVED with the fields (R329 order 3). -/
def runValued (i : Instr) (w : Ins) (sup free bad : Bool) (body : State → Res) (s : State) : Host.Outcome State Fault Refusal :=
  if s.power && Forms.ok i && Forms.guardOk w && bad then .next (s.takeTrap .reserved 0) else run i w sup free body s

/-- What a move of another agent leaves: nothing moves without standby power. A move out of range is none (Step.lean). -/
def event (s : State) (f : State → State) : Host.Outcome State Fault Refusal :=
  if !s.power then .fault .noPower else .next (f s)

/-- The address field of INFO (R438). -/
def infoAddr (a : Word64) : Nat := a.toNat % 2 ^ 48

/-- Die-buddy pairs (R14). -/
def buddyOf (d : Nat) : Nat := (d + 2) % 4

/-- Does a store to a MIRROR line of cluster `c` wait for a takeover: the buddy die is suspected and not yet lost (R219, R223)? -/
def State.mirrorWaits (s : State) (c : Nat) (mir : Bool) : Bool :=
  mir && s.ring.suspect.contains (buddyOf (c / 4)) && !s.ring.gone.contains (buddyOf (c / 4))

/-- A strand's access that no entry permits: it parks, and its fault is posted (R255). A TSC's traps PROT (R251). -/
def State.parkOr (s : State) (kind : Nat) (a : Acc) (va : Nat) : Res :=
  if isTsc s.cur then .trap .prot (va % 2 ^ 48) else .hold (s.parkAt s.cur kind a va)

/-- Alignment, canonical form and translation of a strand's access (R329 orders 9 and 10, R352, R253-R256). A TSC's access that would
be posted, one to a withdrawn window among them (R65), traps PROT (notes/assumptions 105). -/
def State.access (s : State) (ea : Word64) (k : Nat) (a : Acc) (here : Nat → Bool → Bool → Res) (far : Nat → Nat → Res) : Res :=
  if ea.toNat % k ≠ 0 then .trap .align (infoAddr ea)
  else if 2 ^ 48 ≤ ea.toNat then .trap .prot (infoAddr ea)
  else if s.slot.denied a ea.toNat then .trap .prot (infoAddr ea)
  else match s.xlate s.cur ea.toNat a with
    | .fault kind => s.parkOr kind a ea.toNat
    | .unbacked => .trap .prot (infoAddr ea)
    | .far pkg pa => (far pkg pa).after (s.passed s.cur ea.toNat a)
    | .here pa unc mir =>
      (if s.mirrorWaits (clusterOf s.cur) (mir && a != .load) then .hold s else here pa unc mir).after (s.passed s.cur ea.toNat a)

/-- The current slot waits, its pc kept. -/
def State.waitFor (s : State) (k : Wait) : State := s.modSlot s.cur fun x => { x with wait := k }

/-- What a boundary has given the slot's parked load of a line (R190). -/
def Slot.servedLine (x : Slot) (line : Nat) : Option Served := x.served.find? fun v => v.line == line

/-- A strand's load of `k` bytes at a physical address within one line: state C, poison, then the value (R329 order 11, R190,
R222). -/
def State.loadHere (s : State) (ea : Word64) (pa k : Nat) (unc : Bool) (use : State → Nat → Res) : Res :=
  let l := lineOf pa
  match s.slot.servedLine l with
  | some v => if v.bad then .trap .poison (infoAddr ea) else use s (sliceBytes v.data (pa % 64) k)
  | none =>
    if (Tbl.get? s.clines l).isSome then .hold (s.waitFor (.held [l]))
    else if s.meetsPoison (clusterOf s.cur) l then .trap .poison (infoAddr ea)
    else let (v, t) := s.load s.cur pa k unc; use t v

/-- A page-table line has been stored to: its holders get an invalidation and the storer waits for their answers (R262). -/
def State.ptStored (s : State) (line : Nat) : State :=
  match Tbl.get? s.xl.ptl line with
  | none => s
  | some p =>
    if p.holders.isEmpty then s
    else
      let q : PtLine := { p with waiting := p.holders, storers := p.storers ++ [s.cur] }
      { s with xl := { s.xl with ptl := Tbl.set s.xl.ptl line q } }

/-- Does a store to this line wait for an invalidation round (R262)? -/
def State.ptHeld (s : State) (line : Nat) : Bool :=
  match Tbl.get? s.xl.ptl line with
  | some p => !p.holders.isEmpty
  | none => false

/-- Is an invalidation round of a page-table line in progress (R262)? -/
def State.ptBusy (s : State) (line : Nat) : Bool :=
  ((Tbl.get? s.xl.ptl line).map fun p => !(p.waiting.isEmpty && p.removed.isEmpty)).getD false

/-- Are the mirror slice's ways for mirror lines full, 4 of 16, for a line of cluster `c` that has no entry yet (R219)? A slice stands as
one set (notes/assumptions 107): 8,192 lines. -/
def State.mirrorFull (s : State) (c line : Nat) : Bool :=
  !(s.coh.mirror.any fun m => m.line == line && m.src == c) &&
    decide (8192 ≤ (s.coh.mirror.filter fun m => m.line % 12 == line % 12 && m.src / 4 == c / 4).length)

/-- What a mirror update of a cluster's line carries: its dirty bytes and their mask; all of an owned line in unified mode (R219). -/
def State.mirrorEntry (s : State) (c line : Nat) : Option MirEnt :=
  if s.partLine line then
    match s.copy c line with
    | some x => if x.dirty = 0 then none else some ⟨line, c, x.dirty, x.data⟩
    | none => none
  else if (s.home line).owner = some c then some ⟨line, c, BitVec.allOnes 64, s.memLine line⟩
  else none

/-- A mirror update accepted (R219). -/
def State.putMirror (s : State) (c line : Nat) : State :=
  match s.mirrorEntry c line with
  | some m => let t := s.unmirrorOf c line; t.withCoh { t.coh with mirror := t.coh.mirror ++ [m] }
  | none => s

/-- A line stored to by cluster `c` and mirrored at its buddy die (R219); with that die lost (R223), or the ways for mirror lines full, the
line is written back to its home instead. -/
def State.mirrored (s : State) (c line : Nat) (mir : Bool) : State :=
  if !mir then s
  else if s.ring.gone.contains (buddyOf (c / 4)) || s.mirrorFull c line then
    (if s.partLine line then s.writeBack c line else ((s.giveUp line none).unmirror line).setHome line { s.home line with owner := none })
  else s.putMirror c line

/-- A store of another agent to a page-table line starts its invalidation round (R262). -/
def State.ptTouched (s : State) (line : Nat) : State :=
  match Tbl.get? s.xl.ptl line with
  | some p => if p.holders.isEmpty then s else { s with xl := { s.xl with ptl := Tbl.set s.xl.ptl line { p with waiting := p.holders } } }
  | none => s

/-- The rest of a store's completion: a store to a PT line lets the strand go on only after its round (R262). -/
def State.afterStore (s : State) (line : Nat) (w : Ins) : Res :=
  if s.ptHeld line then
    .done (((s.ptStored line).advance w).waitFor .round)
  else .ok s

/-- A strand's scalar store at a physical address (R329 order 11, R190, R222, R219, R262). -/
def State.storeHere (s : State) (w : Ins) (ea : Word64) (pa k v : Nat) (unc mir : Bool) : Res :=
  let l := lineOf pa
  if (Tbl.get? s.clines l).isSome then .trap .compactHeld (infoAddr ea)
  else if s.meetsPoison (clusterOf s.cur) l then .trap .poison (infoAddr ea)
  else ((s.store s.cur pa k v unc).mirrored (clusterOf s.cur) l mir).afterStore l w

/-- The tile and offset of a window access (R197, R198, R353): none when it traps PROT. -/
def State.window (s : State) (o : Nat) : Option (Nat × Nat) :=
  if 0x3000000 ≤ o then none
  else
    let t := clusterOf s.cur * 48 + o / 2 ^ 20
    let off := o % 2 ^ 20
    if s.compact then (if t = tileOf s.cur then some (t, off) else none)
    else if (s.tile t).held.isNone && off < (s.tile t).scr.toNat * 65536 then some (t, off) else none

/-! Messages within the package and the pennant rounds (R138, R139). -/

/-- The rounds, `.dev` and `.pod`, whose pennants the units of a die have sent: what they send now comes behind those pennants (R138). -/
def State.roundStamp (s : State) (d : Nat) : Word64 × Word64 :=
  let r := s.rounds
  let u := (r.units[d]?).getD (0, 0)
  (if r.devRun && u.1 == r.dev && r.told.contains (false, d) then u.1 + 1 else u.1,
   if r.podRun && u.2 == r.pod && r.told.contains (true, d) then u.2 + 1 else u.2)

/-- Do the units of a die accept what was sent under a stamp: not while a pennant stands before it on the input (R138, R139)? -/
def State.reaches (s : State) (rnd : Word64 × Word64) (d : Nat) : Bool :=
  let u := (s.rounds.units[d]?).getD (0, 0)
  decide (rnd.1.toNat ≤ u.1.toNat) && decide (rnd.2.toNat ≤ u.2.toNat)

/-! Requests of this package to another (02 R41, R53, 18 R432, R434). -/

/-- The request descriptor of R41 and its data. -/
def mkRequest (op ackl pa len aop : Nat) (data : List Byte) : Request :=
  ⟨BitVec.ofNat 64 (op * 2 ^ 60 + ackl * 2 ^ 58 + pa % 2 ^ 52), BitVec.ofNat 64 ((len - 1) * 2 ^ 52 + aop * 2 ^ 44), data⟩

/-- Is new work to package `d` accepted: DBT_d.V (R51, R53)? -/
def State.accepts (s : State) (d : Nat) : Bool := bit (Tbl.get s.fab.dbt d 0) 63
/-- Is a request of the current slot to package `d` accepted: DBT_d, and the path that it must share (R51, R53, R242)? -/
def State.acceptsMine (s : State) (d : Nat) (r : Request) : Bool := s.acceptsReq d r s.cur s.slot.recAddr
/-- Is package `d` a member of the connected group? -/
def State.member (s : State) (d : Nat) : Bool := s.fab.group.contains d

/-- A request of the current slot accepted (R53). -/
def State.sendReq (s : State) (pkg : Nat) (r : Request) (use : FabUse) : State :=
  s.acceptReq pkg r use s.cur s.slot.recAddr s.slot.ctx

/-- A scalar access to a REM page (R434): the request is sent once and the instruction waits for its RESP; a refusal of the
fabric or a status other than OK ends it by `bad`, with the status; OK by `good`, with the data. -/
def State.farScalar (s : State) (pkg : Nat) (r : Request) (good : State → Word64 → Res) (bad : Nat → Res) : Res :=
  match s.slot.reply with
  | some (st, v) => if st.toNat % 128 = 0 then good s v else bad (st.toNat % 128)
  | none =>
    if s.fab.out.any fun q => q.slot == s.cur && q.use == .scalar && q.recAddr == s.slot.recAddr then .hold (s.waitFor .home)
    else if s.acceptsMine pkg r then .hold ((s.sendReq pkg r .scalar).waitFor .home)
    else bad 0x100

/-- Is this the strand of record `rec`, in slot `n` if it has none (a TSC's), that the current slot runs? -/
def State.isMine (s : State) (n : Nat) (rec : BitVec 48) : Bool := rec == s.slot.recAddr && (rec != 0 || n == s.cur)
/-- The current strand's stores to other packages not yet acknowledged (R433). -/
def State.ownStores (s : State) : List FabReq :=
  s.fab.out.filter fun q => s.isMine q.slot q.recAddr && (match q.use with | .rst _ _ => true | _ => false)
/-- The packages whose stores the current strand still waits for at a level, 1 `.acc` or 2 `.sys` (R44, R231, R433): those of
unacknowledged stores, at `.sys` those acknowledged at `.acc` alone. To a package that no path reaches any more only a store's own
acknowledgement is awaited. -/
def State.awaited (s : State) (level : Nat) : List Nat :=
  let live (p : Nat) : Bool := !(s.livePaths p).isEmpty
  let acc := if level = 2 then (s.fab.accs.filter fun e => s.isMine e.2.1 e.1 && live e.2.2).map fun e => e.2.2 else []
  ((s.ownStores.filter fun q => q.answered || live q.pkg).map FabReq.pkg ++ acc).eraseDups
/-- Does a release at this scope still wait, for fabric stores not yet visible at system scope (R231, R44)? -/
def State.relWaits (s : State) (sc : Nat) : Bool := sc == 7 && !(s.awaited 2).isEmpty

/-- `perform_release(S)` of the current slot; a compact member's does nothing (R351). -/
def State.release (s : State) (sc : Nat) (within : Nat → Bool := fun _ => true) : State :=
  if s.compact then s else s.releaseAt (clusterOf s.cur) sc within

/-- `perform_acquire(S)` of the current slot. -/
def State.acquire (s : State) (sc : Nat) (within : Nat → Bool := fun _ => true) : State :=
  if s.compact then s else s.acquireAt (clusterOf s.cur) sc within

/-- A status word: STATUS in [63:56], WHY in [55:48], INFO below (R362, R444). -/
def statusWord (st why info : Nat) : Word64 := BitVec.ofNat 64 (st * 2 ^ 56 + why * 2 ^ 48 + info % 2 ^ 48)

/-- A word that will land in register `r` of the current strand (R140, R444). -/
def State.sysLanding (s : State) (r : Nat) (v : Word64) : Landing := ⟨s.cur, r, s.slot.recAddr, s.slot.ctx, s.asidOf s.cur, v⟩

/-- An s-register marked as awaiting a result (R145); s0 never is. -/
def State.await (s : State) (r : Nat) : State :=
  if r = 0 then s else s.modSlot s.cur fun x => { x with busyS := setBit x.busyS r true }

/-- The slot that now runs the strand of record `rec`: slot `n`, or the one that it was resumed in (R140). -/
def State.slotOf (s : State) (n : Nat) (rec : BitVec 48) : Option Nat :=
  let x := s.getSlot n
  if x.occ && x.recAddr == rec then some n
  else if rec = 0 then none
  else (s.slots.find? fun e => e.2.occ && e.2.recAddr == rec && !isTsc e.1).map Prod.fst

/-- The context block of a strand that is not in a slot: its own, or the pool block that its record names (R117, R140). -/
def State.blockOf (s : State) (rec : BitVec 48) (ctx : Word64) : Nat :=
  if ctx ≠ 0 then ctx.toNat else if rec = 0 then 0 else (s.recWord rec.toNat 2).toNat

/-- Does a block await a word for s-register `r`: format 1, and its EPEND bit stands (R140)? -/
def State.blockAwaits (s : State) (c r : Nat) : Bool := c != 0 && bit (s.mem8 (c + 0x48)) r && fld (s.mem8 c) 47 40 == 1

/-- A word that lands in a register of the strand that asked for it, wherever it runs; otherwise in the strand's context block, only
while its EPEND bit stands (R140). -/
def State.landStatus (s : State) (n r : Nat) (rec : BitVec 48) (ctx v : Word64) : State :=
  match s.slotOf n rec with
  | some m =>
    let x := s.getSlot m
    if r = 0 || bit x.busyS r then s.putSlot m { x.setS r v with busyS := setBit x.busyS r false } else s
  | none =>
    let c := s.blockOf rec ctx
    if r ≠ 0 && s.blockAwaits c r then
      (s.memPut8 (c + 0x100 + 8 * r) v).memPut8 (c + 0x48) (setBit (s.mem8 (c + 0x48)) r false)
    else s

/-- A register that awaited a word which does not come: it keeps its value and is awaited no longer (R432). -/
def State.dropStatus (s : State) (n r : Nat) (rec : BitVec 48) (ctx : Word64) : State :=
  match s.slotOf n rec with
  | some m => s.modSlot m fun x => { x with busyS := setBit x.busyS r false }
  | none =>
    let c := s.blockOf rec ctx
    if s.blockAwaits c r then s.memPut8 (c + 0x48) (setBit (s.mem8 (c + 0x48)) r false) else s

end Sys2Proof.Machine
end

