-- ==== Sys2Proof/Machine/Operands.lean ====
section
/-! DEFINITION. The operand forms (13 R298-R301, 15 R332-R333, 16 R351): values, effective addresses, integer widths. -/

namespace Sys2Proof.Machine
open Sys2Proof

/-- The register number of an operand field. -/
abbrev num (o : Operand) : Nat := Forms.num o
/-- The modifier bits of an operand field. -/
abbrev mods (o : Operand) : BitVec 10 := Forms.mods o

/-- `opval` of a value operand, an immediate sign-extended (R298, R351). -/
def Slot.opS (x : Slot) : Operand → Word64
  | .reg _ _ n => x.getS n.toNat
  | .imm v => v.signExtend 64
  | .mem _ _ => 0
  | .wide v => v.signExtend 64

/-- `opval` of a value operand whose immediate is unsigned (R298). -/
def Slot.opU (x : Slot) : Operand → Word64
  | .reg _ _ n => x.getS n.toNat
  | .imm v => v.setWidth 64
  | .mem _ _ => 0
  | .wide v => v.setWidth 64

/-- The effective address of a memory operand: s[base] + sext(offset) modulo 2^64 (R298). -/
def Slot.ea (x : Slot) : Operand → Word64
  | .mem b o => x.getS b.toNat + o.signExtend 64
  | _ => 0

/-- The 44-bit value of a wide pair, sign-extended (R298). -/
def wideVal (a b : Operand) : Word64 :=
  match a, b with
  | .wide x, .wide y => (x ++ y).signExtend 64
  | _, _ => 0

/-- The immediate of a kind 01 field, sign-extended. -/
def immS : Operand → Int
  | .imm v => v.toInt
  | _ => 0

/-- The immediate of a kind 01 field, unsigned. -/
def immU : Operand → Nat
  | .imm v => v.toNat
  | _ => 0

/-- The operation width W of an integer instruction's modifiers (R332). -/
def intW (m : BitVec 10) : Nat := 64 >>> fld m 3 2
/-- U. -/
def intU (m : BitVec 10) : Bool := bit m 1
/-- SAT. -/
def intSat (m : BitVec 10) : Bool := bit m 0

/-- An operand's low `w` bits as the integer that U makes of them (R333). -/
def intVal (w : Nat) (u : Bool) (x : Word64) : Int := if u then (unsignedOf x w : Int) else signedOf x w

/-- The least integer of width `w` (R333). -/
def lowest (w : Nat) (u : Bool) : Int := if u then 0 else -(2 ^ (w - 1))
/-- The greatest integer of width `w`. -/
def highest (w : Nat) (u : Bool) : Int := if u then 2 ^ w - 1 else 2 ^ (w - 1) - 1

/-- The exact result brought to width `w`, clamped or wrapped, and extended by U (R333). -/
def intResult (w : Nat) (u sat : Bool) (x : Int) : Word64 :=
  let r := if sat then max (lowest w u) (min (highest w u) x) else x
  let b := BitVec.ofInt 64 r
  if u then zext b w else sext b w

/-- The operation width in bytes of TYPE (R325). -/
def typeBytes (m : BitVec 10) : Nat := 2 ^ (Forms.typeOf m - 1)

/-- A loaded value extended by U (R352). -/
def loadExt (m : BitVec 10) (v : Nat) : Word64 :=
  let w := 8 * typeBytes m
  if bit m 0 then zext (BitVec.ofNat 64 v) w else sext (BitVec.ofNat 64 v) w

end Sys2Proof.Machine
end

