-- ==== Sys2Proof/Machine/Flags.lean ====
section
/-! DEFINITION. The floating-point flags (12 R286, R287): how an operation's flags reach FFLAGS with its result, and the
conditions of comparisons (15 R336). -/

namespace Sys2Proof.Machine
open Sys2Proof

/-- A result and the flags of its operation, landing together (R287). -/
def State.putF (s : State) (lat : Nat) (w : RegWrite) (f : Flags) : State :=
  if f = 0 then s.put lat w else (s.put lat w).put lat (.flags f)

/-- The integer conditions of CMP, SEL and VCMP: 0 eq, 1 ne, 2 lt, 3 le, 4 gt, 5 ge (R336). -/
def intCond (c : Nat) (a b : Int) : Bool :=
  match c with
  | 0 => decide (a = b)
  | 1 => decide (a ≠ b)
  | 2 => decide (a < b)
  | 3 => decide (a ≤ b)
  | 4 => decide (b < a)
  | _ => decide (b ≤ a)

/-- WAITW's conditions on unsigned words: 0 eq, 1 ne, 2 geu, 3 ltu (R364). -/
def waitCond (c a b : Nat) : Bool :=
  match c with
  | 0 => a == b
  | 1 => a != b
  | 2 => decide (b ≤ a)
  | _ => decide (a < b)

end Sys2Proof.Machine
end

