-- ==== Sys2Proof/Machine/MemScalar.lean ====
section
/-! DEFINITION. Scalar loads and stores, the cluster window, PREF and FLUSHL, group 5 (16 R352-R354). -/

namespace Sys2Proof.Machine
open Sys2Proof

/-- Bytes, lowest first, of a stored value. -/
def bytesOf (v : Word64) (k : Nat) : List Byte := bytesOfNat k v.toNat

/-- A load's destination written (R352). -/
def ldWrite (w : Ins) (s : State) (v : Nat) : Res := .ok (s.put 6 (.s (num w.d) (loadExt (mods w.d) v)))

/-- How a scalar access to a REM page ends when its RESP is not OK: POISON, otherwise PROT (R434). -/
def farBad (ea : Word64) (st : Nat) : Res := .trap (if st = 3 then .poison else .prot) (infoAddr ea)

/-- LD (R352, R434). -/
def ldBody (w : Ins) (s : State) : Res :=
  let n := typeBytes (mods w.d)
  let ea := s.slot.ea w.a
  if s.compact then .trap .prot 0
  else s.access ea n .load
    (fun pa unc _ => s.loadHere ea pa n unc (ldWrite w))
    (fun pkg pa => s.farScalar pkg (mkRequest 0 0 pa n 0 []) (fun t v => ldWrite w t v.toNat) (farBad ea))

/-- ST (R352, R434). -/
def stBody (w : Ins) (s : State) : Res :=
  let n := typeBytes (mods w.a)
  let ea := s.slot.ea w.d
  let v := s.slot.getS (num w.a)
  if s.compact then .trap .prot 0
  else s.access ea n .store
    (fun pa unc mir => s.storeHere w ea pa n (unsignedOf v (8 * n)) unc mir)
    (fun pkg pa => s.farScalar pkg (mkRequest 1 1 pa n 0 (bytesOf v n)) (fun t _ => .ok t) (farBad ea))

/-- A window access of `n` bytes at offset `o` (R353): alignment, then the checks of R198 and R181, then the port. A poisoned
granule of a compact-held store traps POISON (R179), or does what the poison of the access is (`bad`, R357). -/
def State.winAccess (s : State) (o : Word64) (n : Nat) (use : Nat → Nat → Res) (bad : Res := .trap .poison (infoAddr o)) : Res :=
  if o.toNat % n ≠ 0 then .trap .align (infoAddr o)
  else match s.window o.toNat with
    | none => .trap .prot (infoAddr o)
    | some (t, off) =>
      if s.tsPoison.contains (t * 2 ^ 14 + off / 64) then bad else use t off

/-- LDW (R353). -/
def ldwBody (w : Ins) (s : State) : Res :=
  let n := typeBytes (mods w.d)
  s.winAccess (s.slot.ea w.a) n fun t off => ldWrite w s (s.tsRead t off n)

/-- STW (R353). -/
def stwBody (w : Ins) (s : State) : Res :=
  let n := typeBytes (mods w.a)
  s.winAccess (s.slot.ea w.d) n fun t off => .ok (s.tsWrite t off n (unsignedOf (s.slot.getS (num w.a)) (8 * n)))

/-- PREF (R354): a hint. The line is requested into the tile's cache, shared or owned; it is dropped wherever R354 says so. It
moves the directory entry and no data. -/
def prefBody (w : Ins) (s : State) : Res :=
  let ea := (s.slot.ea w.a).toNat
  let own := bit (mods w.d) 0
  if s.compact || decide (2 ^ 48 ≤ ea) then .ok s
  else match s.xlate s.cur ea (if own then .store else .load) with
    | .here pa false _ =>
      let l := lineOf pa
      if s.poisoned l || (Tbl.get? s.clines l).isSome || s.isPt l then .ok s
      else .ok (s.dirTouch (tileOf s.cur) l own (if own then BitVec.allOnes 64 else 0))
    | _ => .ok s

/-- FLUSHL (R354): the tile's copy of the line is written back to its cluster home and dropped; with `.i` the line leaves the
tile's L1 instruction cache. -/
def flushBody (w : Ins) (s : State) : Res :=
  let ea := s.slot.ea w.a
  if s.compact then .trap .prot 0
  else s.access ea 1 .load
    (fun pa _ _ =>
      let l := lineOf pa
      let t := tileOf s.cur
      if bit (mods w.d) 0 then .ok { s with icache := Tbl.erase s.icache (lineKey t l) }
      else match s.dirOf (t / 48) l with
        | some d => .ok (s.setDir (t / 48) l (dirDrop (t % 48) d))
        | none => .ok s)
    (fun _ _ => .ok s)

/-- LD (R352). -/
def execLd (w : Ins) (s : State) : Host.Outcome State Fault Refusal := run (.ld w) w false false (ldBody w) s
/-- ST (R352). -/
def execSt (w : Ins) (s : State) : Host.Outcome State Fault Refusal := run (.st w) w false false (stBody w) s
/-- LDW (R353). -/
def execLdw (w : Ins) (s : State) : Host.Outcome State Fault Refusal := run (.ldw w) w false false (ldwBody w) s
/-- STW (R353). -/
def execStw (w : Ins) (s : State) : Host.Outcome State Fault Refusal := run (.stw w) w false false (stwBody w) s
/-- PREF (R354). -/
def execPref (w : Ins) (s : State) : Host.Outcome State Fault Refusal := run (.pref w) w false false (prefBody w) s
/-- FLUSHL (R354). -/
def execFlushl (w : Ins) (s : State) : Host.Outcome State Fault Refusal := run (.flushl w) w false false (flushBody w) s

end Sys2Proof.Machine
end

