-- ==== Sys2Proof/Machine/Atomics.lean ====
section
/-! DEFINITION. Atomics and fences, group 6 (16 R355-R359, 10 R231-R238). -/

namespace Sys2Proof.Machine
open Sys2Proof

/-- The atomic operations by their AOP codes (R356, R430) on words of `w` bits; none: nothing is written. -/
def atomicOp (aop w old b c : Nat) : Option Nat :=
  let sg (x : Nat) : Int := (BitVec.ofNat w x).toInt
  match aop with
  | 1 => some ((old + b) % 2 ^ w)
  | 2 => some (rnd .f32 (vAdd (decFp .f32 false old) (decFp .f32 false b))).1
  | 3 => some (if sg b < sg old then b else old)
  | 4 => some (if sg old < sg b then b else old)
  | 5 => some (min old b)
  | 6 => some (max old b)
  | 7 =>
    let x := decFp .f32 false old
    let y := decFp .f32 false b
    some (if x.isNaN || y.isNaN then 0x7FC00000 else if vLt x.abs y.abs then b % 2 ^ 31 else old % 2 ^ 31)
  | 8 => some (old &&& b)
  | 9 => some (old ||| b)
  | 10 => some (old ^^^ b)
  | 11 => some b
  | 12 => if old = c then some b else none
  | _ => none

/-- A cluster's copies of lines outside HBM given up to the link's peer: dirty bytes written back, then no copy (R237). -/
def State.surrender (s : State) (line : Nat) : State :=
  (List.range 16).foldl (fun t c => (t.writeBack c line).dropCopy c line) s

/-- The bytes that an atomic changes, of `k` from byte `o` of a line. -/
def changedMask (o k old new : Nat) : BitVec 64 :=
  BitVec.ofNat 64 (((List.range k).foldl (fun a i => if old / 256 ^ i % 256 = new / 256 ^ i % 256 then a else a + 2 ^ i) 0) <<< o)

/-- A read-modify-write on the accessing cluster's own copy of a line, at its home slice or in the issuing tile's cache (R234, R237): it
makes dirty the bytes that it writes, those that it changes unless `whole` (R239, R246, notes/assumptions 116). -/
def State.rmwCopy (s : State) (n pa k : Nat) (slice whole : Bool) (f : Nat → Option Nat) : Nat × State :=
  let l := lineOf pa
  let c := clusterOf n
  let t := if slice then s.atSlice c l else s.dirTouch (tileOf n) l true (maskOf (pa % 64) k)
  let x := t.filled c l
  let old := sliceBytes x.data (pa % 64) k
  match f old with
  | some v =>
    let mask := if whole then maskOf (pa % 64) k else changedMask (pa % 64) k old v
    (old, (t.note l c).setCopy c l { x with data := patchBytes x.data (pa % 64) k v, dirty := x.dirty ||| mask })
  | none => (old, t.setCopy c l x)

/-- A read-modify-write of `k` bytes at the point that scope and mode give (R234, R237, R260): the old value and the state
after. `whole`: what it writes does not come from the old value. -/
def State.rmw (s : State) (n pa k sc : Nat) (unc : Bool) (f : Nat → Option Nat) (whole : Bool := false) : Nat × State :=
  let l := lineOf pa
  let slice := sc == 4
  let direct (t : State) (own : Option Nat) (stamp : Bool) : Nat × State :=
    let old := Mem.read t.mem pa k
    let t := if stamp then t.stamp n l own else t
    match f old with
    | some v => (old, { (t.note l) with mem := Mem.write t.mem pa v k })
    | none => (old, t)
  let copied : Nat × State :=
    if !unc then s.rmwCopy n pa k slice whole f
    else
      let (old, t) := s.load n pa k unc
      match f old with
      | some v => (old, t.store n pa k v unc)
      | none => (old, t)
  if s.isPt l then direct s none (!s.coh.part)
  else if isHbm pa then
    if s.coh.part then (if wideScope sc then direct s none false else copied)
    else if wideScope sc || unc then direct s none true
    else if slice then direct (s.atSlice (clusterOf n) l) (some (clusterOf n)) true
    else direct (s.dirTouch (tileOf n) l true (maskOf (pa % 64) k)) (some (clusterOf n)) true
  else if pa < hostBase then
    (if wideScope sc then direct s none false else if unc then copied else s.rmwCopy n pa k true whole f)
  else direct (s.surrender l) none false

/-- MSA_ATOMIC (R221, R222, R238): the `i`-th queued atomic executes, unless an earlier one waits for the same line. With `err`
an uncorrectable error strikes it between its read and its write: the line is poisoned and POISON returned. -/
def State.msaRun (s : State) (q : MsaReq) (err : Bool) : Nat × Nat × State :=
  let l := lineOf q.pa
  let n := match q.who with
    | .slot n _ => n
    | .remote _ => slotCount
  -- a lost die's memory answers POISON (R220)
  if s.poisoned l || s.ring.gone.contains (q.pa / stackSize / 2) then (3, 0, s)
  else if (Tbl.get? s.clines l).isSome then (4, 0, s)
  else if err then (3, 0, (s.orderWrite l).setPoison l)
  else
    let f (old : Nat) : Option Nat := atomicOp q.aop (8 * q.k) old q.b q.c
    match q.who with
    | .slot _ _ => let (old, t) := s.rmw n q.pa q.k 7 false f true; (0, old, t)
    | .remote _ =>
      let old := s.memRead q.pa q.k
      -- the unit takes the line from its home even for a comparison that fails (R221)
      (0, old, match f old with
        | some v => s.memWrite q.pa q.k v
        | none => s.orderWrite l)

/-- The acquire of an atomic's ORD, after it (R229). -/
def ordAcquire (s : State) (m : BitVec 10) : State :=
  if Forms.ordOf m = 1 || Forms.ordOf m = 3 then s.acquire (Forms.scopeOf m) else s

/-- Does the ORD release before the operation? -/
def ordReleases (m : BitVec 10) : Bool := Forms.ordOf m == 2 || Forms.ordOf m == 3

/-- What an atomic's poison does after its release (R355, R357): POISON under `.trap`, otherwise its acquire and all ones of its width in
D. -/
def atomPoison (w : Ins) (ea : Word64) (s : State) : Res :=
  if bit (mods w.d) 0 then .trap .poison (infoAddr ea)
  else .ok ((ordAcquire s (mods w.d)).put 8 (.s (num w.d) (BitVec.ofNat 64 (2 ^ (8 * typeBytes (mods w.d)) - 1))))

/-- An atomic whose word is poisoned: under `.trap` nothing comes before the trap (R329 order 11), under `.stat` its release does. -/
def atomBad (w : Ins) (ea : Word64) (wait : State → Res) (s : State) : Res :=
  let m := mods w.d
  let sc := Forms.scopeOf m
  if !bit m 0 && ordReleases m && s.relWaits sc then wait s
  else atomPoison w ea (if !bit m 0 && ordReleases m then s.release sc else s)

/-- The markers of a release towards every package that holds stores of the strand not yet at the level asked for (R45, R231, R433):
2 `.sys`, 1 `.acc`. -/
def State.sendMarks (s : State) (level : Nat := 2) : State :=
  let out (p : Nat) : Bool := s.fab.out.any fun q => s.isMine q.slot q.recAddr && q.pkg == p && q.use == .mark && decide (level ≤ q.req.ackl)
  ((s.awaited level).filter fun p => !out p).foldl (fun t p => t.sendMark p level .mark t.cur t.slot.recAddr t.slot.ctx) s

/-- Does an atomic on this line run at the MSA (R221, R234): at `.dev` in partitioned mode, at `.pod`? PT lines stay at their
homes (R260). -/
def State.atMsa (s : State) (pa sc : Nat) : Bool :=
  isHbm pa && !s.isPt (lineOf pa) && ((s.coh.part && wideScope sc) || sc == 7)

/-- The atomic of the current slot at the MSA: queued in order of arrival, its result awaited (R221, R238): 3 poison, 4 a line that
became state C meanwhile (R190). -/
def State.msaScalar (s : State) (q : MsaReq) (good : State → Nat → Res) (bad : Nat → Res) : Res :=
  match s.slot.reply with
  | some (st, v) => if st = 0 then good s v.toNat else bad st.toNat
  | none =>
    if s.msaq.any fun e => e.who == q.who then .hold (s.waitFor .home)
    else .hold ({ s with msaq := s.msaq ++ [q] }.waitFor .home)

/-- An atomic (R355): `aop` is its operation. -/
def atomBody (aop : Nat) (w : Ins) (s : State) : Res :=
  let m := mods w.d
  let n := typeBytes m
  let sc := Forms.scopeOf m
  let x := s.slot
  let ea := x.ea w.a
  let b := unsignedOf (x.opS w.b) (8 * n)
  let c := unsignedOf (x.getS (num w.d)) (8 * n)
  let op (old : Nat) : Option Nat := atomicOp aop (8 * n) old b c
  let win := fld ea 63 48 == 0xFFFF
  let ret (t : State) (old : Nat) : State := (ordAcquire t m).put 8 (.s (num w.d) (BitVec.ofNat 64 old))
  let marks (s : State) : Res := .hold (s.sendMarks.waitFor .home)
  if !win && s.compact then .trap .prot 0
  else if win then
    s.winAccess (BitVec.ofNat 64 (fld ea 47 0)) n
      (fun t off =>
        if ordReleases m && s.relWaits sc then marks s
        else
          let s := if ordReleases m then s.release sc else s
          let old := s.tsRead t off n
          .ok (ret (match op old with
            | some v => s.tsWrite t off n v
            | none => s) old))
      (atomBad w ea marks s)
  else
    s.access ea n .atomic
      (fun pa unc mir =>
        let l := lineOf pa
        if (Tbl.get? s.clines l).isSome && s.slot.reply.isNone then .trap .compactHeld (infoAddr ea)
        else if s.slot.reply.isNone && (s.meetsPoison (clusterOf s.cur) l || (s.poisoned l && wideScope sc)) then atomBad w ea marks s
        else if ordReleases m && s.relWaits sc then marks s
        else if s.atMsa pa sc then
          let s := if ordReleases m && s.slot.reply.isNone then s.release sc else s
          s.msaScalar ⟨pa, n, aop, b, c, .slot s.cur s.slot.recAddr, s.roundStamp (dieOf s.cur)⟩ (fun t old => .ok ((ret t old).mirrored (clusterOf s.cur) l mir))
            fun st => if st = 3 then atomPoison w ea s else .trap .compactHeld (infoAddr ea)
        else
          let s := if ordReleases m then s.release sc else s
          let (old, t) := s.rmw s.cur pa n sc unc op (aop == 11 || aop == 12)
          if (op old).isSome then ((ret t old).mirrored (clusterOf s.cur) l mir).afterStore l w else .ok (ret t old))
      (fun pkg pa =>
        if sc ≠ 7 then .trap .prot (infoAddr ea)
        else if ordReleases m && s.relWaits sc then marks s
        else
          let s := if ordReleases m then s.release sc else s
          s.farScalar pkg (mkRequest 2 0 pa n aop (bytesOfNat n b ++ bytesOfNat n c))
            (fun t v => .ok (ret t v.toNat))
            (fun st => if st = 3 then atomPoison w ea s else .trap .prot (infoAddr ea)))

/-- AMIN and AMAX take U from the type (R350): the signed or unsigned operation's code. -/
def minMaxAop (w : Ins) (signed : Nat) : Nat := if bit (mods w.d) 1 then signed + 2 else signed

/-- A fence of kind `o` (1 acquire, 2 release, 3 sc) at scope `sc` on the lines of `within` (R231-R233, R358). A `.pod` release
waits for the strand's fabric stores, a range form's only when it acts as the full fence (`far`, R232, R359); FENCE.sc.dev in partitioned
mode waits for its ticket between release and acquire (R233). -/
def fenceBody (o sc : Nat) (within : Nat → Bool) (s : State) (far : Bool := true) : Res :=
  let ticket := o == 3 && (sc == 5 || sc == 6) && s.coh.part
  if s.compact then .ok s
  else if ticket && s.slot.reply.isSome then .ok (s.acquire sc within)
  else if ticket && s.scq.contains s.cur then .hold (s.waitFor .home)
  else if far && o ≥ 2 && s.relWaits sc then .hold (s.sendMarks.waitFor .home)
  else if ticket then
    let t := s.release sc within
    .hold ({ t with scq := t.scq ++ [t.cur] }.waitFor .home)
  else
    let s := if o ≥ 2 then s.release sc within else s
    .ok (if o = 1 || o = 3 then s.acquire sc within else s)

/-- FENCE (R358). -/
def execFence (w : Ins) (s : State) : Host.Outcome State Fault Refusal :=
  run (.fence w) w false false (fenceBody (Forms.ordOf (mods w.d)) (Forms.scopeOf (mods w.d)) fun _ => true) s

/-- The physical page of a virtual page in the issuing core's caches, looked up without posting: its base, or none for no entry;
an unbacked or REM page is skipped (R359). -/
inductive RangePage where
  | lines (vbase vend pbase : Nat)
  | all
  | skip
  deriving DecidableEq, Repr

/-- How the page of `va` is covered, and the first address past it (R359). -/
def State.rangePage (s : State) (va : Nat) : RangePage × Nat :=
  match (s.cache (cacheOf s.cur)).find? fun e => e.hits (s.asidOf s.cur).toNat va with
  | none => (.all, va / 4096 * 4096 + 4096)
  | some e =>
    let v0 := va / 2 ^ e.shift * 2 ^ e.shift
    if bit e.e1 63 || !s.backed (e.pbase + va % 2 ^ e.shift) then (.skip, v0 + 2 ^ e.shift)
    else (.lines v0 (v0 + 2 ^ e.shift) e.pbase, v0 + 2 ^ e.shift)

/-- The pages of [va, stop), at most `fuel` of them, least first. -/
def State.rangePages (s : State) (va stop : Nat) : Nat → List RangePage
  | 0 => []
  | fuel + 1 => if stop ≤ va then [] else let (p, nxt) := s.rangePage va; p :: s.rangePages nxt stop fuel

/-- Does a range fence act on this line (R359)? -/
def rangeHas (base stop : Nat) (ps : List RangePage) (line : Nat) : Bool :=
  ps.any fun p => match p with
    | .all => true
    | .skip => false
    | .lines v0 v1 p0 =>
      let a := line * 64
      decide (p0 ≤ a) && decide (a < p0 + (v1 - v0)) && decide (base < v0 + (a - p0) + 64) && decide (v0 + (a - p0) < stop)

/-- FENCE, range form (R359): the base from A, the length from B. In compact mode it does nothing else than complete (R351). -/
def fenceRangeBody (w : Ins) (s : State) : Res :=
  let base := s.slot.ea w.a
  let len := (s.slot.opU w.b).toNat
  if s.compact || len = 0 then .ok s
  else if 2 ^ 32 < len then .trap .countRange len
  else if 2 ^ 48 < base.toNat + len then .trap .prot (infoAddr base)
  else
    let b := base.toNat
    let ps := s.rangePages b (b + len) (len / 4096 + 2)
    fenceBody (Forms.ordOf (mods w.d)) (Forms.scopeOf (mods w.d)) (rangeHas b (b + len) ps) s (ps.contains .all)

/-- FENCE, range form (R359). -/
def execFenceRange (w : Ins) (s : State) : Host.Outcome State Fault Refusal :=
  run (.fenceRange w) w false false (fenceRangeBody w) s

/-- AADD (R355, R356). -/
def execAadd (w : Ins) (s : State) : Host.Outcome State Fault Refusal :=
  run (.aadd w) w false false (atomBody 1 w) s
/-- AFADD (R355, R356). -/
def execAfadd (w : Ins) (s : State) : Host.Outcome State Fault Refusal :=
  run (.afadd w) w false false (atomBody 2 w) s
/-- AMIN (R355, R356). -/
def execAmin (w : Ins) (s : State) : Host.Outcome State Fault Refusal :=
  run (.amin w) w false false (atomBody (minMaxAop w 3) w) s
/-- AMAX (R355, R356). -/
def execAmax (w : Ins) (s : State) : Host.Outcome State Fault Refusal :=
  run (.amax w) w false false (atomBody (minMaxAop w 4) w) s
/-- AAMAX (R355, R356). -/
def execAamax (w : Ins) (s : State) : Host.Outcome State Fault Refusal :=
  run (.aamax w) w false false (atomBody 7 w) s
/-- AAND (R355, R356). -/
def execAand (w : Ins) (s : State) : Host.Outcome State Fault Refusal :=
  run (.aand w) w false false (atomBody 8 w) s
/-- AOR (R355, R356). -/
def execAor (w : Ins) (s : State) : Host.Outcome State Fault Refusal :=
  run (.aor w) w false false (atomBody 9 w) s
/-- AXOR (R355, R356). -/
def execAxor (w : Ins) (s : State) : Host.Outcome State Fault Refusal :=
  run (.axor w) w false false (atomBody 10 w) s
/-- ASWP (R355, R356). -/
def execAswp (w : Ins) (s : State) : Host.Outcome State Fault Refusal :=
  run (.aswp w) w false false (atomBody 11 w) s
/-- ACAS (R355, R356). -/
def execAcas (w : Ins) (s : State) : Host.Outcome State Fault Refusal :=
  run (.acas w) w false false (atomBody 12 w) s

end Sys2Proof.Machine
end

