-- ==== Sys2Proof/Machine/Control.lean ====
section
/-! DEFINITION. Control transfers and hardware loops, group 3 (15_isa_scalar_control R344-R348). -/

namespace Sys2Proof.Machine
open Sys2Proof

/-- A taken transfer to `t`, after `before`: a target that is no multiple of 12 traps ALIGN, one past 2^48 PROT, with every
register unchanged (R297, R344). -/
def transfer (s : State) (t : Word64) (before : State → State) : Res :=
  if t.toNat % 12 ≠ 0 then .trap .align (infoAddr t)
  else if 2 ^ 48 ≤ t.toNat then .trap .prot (infoAddr t)
  else .jump (before s) t

/-- The pc-relative target of immediate `k`: the instruction's address + 12·k (R344). -/
def pcRel (pc : Word64) (k : Int) : Word64 := pc + BitVec.ofInt 64 (12 * k)

/-- BR (R345). -/
def execBr (w : Ins) (s : State) : Host.Outcome State Fault Refusal :=
  run (.br w) w false false (fun s => transfer s (pcRel s.slot.pc (immS w.a)) id) s
/-- JMP: a register, or the 44-bit value (R345). -/
def execJmp (w : Ins) (s : State) : Host.Outcome State Fault Refusal :=
  run (.jmp w) w false false
    (fun s => transfer s (if Forms.isWide w.a then wideVal w.a w.b else s.slot.getS (num w.a)) id) s
/-- CALL: the return address, then the transfer (R345). -/
def execCall (w : Ins) (s : State) : Host.Outcome State Fault Refusal :=
  run (.call w) w false false
    (fun s => transfer s (if Forms.isImm w.a then pcRel s.slot.pc (immS w.a) else s.slot.getS (num w.a))
      fun t => t.put 1 (.s (num w.d) (t.slot.pc + 12))) s
/-- RET (R345). -/
def execRet (w : Ins) (s : State) : Host.Outcome State Fault Refusal :=
  run (.ret w) w false false (fun s => transfer s (s.slot.getS (num w.a)) id) s
/-- BRX: address + 12 + 12·min(i, n) (R345). -/
def execBrx (w : Ins) (s : State) : Host.Outcome State Fault Refusal :=
  run (.brx w) w false false
    (fun s => transfer s (pcRel s.slot.pc (1 + (min (s.slot.getS (num w.a)).toNat (immU w.b) : Nat))) id) s

/-- LOOP (R346): with count 0 the body is skipped; a full stack traps COUNT_RANGE with the count. -/
def loopBody (w : Ins) (s : State) : Res :=
  let n := fld (s.slot.opU w.a) 31 0
  let stop := pcRel s.slot.pc (immS w.b)
  if n = 0 then transfer s (stop + 12) id
  else if 4 ≤ s.slot.loops.length then .trap .countRange n
  else .ok (s.modSlot s.cur fun x => { x with loops := ⟨x.pc + 12, stop, BitVec.ofNat 32 n⟩ :: x.loops })
/-- LOOP (R346). -/
def execLoop (w : Ins) (s : State) : Host.Outcome State Fault Refusal := run (.loop w) w false false (loopBody w) s

/-- ENDL (R347): decrement, then test; the entry is popped when the count reaches 0. -/
def endlBody (s : State) : Res :=
  match s.slot.loops with
  | [] => .trap .countRange 0
  | e :: r =>
    if e.stop ≠ s.slot.pc then .trap .countRange 0
    else
      let c := e.count - 1
      if c ≠ 0 then .back (s.modSlot s.cur fun x => { x with loops := { e with count := c } :: r }) e.start
      else .ok (s.modSlot s.cur fun x => { x with loops := r })
/-- ENDL (R347). -/
def execEndl (w : Ins) (s : State) : Host.Outcome State Fault Refusal := run (.endl w) w false false endlBody s
/-- NOP (R345). -/
def execNop (w : Ins) (s : State) : Host.Outcome State Fault Refusal := run (.nop w) w false false (fun s => .ok s) s

end Sys2Proof.Machine
end

