-- ==== Sys2Proof/Machine/ScalarFloat.lean ====
section
/-! DEFINITION. Scalar float instructions, group 2 (15_isa_scalar_control R338-R342, 12_number_formats R282-R285). -/

namespace Sys2Proof.Machine
open Sys2Proof

/-- The format of a group 2 carrier (R338). -/
def sfFmt (w : Ins) : Fmt := Forms.fmtOf (mods w.d)
/-- A scalar float operand's pattern: the low bits of the register (R338). -/
def sfBits (f : Fmt) (x : Word64) : Nat := unsignedOf x f.memBits
/-- A scalar float operand's value. -/
def sfVal (f : Fmt) (x : Word64) : FVal := decFp f false (sfBits f x)

/-- A float result: rounded once, zero-extended, with its flags (R339). -/
def sfBody (w : Ins) (lat : Nat) (op : FVal → FVal → FVal → FVal × Flags) (s : State) : Res :=
  let f := sfFmt w
  let x := s.slot
  let (r, fl) := rnd f (op (sfVal f (x.getS (num w.a))) (sfVal f (x.getS (num w.b))) (sfVal f (x.getS (num w.d))))
  .ok (s.putF lat (.s (num w.d) (BitVec.ofNat 64 r)) fl)

/-- FMIN and FMAX (R340). -/
def sfMinMax (w : Ins) (least : Bool) (s : State) : Res :=
  let f := sfFmt w
  let (r, fl) := fMinMax f least (sfBits f (s.slot.getS (num w.a))) (sfBits f (s.slot.getS (num w.b)))
  .ok (s.putF 4 (.s (num w.d) (BitVec.ofNat 64 r)) fl)

/-- FCMP: the condition of OTH[10:8] (R340). -/
def fcmpBody (w : Ins) (s : State) : Res :=
  let f := sfFmt w
  let (r, fl) := fCmp (fld (mods w.d) 2 0) (sfVal f (s.slot.getS (num w.a))) (sfVal f (s.slot.getS (num w.b)))
  .ok (s.putF 1 (.p (num w.d) r) fl)

/-- FSGN: A's magnitude with a sign made from B by OTH[9:8]; a NaN A gives the canonical NaN (R341). -/
def fsgnBody (w : Ins) (s : State) : Res :=
  let f := sfFmt w
  let a := sfBits f (s.slot.getS (num w.a))
  let b := sfBits f (s.slot.getS (num w.b))
  let v := decFp f false a
  let sg := signBit f
  let sa := decide (sg ≤ a)
  let sb := decide (sg ≤ b)
  let neg := match Forms.oth2 (mods w.d) with
    | 0 => sb
    | 1 => !sb
    | _ => sa != sb
  let r := if v.isNaN then canonNaN f else a % sg + (if neg then sg else 0)
  .ok (s.putF 1 (.s (num w.d) (BitVec.ofNat 64 r)) (sigFlags [v]))

/-- FCLASS (R341). -/
def fclassBody (w : Ins) (s : State) : Res :=
  let f := sfFmt w
  .ok (s.put 1 (.s (num w.d) (BitVec.ofNat 64 (fClass f (sfBits f (s.slot.getS (num w.a)))))))

/-- The options that a conversion's OTH carries: SR [11], SAT [10], INF [9], NAN [8]; `x` is the LFSR state under SR (R342). -/
def cvtOpt (m : BitVec 10) (x : Nat) : CvtOpt := ⟨if bit m 3 then .sr x else .rne, bit m 2, bit m 1, bit m 0⟩

/-- One element converted from `src` to `tgt`: the pattern and the flags (R273, R274, R282-R285, R342). A tern source with code
10 sets NV; a signalling NaN sets NV. -/
def cvtElem (src tgt : Fmt) (o : CvtOpt) (bits : Nat) : Nat × Flags :=
  let v := if src.element == .f8e4 then decFp .f8e4 (o.nan && tgt.element == .f8e4) bits else decode src false bits
  let (r, fl) := encode tgt o (src.isInt || src == .tern) v
  (r, fl ||| sigFlags [v] ||| (if src == .tern && bits % 4 == 2 then fNV else 0))

/-- The result of a conversion in an s-register: an integer sign- or zero-extended, a float zero-extended (R338, R342). -/
def cvtExt (tgt : Fmt) (r : Nat) : Word64 :=
  if tgt.isI then sext (BitVec.ofNat 64 r) tgt.memBits else BitVec.ofNat 64 r

/-- FCVT (R342): under SR the seed is B and lane 0 of R285 applies. -/
def fcvtBody (w : Ins) (s : State) : Res :=
  let tgt := sfFmt w
  let src := Forms.fmtOf (mods w.a)
  let m := mods w.d
  let x := srSteps (srSeed (s.slot.opS w.b).toNat 0) 32
  let (r, fl) := cvtElem src tgt (cvtOpt m x) (unsignedOf (s.slot.getS (num w.a)) src.memBits)
  .ok (s.putF 4 (.s (num w.d) (cvtExt tgt r)) fl)

/-- FADD (R339). -/
def execFadd (w : Ins) (s : State) : Host.Outcome State Fault Refusal :=
  run (.fadd w) w false false (sfBody w 4 fun a b _ => vAdd a b) s
/-- FSUB (R339). -/
def execFsub (w : Ins) (s : State) : Host.Outcome State Fault Refusal :=
  run (.fsub w) w false false (sfBody w 4 fun a b _ => vAdd a b.negate) s
/-- FMUL (R339). -/
def execFmul (w : Ins) (s : State) : Host.Outcome State Fault Refusal :=
  run (.fmul w) w false false (sfBody w 4 fun a b _ => vMul a b) s
/-- FFMA (R339): D read at issue, one rounding. -/
def execFfma (w : Ins) (s : State) : Host.Outcome State Fault Refusal :=
  run (.ffma w) w false false (sfBody w 4 vFma) s
/-- FDIV (R339). -/
def execFdiv (w : Ins) (s : State) : Host.Outcome State Fault Refusal :=
  run (.fdiv w) w false false (sfBody w 16 fun a b _ => vDiv a b) s
/-- FSQRT (R339). -/
def execFsqrt (w : Ins) (s : State) : Host.Outcome State Fault Refusal :=
  run (.fsqrt w) w false false (sfBody w 16 fun a _ _ => vSqrt a) s
/-- FMIN (R340). -/
def execFmin (w : Ins) (s : State) : Host.Outcome State Fault Refusal := run (.fmin w) w false false (sfMinMax w true) s
/-- FMAX (R340). -/
def execFmax (w : Ins) (s : State) : Host.Outcome State Fault Refusal := run (.fmax w) w false false (sfMinMax w false) s
/-- FCMP (R340). -/
def execFcmp (w : Ins) (s : State) : Host.Outcome State Fault Refusal := run (.fcmp w) w false false (fcmpBody w) s
/-- FCVT (R342). -/
def execFcvt (w : Ins) (s : State) : Host.Outcome State Fault Refusal := run (.fcvt w) w false false (fcvtBody w) s
/-- FSGN (R341). -/
def execFsgn (w : Ins) (s : State) : Host.Outcome State Fault Refusal := run (.fsgn w) w false false (fsgnBody w) s
/-- FCLASS (R341). -/
def execFclass (w : Ins) (s : State) : Host.Outcome State Fault Refusal := run (.fclass w) w false false (fclassBody w) s

end Sys2Proof.Machine
end

