-- ==== Sys2Proof/Machine/Transcend.lean ====
section
/-! DEFINITION. The transcendental functions of 17 R392: 2^a, 1/a, 1/√a and log2 a, to far more bits than any result keeps, with
a sticky bit below them, so that the one rounding of R282 is that of the exact value. -/

namespace Sys2Proof.Machine
open Sys2Proof

/-- Bits kept below the point. -/
def trP : Nat := 240

/-- ⌊ln 2 · 2^240⌋. -/
def ln2Fixed : Nat := 0xb17217f7d1cf79abc9e3b39803f2f6af40f343267298b62d8a0d175b8baa

/-- The sum of the exponential series from term `k` on: `t` is the term before it, `y` the argument, all in 2^-240. -/
def expSeries (y : Nat) : Nat → Nat → Nat → Nat
  | 0, _, _ => 0
  | n + 1, k, t => let u := (t * y) >>> trP / k; u + expSeries y n (k + 1) u

/-- 2^f in units of 2^-240, for f = r / 2^240 in [0, 1). -/
def exp2Fixed (r : Nat) : Nat := 2 ^ trP + expSeries ((r * ln2Fixed) >>> trP) 70 1 (2 ^ trP)

/-- A magnitude times 2^k for a signed k. -/
def scalePow (n d : Nat) (k : Int) : FVal := if 0 ≤ k then .fin false (n <<< k.toNat) d else .fin false n (d <<< (-k).toNat)

/-- VEXP: 2^a (R392). Exponents beyond ±400 overflow or underflow in every format as ±400 does. -/
def vExp2 (a : FVal) : FVal × Flags :=
  match a with
  | .nan _ => (.nan false, sigFlags [a])
  | .inf s => (if s then .fin false 0 1 else .inf false, 0)
  | .fin s n d =>
    if n = 0 then (.fin false 1 1, 0)
    else
      let x := signedNum s n
      let k := max (-400) (min 400 (x / (d : Int)))
      let r := (x % (d : Int)).toNat
      if r = 0 then (scalePow 1 1 k, 0)
      else (scalePow (2 * exp2Fixed ((r <<< trP) / d) + 1) (2 ^ (trP + 1)) k, 0)

/-- The bits of log2 m for m in [1, 2), from the squarings of m in units of 2^-560. -/
def log2Bits (m acc : Nat) : Nat → Nat
  | 0 => acc
  | k + 1 =>
    let q := (m * m) >>> 560
    if q < 2 ^ 561 then log2Bits q (2 * acc) k else log2Bits (q / 2) (2 * acc + 1) k

/-- VLOG: log2 a (R392). -/
def vLog2 (a : FVal) : FVal × Flags :=
  match a with
  | .nan _ => (.nan false, sigFlags [a])
  | .inf s => if s then (.nan false, fNV) else (.inf false, 0)
  | .fin s n d =>
    if n = 0 then (.inf true, fDZ)
    else if s then (.nan false, fNV)
    else
      let e : Int := (flog2 n d : Int) - 4096
      let m := if 0 ≤ e then (n <<< 560) / (d <<< e.toNat) else (n <<< (560 + (-e).toNat)) / d
      if m = 2 ^ 560 then (ofInt e, 0)
      else
        let x : Int := (2 : Int) * (e * 2 ^ trP + (log2Bits m 0 trP : Int)) + 1
        (.fin (decide (x < 0)) x.natAbs (2 ^ (trP + 1)), 0)

/-- VRCP: 1/a (R392). -/
def vRcp (a : FVal) : FVal × Flags := vDiv (.fin false 1 1) a

/-- VRSQ: 1/√a (R392). -/
def vRsq (a : FVal) : FVal × Flags :=
  match a with
  | .nan _ => (.nan false, sigFlags [a])
  | .inf s => if s then (.nan false, fNV) else (.fin false 0 1, 0)
  | .fin s n d => if n = 0 then (.inf s, fDZ) else if s then (.nan false, fNV) else vSqrt (.fin false d n)

end Sys2Proof.Machine
end

