-- ==== Sys2Proof/Machine/VecOps.lean ====
section
/-! DEFINITION. What every vector instruction shares: elements and lanes (12 R269), sources and their tag checks (R266, R383),
stream-mode registers (17 R400-R402), the vector queue (07 R152, R156), the result under its mask (R382), and the memory accesses
of vector loads and stores (R396). -/

namespace Sys2Proof.Machine
open Sys2Proof

/-- Element `e` of container `c` (R269). -/
def elem (c : Nat) (v : BitVec 2048) (e : Nat) : Nat := (v.toNat >>> (c * e)) % 2 ^ c
/-- Lane `i`. -/
def laneOf (v : BitVec 2048) (i : Nat) : Nat := elem 32 v i
/-- A register of 64 lanes, lane 0 first. -/
def ofLanes (l : List Nat) : BitVec 2048 := BitVec.ofNat 2048 (l.foldr (fun x a => x % 2 ^ 32 + a <<< 32) 0)
/-- Elements of container `c` packed, element 0 lowest. -/
def packElems (c : Nat) (l : List Nat) : Nat := l.foldr (fun x a => x % 2 ^ c + a <<< c) 0

/-! Stream-mode registers (R400, R401). -/

/-- DIR: a write stream. -/
def Stream.write (b : Stream) : Bool := bit b.w0 62
/-- WIN. -/
def Stream.win (b : Stream) : Bool := bit b.w0 61
/-- FMT. -/
def Stream.fmt (b : Stream) : Fmt := Fmt.ofCode (fld b.w0 52 48)
/-- POS. -/
def Stream.pos (b : Stream) : Nat := fld b.w2 63 32
/-- CNT. -/
def Stream.cnt (b : Stream) : Nat := fld b.w2 31 0
/-- The address of register-full `i`: BASE + i · STRIDE. -/
def Stream.addr (b : Stream) (i : Nat) : Word64 := BitVec.ofNat 64 (fld b.w0 47 0) + BitVec.ofNat 64 i * b.w1
/-- POS incremented. -/
def Stream.step (b : Stream) : Stream := { b with w2 := BitVec.ofNat 64 ((b.pos + 1) * 2 ^ 32 + b.cnt) }

/-- The binding of v-register `n`, if it is bound. -/
def Slot.stream (x : Slot) (n : Nat) : Option Stream := if 12 ≤ n && n < 16 then (x.streams[n - 12]?).getD none else none
/-- The binding of v-register `n` replaced. -/
def Slot.setStream (x : Slot) (n : Nat) (b : Option Stream) : Slot := { x with streams := x.streams.setIfInBounds (n - 12) b }

/-- What an instruction that reads v-register `n` sees: for a bound register, register-full POS tagged FMT (R401). -/
def Slot.seeV (x : Slot) (n : Nat) : VReg :=
  match x.stream n with
  | some b => ⟨some b.fmt, ((b.ahead.head?).map VReg.val).getD 0⟩
  | none => x.getV n

/-- A source of a vector or matrix instruction: its field (1 A, 2 B), its register and the formats accepted (R383). -/
structure VSrc where
  field : Nat
  reg   : Nat
  ok    : Fmt → Bool

/-- A tag check (R266): the INFO of the FMT trap when it fails (R438). -/
def tagFails (any : Bool) (field : Nat) (ok : Fmt → Bool) (t : Option Fmt) : Option Nat :=
  if any then none
  else match t with
    | some f => if ok f then none else some (field * 2 ^ 16 + tagByte t)
    | none => some (field * 2 ^ 16 + tagByte none)

/-- The first failing check of the sources. -/
def srcFails (x : Slot) (any : Bool) : List VSrc → Option Nat
  | [] => none
  | v :: r => match tagFails any v.field v.ok (x.seeV v.reg).tag with
    | some i => some i
    | none => srcFails x any r

/-- The registers a list of sources names, once each. -/
def srcRegs (l : List VSrc) : List Nat := (l.map VSrc.reg).eraseDups

/-- Does reading register `n` misuse a stream: a write stream, the end of the stream, or a register-full whose read-ahead ended
in PROT or POISON (R401, R402)? -/
def Slot.badRead (x : Slot) (n : Nat) : Bool :=
  match x.stream n with
  | some b => b.write || decide (b.cnt ≤ b.pos) || (b.bad && b.ahead.isEmpty)
  | none => false

/-- Does a read of register `n` wait for its register-full (R402)? -/
def Slot.waitsRead (x : Slot) (n : Nat) : Bool :=
  match x.stream n with
  | some b => b.ahead.isEmpty
  | none => false

/-- A bound register's register-full taken: POS goes on, and the register keeps what was read (R401, R424). -/
def Slot.popV (x : Slot) (n : Nat) : Slot :=
  match x.stream n with
  | some b => { (x.setStream n (some { b.step with ahead := b.ahead.tail })) with v := x.v.setIfInBounds n (x.seeV n) }
  | none => x

/-- Does writing a result tagged `t` to register `n` misuse a stream; `reads` when the instruction reads D as well (R401)? -/
def Slot.badWrite (x : Slot) (n : Nat) (t : Option Fmt) (reads : Bool) : Bool :=
  match x.stream n with
  | some b => reads || !b.write || decide (b.cnt ≤ b.pos) || t != some b.fmt
  | none => false

/-! The vector queue (R152, R156). -/

/-- Is the core's vector queue full for the current slot: 16 entries not yet bound, or in compact mode not yet started? -/
def State.vqFull (s : State) : Bool :=
  let c := s.core (coreOf s.cur)
  if s.compact then decide (16 ≤ (c.vstart.filter fun t => decide (c.cycle < t)).length) else decide (16 ≤ c.vq.length)

/-- A vector operation enters the queue: the cycles until its start (compact mode, R156; 0 in free mode, where results are those
of program order), and the state after. -/
def State.vqEnter (s : State) : Nat × State :=
  let n := coreOf s.cur
  let c := s.core n
  if s.compact then
    let start := match c.vstart with
      | t :: _ => max c.cycle (t + 4)
      | [] => c.cycle
    (start - c.cycle, s.setCore n { c with vstart := start :: c.vstart.filter fun t => decide (c.cycle < t) })
  else (0, s.setCore n { c with vq := c.vq ++ [s.cur] })

/-- How a vector instruction goes from order 7 of R329 on: the tags of its sources, then of D when it reads D (`dOk`), the
count limits and stream misuses (order 8); then it waits for a free queue entry and for its register-fulls, `go` runs, and the
register-fulls are taken. `dOut` is the tag of a result in a class 2 register D. -/
def vecRun (w : Ins) (any : Bool) (srcs : List VSrc) (dOk : Option (Fmt → Bool)) (dOut : Option (Option Fmt)) (limit : Option Nat)
    (go : State → Res) (s : State) : Res :=
  let x := s.slot
  let d := num w.d
  match srcFails x any srcs with
  | some i => .trap .fmt i
  | none =>
    match dOk.bind fun ok => tagFails any 0 ok (x.getV d).tag with
    | some i => .trap .fmt i
    | none =>
      match limit with
      | some v => .trap .countRange v
      | none =>
        let misuse := (srcRegs srcs).any x.badRead || (match dOut with
          | some t => x.badWrite d t dOk.isSome
          | none => false)
        if misuse then .trap .stream 0
        else if s.vqFull then .hold (s.waitFor .full)
        else if (srcRegs srcs).any x.waitsRead then .hold (s.waitFor .status)
        else
          let pops (t : State) : State := t.setSlot ((srcRegs srcs).foldl Slot.popV t.slot)
          match go s with
          | .ok t => .ok (pops t)
          | .done t => .done (pops t)
          | r => r

/-- A write stream's register-full on its way to memory (R401, R402): an access of the core's copy/stream engine, lanes under
`mask`. -/
def pushCmd (s : State) (b : Stream) (r : VReg) (mask : Word64) (due : Nat) : Cmd where
  op := 0
  w := ⟨false, 0, 0, false, false, false, false, Forms.zeroField, Forms.zeroField, Forms.zeroField⟩
  slot := s.cur
  recAddr := s.slot.recAddr
  ctx := s.slot.ctx
  asid := s.asidOf s.cur
  sup := b.sup
  pfb := b.pfb
  pc := s.slot.pc
  args := [b.addr b.pos, mask, BitVec.ofNat 64 b.fmt.code, if b.win then 1 else 0]
  vals := [r]
  pos := 0
  acc := []
  got := []
  start := due
  far := []
  fin := none
  late := false
  begun := false
  home := []
  served := []
  out := []
  pts := []
  done := none
  park := none

/-- A result in a class 2 register: written when it lands, and pushed when the register is a write stream (R401). -/
def State.putV (s : State) (lat d : Nat) (r : VReg) (mask : Word64) : State :=
  let x := s.slot
  match x.stream d with
  | some b =>
    let n := coreOf s.cur
    let c := s.core n
    let s1 := s.setCore n { c with pushes := c.pushes ++ [pushCmd s b r mask (c.cycle + lat)] }
    (s1.setSlot (x.setStream d (some b.step))).put lat (.v d r)
  | none => s.put lat (.v d r)

/-- A vector result and its flags (R287), `lat` cycles after the operation's start. -/
def vecDone (s : State) (lat : Nat) (w : RegWrite) (f : Flags) (mask : Word64) : Res :=
  let (off, s1) := s.vqEnter
  let s2 := match w with
    | .v d r => s1.putV (off + lat) d r mask
    | w => s1.put (off + lat) w
  .ok (if f = 0 then s2 else s2.put (off + lat) (.flags f))

/-- The mask number and Z of A's modifier bits (R380). -/
def maskNum (m : BitVec 10) : Nat := fld m 1 0
/-- Z. -/
def maskZ (m : BitVec 10) : Bool := bit m 2

/-- Is D read for its inactive lanes (R382)? -/
def mergesD (m : BitVec 10) : Bool := maskNum m != 0 && !maskZ m

/-- A result with the lanes of `r` where the mask is set, and D's or zero elsewhere (R382). -/
def maskLanes (mask : Word64) (z : Bool) (d : BitVec 2048) (r : Nat → Nat) : BitVec 2048 :=
  ofLanes ((List.range 64).map fun i => if bit mask i then r i else if z then 0 else laneOf d i)

/-- The flags that active lanes raise. -/
def maskFlags (mask : Word64) (f : Nat → Flags) : Flags :=
  (List.range 64).foldl (fun a i => if bit mask i then a ||| f i else a) 0

/-- Element `e` of a broadcast B: a v-register's, or the low `c` bits of a scalar or an immediate (R381). -/
def bElem (x : Slot) (c : Nat) (o : Operand) (e : Nat) : Nat :=
  match o with
  | .reg k _ n => if k = 2 then elem c (x.seeV n.toNat).val e else (x.getS n.toNat).toNat % 2 ^ c
  | .imm v => (v.signExtend 64).toNat % 2 ^ c
  | _ => 0

/-- Is the operand a v-register? -/
def isV (o : Operand) : Bool := Forms.isCls 2 o

/-! Memory accesses (R396-R399). -/

/-- A piece of an access that lies within one line: its place in the register's bits, its address and its bytes. -/
structure Piece where
  place : Nat
  va    : Word64
  n     : Nat
  deriving DecidableEq, Repr

/-- Where a piece lies. -/
inductive Loc where
  | mem (pa : Nat) (unc mir : Bool)
  | ts (tile off : Nat)
  deriving DecidableEq, Repr

/-- The memory width in bytes of a lane's elements in a contiguous array: 3 for 6-bit elements, else 4 (R397). -/
def laneBytes (f : Fmt) : Nat := if f.memBits = 6 then 3 else 4

/-- The pieces of a contiguous access (R397); the bytes of 6-bit elements singly. -/
def contigPieces (f : Fmt) (mask : Word64) (ea : Word64) : List Piece :=
  if f.memBits = 6 then
    (List.range 64).flatMap fun i => if bit mask i then
      (List.range 3).map fun j => ⟨8 * (3 * i + j), ea + BitVec.ofNat 64 (3 * i + j), 1⟩ else []
  else ((List.range 64).filter fun i => bit mask i).map fun i => ⟨32 * i, ea + BitVec.ofNat 64 (4 * i), 4⟩

/-- The pieces of a strided access (R398); a 64-bit element is accessed by its active halves. -/
def stridePieces (f : Fmt) (mask : Word64) (ea st : Word64) : List Piece :=
  let c := f.container
  if c = 64 then ((List.range 64).filter fun i => bit mask i).map fun i =>
    ⟨32 * i, ea + BitVec.ofNat 64 (i / 2) * st + BitVec.ofNat 64 (4 * (i % 2)), 4⟩
  else ((List.range (2048 / c)).filter fun e => bit mask (e * c / 32)).map fun e =>
    ⟨e * c, ea + BitVec.ofNat 64 e * st, c / 8⟩

/-- The pieces of a gather or scatter (R399): lane i of B as a signed or unsigned index. -/
def indexPieces (mask : Word64) (ea : Word64) (b : VReg) : List Piece :=
  ((List.range 64).filter fun i => bit mask i).map fun i =>
    let x := BitVec.ofNat 32 (laneOf b.val i)
    ⟨32 * i, ea + 4 * (if b.tag = some .z32 then x.setWidth 64 else x.signExtend 64), 4⟩

/-- Where the pieces lie: the first that cannot be reached ends the access (R329 order 10, R254, R434, R494). -/
def State.locate (s : State) (win : Bool) (a : Acc) : List Piece → Res ⊕ List (Piece × Loc)
  | [] => .inr []
  | p :: r =>
    let loc : Res ⊕ Loc :=
      if win then
        match s.window p.va.toNat with
        | none => .inl (.trap .prot (infoAddr p.va))
        | some (t, off) => .inr (.ts t off)
      else if 2 ^ 48 ≤ p.va.toNat then .inl (.trap .prot (infoAddr p.va))
      else match s.xlate s.cur p.va.toNat a with
        | .fault kind =>
          if s.slot.denied a p.va.toNat then .inl (.trap .prot (infoAddr p.va)) else .inl (s.parkOr kind a p.va.toNat)
        | .unbacked => .inl (.trap .prot (infoAddr p.va))
        | .far _ _ => .inl (.trap .prot (infoAddr p.va))
        | .here pa unc mir => .inr (.mem pa unc mir)
    match loc with
    | .inl e => .inl e
    | .inr l => match State.locate s win a r with
      | .inl e => .inl e
      | .inr t => .inr ((p, l) :: t)

/-- The rest of an access whose pieces have all been translated (R251, R256). -/
def State.passedAll (s : State) (win : Bool) (a : Acc) (pcs : List Piece) (t : State) : State :=
  if win then t else pcs.foldl (fun u p => s.passed s.cur p.va.toNat a u) t

/-- Is the piece in a line in state C? -/
def State.heldAt (s : State) : Loc → Bool
  | .mem pa _ _ => (Tbl.get? s.clines (lineOf pa)).isSome
  | .ts _ _ => false

/-- The line in state C whose boundary a read of the piece still awaits (R190). -/
def State.awaits (s : State) : Loc → Option Nat
  | .mem pa _ _ => if (s.slot.servedLine (lineOf pa)).isNone && (Tbl.get? s.clines (lineOf pa)).isSome then some (lineOf pa) else none
  | .ts _ _ => none

/-- Does a read of the piece meet poison (R179, R190, R222)? -/
def State.poisonAt (s : State) : Loc → Bool
  | .mem pa _ _ => match s.slot.servedLine (lineOf pa) with
    | some v => v.bad
    | none => s.meetsPoison (clusterOf s.cur) (lineOf pa)
  | .ts t off => s.tsPoison.contains (t * 2 ^ 14 + off / 64)

/-- One piece read by the current slot. -/
def State.readAt (s : State) (k : Nat) : Loc → Nat × State
  | .mem pa unc _ => match s.slot.servedLine (lineOf pa) with
    | some v => (sliceBytes v.data (pa % 64) k, s)
    | none => s.load s.cur pa k unc
  | .ts t off => (s.tsRead t off k, s)

/-- Pieces read into a register's bits. -/
def State.readAll (s : State) : List (Piece × Loc) → Nat → Nat × State
  | [], a => (a, s)
  | (p, l) :: r, a => let (v, t) := s.readAt p.n l; State.readAll t r (a ||| (v <<< p.place))

/-- A vector load's memory part (R396): alignment, reach, held lines, poison; then `use` with the bits read. -/
def vecLoad (w : Ins) (s : State) (win : Bool) (pcs : List Piece) (use : State → Nat → Res) : Res :=
  let _ := w
  match pcs.find? fun p => p.va.toNat % p.n != 0 with
  | some p => .trap .align (infoAddr p.va)
  | none =>
    match s.locate win .load pcs with
    | .inl e => e
    | .inr l =>
      Res.after (s.passedAll win .load pcs) <| match (l.filterMap fun e => s.awaits e.2).eraseDups with
      | c :: r => .hold (s.waitFor (.held (c :: r)))
      | [] => match l.find? fun e => s.poisonAt e.2 with
        | some e => .trap .poison (infoAddr e.1.va)
        | none =>
          let (v, t) := s.readAll l 0
          use t v

/-- A line's part of a vector store: in the tile store or in memory, the bytes written and their data. -/
structure LinePart where
  ts   : Bool
  base : Nat
  mask : BitVec 64
  data : BitVec 512
  unc  : Bool
  mir  : Bool
  va   : Word64
  deriving DecidableEq, Repr

/-- The line of a location: in the tile store by its global byte number. -/
def Loc.line : Loc → Bool × Nat
  | .mem pa _ _ => (false, pa / 64)
  | .ts t off => (true, t * 2 ^ 14 + off / 64)
/-- Byte offset within the line. -/
def Loc.byte : Loc → Nat
  | .mem pa _ _ => pa % 64
  | .ts _ off => off % 64

/-- One piece added to the parts of its line; a later piece overwrites an earlier one (R225). -/
def addPart (l : Loc) (va : Word64) (n v : Nat) : List LinePart → List LinePart
  | [] => [⟨l.line.1, l.line.2, maskOf l.byte n, patchBytes 0 l.byte n v, (match l with | .mem _ u _ => u | _ => false),
      (match l with | .mem _ _ m => m | _ => false), va⟩]
  | p :: r => if p.ts = l.line.1 && p.base = l.line.2 then
      { p with mask := p.mask ||| maskOf l.byte n, data := patchBytes p.data l.byte n v } :: r
    else p :: addPart l va n v r

/-- The maximal runs of set bits among the low `k` of a mask from bit `i` on: start and length. -/
def runsOf (mask : BitVec 64) : Nat → Nat → Option Nat → List (Nat × Nat)
  | 0, i, st => match st with
    | some a => [(a, i - a)]
    | none => []
  | k + 1, i, st =>
    if bit mask i then runsOf mask k (i + 1) (some (st.getD i))
    else match st with
      | some a => (a, i - a) :: runsOf mask k (i + 1) none
      | none => runsOf mask k (i + 1) none

/-- One line's part stored by the current slot. -/
def State.storePart (s : State) (p : LinePart) : State :=
  (runsOf p.mask 64 0 none).foldl (fun t r =>
    let v := sliceBytes p.data r.1 r.2
    if p.ts then
      let t1 := t.tsWrite (p.base / 2 ^ 14) (p.base % 2 ^ 14 * 64 + r.1) r.2 v
      if r.2 = 64 then { t1 with tsPoison := t1.tsPoison.filter (· != p.base) } else t1
    else (t.store t.cur (64 * p.base + r.1) r.2 v p.unc).mirrored (clusterOf t.cur) p.base p.mir) s

/-- Is a store to this part refused by poison: the line is poisoned and not all 64 bytes are written (R222)? -/
def State.partPoison (s : State) (p : LinePart) : Bool :=
  p.mask != BitVec.allOnes 64 &&
    (if p.ts then s.tsPoison.contains p.base else s.meetsPoison (clusterOf s.cur) p.base)

/-- A vector store's memory part (R396): every check first, then the lines. A store into page-table lines holds the strand
until their rounds end (R262). -/
def vecStore (w : Ins) (s : State) (win : Bool) (pcs : List Piece) (v : Nat) (fin : State → State) : Res :=
  match pcs.find? fun p => p.va.toNat % p.n != 0 with
  | some p => .trap .align (infoAddr p.va)
  | none =>
    match s.locate win .store pcs with
    | .inl e => e
    | .inr l =>
      Res.after (s.passedAll win .store pcs) <| match l.find? fun e => s.heldAt e.2 with
      | some e => .trap .compactHeld (infoAddr e.1.va)
      | none =>
        let parts := l.foldl (fun a e => addPart e.2 e.1.va e.1.n ((v >>> e.1.place) % 2 ^ (8 * e.1.n)) a) []
        match parts.find? s.partPoison with
        | some p => .trap .poison (infoAddr p.va)
        | none =>
          if parts.any fun p => !p.ts && s.mirrorWaits (clusterOf s.cur) p.mir then .hold s
          else
          let t := fin (parts.foldl State.storePart s)
          let pts := parts.filter fun p => !p.ts && t.ptHeld p.base
          if pts.isEmpty then .ok t
          else .done (((pts.foldl (fun t p => t.ptStored p.base) t).advance w).waitFor .round)

/-- Six-bit elements expanded from their packed form into containers, 256 elements (R269). -/
def expand6 (v : Nat) : Nat := packElems 8 ((List.range 256).map fun e => (v >>> (6 * e)) % 64)
/-- The packed form of six-bit elements in containers. -/
def pack6 (v : Nat) : Nat := packElems 6 ((List.range 256).map fun e => (v >>> (8 * e)) % 64)
/-- The bits read, as a register holds them. -/
def regBits (f : Fmt) (v : Nat) : Nat := if f.memBits = 6 then expand6 v else v
/-- A register's bits, as memory holds them. -/
def memImage (f : Fmt) (v : BitVec 2048) : Nat := if f.memBits = 6 then pack6 v.toNat else v.toNat

end Sys2Proof.Machine
end

