-- ==== Sys2Proof/Machine/EngOps.lean ====
section
/-! DEFINITION. The reads and writes of the engines (CE, RE, MX): a queued command, its accesses to memory, to the cluster window
and to other packages, and how they stop it (18 R418-R421, 10 R240, 11 R255-R257, 02 R41-R53). -/

namespace Sys2Proof.Machine
open Sys2Proof

/-! Status codes of R418. -/
/-- QFULL. -/
def sQFULL : Nat := 1
/-- PROT. -/
def sPROT : Nat := 2
/-- POISON. -/
def sPOISON : Nat := 3
/-- HELD. -/
def sHELD : Nat := 4
/-- REFUSED. -/
def sREFUSED : Nat := 5
/-- NOPATH. -/
def sNOPATH : Nat := 6
/-- LINKDOWN. -/
def sLINKDOWN : Nat := 7
/-- MALFORMED. -/
def sMALFORMED : Nat := 8
/-- BADARG. -/
def sBADARG : Nat := 9
/-- BUSY. -/
def sBUSY : Nat := 10

/-- A status word of R418 with LATE clear; the landing of a struck command sets it (R53, R55, notes/assumptions 22). -/
def engStatus (st info : Nat) : Word64 := BitVec.ofNat 64 (st * 2 ^ 56 + info % 2 ^ 48)

/-- The status of a request that the fabric does not accept: REFUSED for a member of the group, NOPATH otherwise (R53). -/
def State.refusal (s : State) (pkg : Nat) : Nat := if s.member pkg then sREFUSED else sNOPATH

/-- A command of the current slot's instruction (R419). -/
def mkCmd (s : State) (op : Nat) (w : Ins) (args : List Word64) : Cmd where
  op := op
  w := w
  slot := s.cur
  recAddr := s.slot.recAddr
  ctx := s.slot.ctx
  asid := s.asidOf s.cur
  sup := s.sup s.cur
  pfb := s.slot.pfb
  pc := s.slot.pc
  args := args
  vals := []
  pos := 0
  acc := []
  got := []
  start := (s.core (coreOf s.cur)).cycle
  far := []
  fin := none
  late := false
  begun := false
  home := []
  served := []
  out := []
  pts := []
  done := none
  park := none

/-- Register value `i` that a command read at issue. -/
def Cmd.arg (c : Cmd) (i : Nat) : Word64 := (c.args[i]?).getD 0

/-- The tile of a queue number: tile · 8 + (0-3 a core's CE queue, 4 RE, 5 MX). -/
def queueTile (q : Nat) : Nat := q / 8
/-- The commands of a queue. -/
def State.queueOf (s : State) (q : Nat) : List Cmd :=
  let t := queueTile q
  match q % 8 with
  | 4 => (s.tile t).req
  | 5 => (s.tile t).mxq
  | k => (s.core (coreAt t k)).ceq
/-- The commands of a queue replaced. -/
def State.setQueueOf (s : State) (q : Nat) (l : List Cmd) : State :=
  let t := queueTile q
  match q % 8 with
  | 4 => s.setTile t { s.tile t with req := l }
  | 5 => s.setTile t { s.tile t with mxq := l }
  | k => let c := s.core (coreAt t k); s.setCore (coreAt t k) { c with ceq := l }

/-- A command at work: the state, its queue, how many of its RESPs this unit has used, and the bytes of the unit delivered. -/
structure Eng where
  s     : State
  q     : Nat
  cmd   : Cmd
  used  : Nat
  moved : Nat

/-- Why a command's work stops. -/
inductive Stop where
  /-- it ends with a status (R418) -/
  | status (e : Eng) (st : Nat)
  /-- a translation fault parks it (R255) -/
  | fault (e : Eng) (kind : Nat) (a : Acc) (va : Nat)
  /-- its read waits at the home of a line in state C (R190) -/
  | home (e : Eng)
  /-- it waits for a RESP -/
  | wait (e : Eng)

/-- The next free value, taken by a command. -/
def Eng.free (e : Eng) : Word64 × Eng := let (v, s) := e.s.freeVal; (v, { e with s := s })

/-- A line read by a tile's engine (R240): the partition's copy, or the device image. -/
def State.engRead (s : State) (c pa k : Nat) : Nat :=
  let l := lineOf pa
  match (if s.partLine l && !s.isPt l then s.copy c l else none) with
  | some x => sliceBytes x.data (pa % 64) k
  | none => s.memRead pa k

/-- A write within one line by a tile's engine, bytes under a mask (R240, R241, R222). A page with MT 1 is served at its home (R249). -/
def State.engWrite (s : State) (c l : Nat) (unc : Bool) (mask : BitVec 64) (v : BitVec 512) : State :=
  if s.partLine l && !s.isPt l then
    let s1 := s.note l (if unc then 16 else c)
    match s1.copy c l, unc with
    | some x, true => ({ s1 with mem := Mem.writeMask s1.mem (64 * l) v.toNat mask 64 }).setCopy c l { x with data := blend x.data v mask }
    | none, true => { s1 with mem := Mem.writeMask s1.mem (64 * l) v.toNat mask 64 }
    | x, false =>
      let x := x.getD ⟨0, 0, s1.memLine l, 0⟩
      s1.setCopy c l { x with data := blend x.data v mask, dirty := x.dirty ||| mask }
  else s.memWriteMask l mask v

/-- Where an engine's address lies. -/
inductive EngLoc where
  | mem (pa : Nat) (unc mir : Bool)
  | ts (tile off : Nat)
  | far (pkg pa : Nat)
  /-- in a window of SerDes group `g` -/
  | win (g pa : Nat) (unc mir : Bool)
  deriving DecidableEq, Repr

/-- Does the command stand in an engine's queue, so that the answers to its requests reach it (R421)? -/
def Cmd.queued (c : Cmd) : Bool := decide (0x301 ≤ c.op) && decide (c.op ≤ 0x309)

/-- The window in which a command's address lies, with the group, when the group has accepted and answered this access: it is turned into no
fault and no refusal any more (R65). -/
def Eng.answeredWindow (e : Eng) (va : Nat) : Option EngLoc :=
  if !e.cmd.queued || (e.cmd.got[e.used]?).isNone then none
  else match (e.s.cache (queueTile e.q)).find? fun x => x.hits e.cmd.asid.toNat va with
    | some x =>
      let pa := x.pbase + va % 2 ^ x.shift
      (e.s.winOf pa).map fun w => .win w.group pa (fld x.e1 10 9 == 1) (bit x.e1 11)
    | none => none

/-- An address of a command located (R419 Progress, R198, R254, R65). In compact mode the window is the own tile's whole store. -/
def Eng.locate (e : Eng) (win : Bool) (va : Word64) (a : Acc) : Except Stop EngLoc :=
  let t := queueTile e.q
  if win then
    let o := va.toNat
    let u := clusterOfTile t * 48 + o / 2 ^ 20
    let off := o % 2 ^ 20
    if 0x3000000 ≤ o then .error (.status e sPROT)
    else if (e.s.tile t).held.isSome && e.s.compactAt e.cmd.slot then
      (if u = t then .ok (.ts u off) else .error (.status e sPROT))
    else if (e.s.tile u).held.isNone && off < (e.s.tile u).scr.toNat * 65536 then .ok (.ts u off)
    else .error (.status e sPROT)
  else if 2 ^ 48 ≤ va.toNat then .error (.status e sPROT)
  else if deniedBy e.cmd.park a va.toNat then .error (.status e sPROT)
  else match e.answeredWindow va.toNat, e.s.lookup t e.cmd.asid.toNat e.cmd.sup va.toNat a with
    | some l, _ => .ok l
    | none, .fault k =>
      -- a TSC's access that would be posted ends in PROT (R251); a command is refused by a withdrawn window (R65), an MMACR parks there
      -- (R255)
      if isTsc e.cmd.slot then .error (.status e sPROT)
      else if k = 4 && e.q % 8 ≠ 5 then .error (.status e sREFUSED) else .error (.fault e k a va.toNat)
    | none, .unbacked => .error (.status e (if e.q % 8 ≠ 5 && e.s.inDrawn t e.cmd.asid.toNat va.toNat then sREFUSED else sPROT))
    | none, .far pkg pa => .ok (.far pkg pa)
    | none, .here pa unc mir =>
      match (if e.cmd.queued then e.s.winOf pa else none) with
      | some w => .ok (.win w.group pa unc mir)
      | none => .ok (.mem pa unc mir)

/-- A request to another package (R421, R53): sent once, its RESP awaited; the status and data of the RESP. -/
def Eng.request (e : Eng) (pkg : Nat) (r : Request) : Except Stop (List Byte × Eng) :=
  match e.cmd.got[e.used]? with
  | some (st, d) => if st = 0 then .ok (d, { e with used := e.used + 1 }) else .error (.status e st.toNat)
  | none =>
    if e.s.fab.out.any fun q => q.use == .engine e.q then .error (.wait e)
    else if e.s.acceptsReq pkg r e.cmd.slot e.cmd.recAddr then
      .error (.wait { e with s := e.s.acceptReq pkg r (.engine e.q) e.cmd.slot e.cmd.recAddr e.cmd.ctx })
    else .error (.status e (e.s.refusal pkg))

/-- An access of `k` bytes through a window of group `g`: accepted by the group, then its answer awaited (R63, R64); LINKDOWN when the link
fails meanwhile (R66). -/
def Eng.groupRequest (e : Eng) (g k : Nat) : Except Stop Eng :=
  match e.cmd.got[e.used]? with
  | some (st, _) => if st = 0 then .ok { e with used := e.used + 1 } else .error (.status e st.toNat)
  | none =>
    let x := e.s.group g
    if x.work.any fun r => r.1 == e.q then .error (.wait e)
    else if x.takes k then .error (.wait { e with s := e.s.setGroup g { x with work := x.work ++ [(e.q, k)] } })
    else .error (.status e sREFUSED)

/-- A group's answer, of a status, to a command that waits at the head of its queue (R63, R66). -/
def State.answerCmd (s : State) (q st : Nat) : State :=
  match s.queueOf q with
  | c :: r => s.setQueueOf q ({ c with got := c.got ++ [(BitVec.ofNat 8 st, [])] } :: r)
  | [] => s

/-- A read of `k` bytes within one line of this package's address map. -/
def Eng.rdLine (e : Eng) (pa k : Nat) : Except Stop (Nat × Eng) :=
  match e.cmd.served.find? fun v => v.line == lineOf pa with
  | some v => if v.bad then .error (.status e sPOISON) else .ok (sliceBytes v.data (pa % 64) k, e)
  | none =>
    if (Tbl.get? e.s.clines (lineOf pa)).isSome then .error (.home { e with cmd := { e.cmd with home := [lineOf pa] } })
    else if e.s.meetsPoison (clusterOfTile (queueTile e.q)) (lineOf pa) then .error (.status e sPOISON)
    else .ok (e.s.engRead (clusterOfTile (queueTile e.q)) pa k, e)

/-- A read of `k` bytes within one line of this package, or within 4 KiB of another's. -/
def Eng.rdAt (e : Eng) (l : EngLoc) (k : Nat) : Except Stop (Nat × Eng) :=
  match l with
  | .ts t off =>
    if e.s.tsPoison.contains (t * 2 ^ 14 + off / 64) then .error (.status e sPOISON) else .ok (e.s.tsRead t off k, e)
  | .far pkg pa => (e.request pkg (mkRequest 0 0 pa k 0 [])).map fun r => (natOfBytes (r.1.take k), r.2)
  | .mem pa _ _ => e.rdLine pa k
  | .win g pa _ _ => e.groupRequest g k >>= fun e1 => e1.rdLine pa k

/-- The runs of bytes that a mask names: first byte and length. -/
def maskRuns (mask : BitVec 64) : List (Nat × Nat) :=
  (List.range 64).foldl (fun l i =>
    if !bit mask i then l
    else match l.getLast? with
      | some (o, k) => if o + k = i then l.dropLast ++ [(o, k + 1)] else l ++ [(i, 1)]
      | none => [(i, 1)]) []

/-- A write of a line of this package's address map, bytes under a mask. A page-table line's holders get their invalidation, for which the
command waits before it ends (R262). -/
def Eng.wrLine (e : Eng) (pa : Nat) (unc mir : Bool) (mask : BitVec 64) (v : BitVec 512) : Except Stop Eng :=
  let c := clusterOfTile (queueTile e.q)
  let n := lineOf pa
  if (Tbl.get? e.s.clines n).isSome then .error (.status e sHELD)
  else if mask != BitVec.allOnes 64 && e.s.meetsPoison c n then .error (.status e sPOISON)
  else if e.s.mirrorWaits c mir then .error (.wait e)
  else
    let s := ((e.s.engWrite c n unc mask v).mirrored c n mir).ptTouched n
    .ok { e with s := s, cmd := { e.cmd with pts := if s.ptBusy n then insertNat n e.cmd.pts else e.cmd.pts } }

/-- A write of a granule's bytes under a mask; remote ones are acknowledged at `.sys` (R44). `l` is where the granule begins. -/
def Eng.wrMask (e : Eng) (l : EngLoc) (mask : BitVec 64) (v : BitVec 512) : Except Stop Eng :=
  let full := mask == BitVec.allOnes 64
  match l with
  | .ts t off =>
    let g := t * 2 ^ 14 + off / 64
    if !full && e.s.tsPoison.contains g then .error (.status e sPOISON)
    else
      let s := e.s.tsWrite t off 64 (blend (BitVec.ofNat 512 (e.s.tsRead t off 64)) v mask).toNat
      .ok { e with s := if full then { s with tsPoison := s.tsPoison.filter (· != g) } else s }
  | .far pkg pa => (maskRuns mask).foldlM (fun e r =>
    (e.request pkg (mkRequest 1 2 (pa + r.1) r.2 0 (bytesOfNat r.2 (sliceBytes v r.1 r.2)))).map fun x =>
      { x.2 with cmd := { x.2.cmd with far := insertNat pkg x.2.cmd.far } }) e
  | .mem pa unc mir => e.wrLine pa unc mir mask v
  | .win g pa unc mir => e.groupRequest g (popCount mask 64) >>= fun e1 => e1.wrLine pa unc mir mask v

/-- A write of `k` bytes within one line of this package, or within 4 KiB of another's. -/
def Eng.wrAt (e : Eng) (l : EngLoc) (k v : Nat) : Except Stop Eng :=
  let at_ (o : Nat) (x : EngLoc) : Except Stop Eng := e.wrMask x (maskOf o k) (BitVec.ofNat 512 (v <<< (8 * o)))
  match l with
  | .ts t off => at_ (off % 64) (.ts t (off / 64 * 64))
  | .mem pa unc mir => at_ (pa % 64) (.mem (pa / 64 * 64) unc mir)
  | .win g pa unc mir => at_ (pa % 64) (.win g (pa / 64 * 64) unc mir)
  | .far pkg pa => (e.request pkg (mkRequest 1 2 pa k 0 (bytesOfNat k v))).map fun r =>
    { r.2 with cmd := { r.2.cmd with far := insertNat pkg r.2.cmd.far } }

/-- Do a command's writes go out only when its last unit is done, a whole granule at a time (R225, R241)? A COPY's units are whole
granules, and in compact mode one command runs at a time. -/
def Eng.buffers (e : Eng) : Bool := decide (0x302 ≤ e.cmd.op) && decide (e.cmd.op ≤ 0x309) && !e.s.compactAt e.cmd.slot

/-- The command's position of the first byte not yet delivered (R418, R421, R423). -/
def Eng.posn (e : Eng) : Nat := if e.cmd.op = 0x301 || e.cmd.op = 0x302 then e.cmd.pos + e.moved else e.cmd.pos

/-- Bytes within one granule put among those that wait to go out. -/
def Eng.keep (e : Eng) (win : Bool) (va : Word64) (k v : Nat) : Eng :=
  let o := va.toNat % 64
  let base := va - BitVec.ofNat 64 o
  let x := BitVec.ofNat 512 (v <<< (8 * o))
  let mine (p : OutPart) : Bool := p.win == win && p.va == base
  let out : List OutPart :=
    if e.cmd.out.any mine then
      e.cmd.out.map fun p => if mine p then { p with mask := p.mask ||| maskOf o k, data := blend p.data x (maskOf o k) } else p
    else e.cmd.out ++ [⟨win, base, maskOf o k, x, e.posn⟩]
  { e with cmd := { e.cmd with out := out } }

/-- Bytes read within one granule, with what the command itself has to write there. -/
def Eng.overlay (e : Eng) (win : Bool) (va : Word64) (k v : Nat) : Nat :=
  let o := va.toNat % 64
  match e.cmd.out.find? fun p => p.win == win && p.va == va - BitVec.ofNat 64 o with
  | some p => sliceBytes (blend (BitVec.ofNat 512 (v <<< (8 * o))) p.data p.mask) o k
  | none => v

/-- `k` bytes read from `va`: line by line in this package, in one request on a REM page. `n` bounds the pieces. -/
def Eng.rd (e : Eng) (win : Bool) (va : Word64) (k : Nat) : Nat → Except Stop (Nat × Eng)
  | 0 => .ok (0, e)
  | n + 1 =>
    if k = 0 then .ok (0, e)
    else do
      let l ← e.locate win va .engRead
      let far := match l with
        | .far _ _ => true
        | _ => false
      let p := if far then min k (4096 - va.toNat % 4096) else min k (64 - va.toNat % 64)
      let (v0, e1) ← e.rdAt l p
      let v := if far then v0 else e1.overlay win va p v0
      let (u, e2) ← Eng.rd e1 win (va + BitVec.ofNat 64 p) (k - p) n
      .ok (v + u <<< (8 * p), e2)

/-- `k` bytes written to `va`; `moved` counts what has been delivered. -/
def Eng.wr (e : Eng) (win : Bool) (va : Word64) (k v : Nat) : Nat → Except Stop Eng
  | 0 => .ok e
  | n + 1 =>
    if k = 0 then .ok e
    else do
      let l ← e.locate win va .engWrite
      let far := match l with
        | .far _ _ => true
        | _ => false
      let p := if far then min k (4096 - va.toNat % 4096) else min k (64 - va.toNat % 64)
      let e1 ← if e.buffers && !far then .ok (e.keep win va p (v % 2 ^ (8 * p))) else e.wrAt l p (v % 2 ^ (8 * p))
      Eng.wr { e1 with moved := e1.moved + p } win (va + BitVec.ofNat 64 p) (k - p) (v >>> (8 * p)) n

/-- The command's oldest granule goes out (R241). A SCATTER's row meets the owner's own conditions (R423). -/
def Eng.flushOne (e : Eng) : Except Stop Eng :=
  match e.cmd.out with
  | [] => .ok e
  | p :: r =>
    let owner := clusterOfTile (queueTile e.q) * 48 + p.va.toNat / 2 ^ 20
    if e.cmd.op = 0x304 && (e.s.tile owner).held.isSome then .error (.status e sHELD)
    else do
      let l ← e.locate p.win p.va .engWrite
      let e1 ← e.wrMask l p.mask p.data
      .ok { e1 with cmd := { e1.cmd with out := r, got := [], park := none }, used := 0 }

/-- `n` of them. -/
def Eng.flush (e : Eng) : Nat → Except Stop Eng
  | 0 => .ok e
  | n + 1 => do
    let e1 ← e.flushOne
    e1.flush n

/-- An aligned word of `k` ≤ 8 bytes. -/
def Eng.word (e : Eng) (win : Bool) (va : Word64) (k : Nat) : Except Stop (Nat × Eng) := e.rd win va k 2

/-- Does the address lie on a REM page? A fault or a refused address does not. -/
def Eng.isFar (e : Eng) (win : Bool) (va : Word64) (a : Acc) : Bool :=
  match e.locate win va a with
  | .ok (.far _ _) => true
  | _ => false

/-- The fault message and the back-off of a parked command (R255, R257); `eng` is 1 CE, 2 RE, 3 MX. -/
def State.parkCmd (s : State) (c : Cmd) (eng kind : Nat) (a : Acc) (va : Nat) : State × Cmd :=
  let old := c.park.filter fun p => p.isFor a va
  let tries := (old.map Park.tries).getD 0 + 1
  let out := (old.map Park.out).getD false
  let tag := s.xl.tag
  let m := faultMsg kind a.code (!c.sup) va c.asid.toNat c.slot eng tag.toNat c.pc
  let (s1, took) := if out then (s, false) else { s with xl := { s.xl with tag := tag + 1 } }.postMsg (clusterOf c.slot) m
  (s1, { c with park := some ⟨kind, a.code, BitVec.ofNat 48 va, if took then tag else (old.map Park.tag).getD tag, tries,
    s.time.cyc + backoff tries (fld c.pfb 4 0), out || took, false, eng⟩ })

/-- A status word on its way to its register (R140, R419): in compact mode it lands at phase cycle `due`. -/
def State.landCmd (s : State) (c : Cmd) (due : Nat) (v : Word64) : State :=
  if s.compactAt c.slot then
    s.modSlot c.slot fun x => { x with late := x.late ++ [⟨due, .s (num c.w.d) v, c.start⟩] }
  else { s with landings := s.landings ++ [⟨c.slot, num c.w.d, c.recAddr, c.ctx, c.asid, v⟩] }

/-! Tile semaphores (R161, R162). -/

/-- The first waiter of a tile, in the order in which the waits began, that its semaphore's count suffices for. -/
def State.semReady (s : State) (t i : Nat) : Option SemWait :=
  (s.tile t).semw.find? fun e => e.sem == i && decide (e.n ≤ s.semVal t i)

/-- A waiter removed. -/
def State.semLeave (s : State) (t who : Nat) : State :=
  let x := s.tile t
  s.setTile t { x with semw := x.semw.filter fun e => e.who != who }

/-- Semaphore `i` of a tile has been incremented in a phase cycle (R162). -/
def State.semMark (s : State) (t i cyc : Nat) : State :=
  let x := s.tile t
  s.setTile t { x with semAt := x.semAt.setIfInBounds i (max cyc ((x.semAt[i]?).getD 0)) }

/-- A wait for `n` of semaphore `i` by `who`: taken at once when the count suffices and no earlier waiter could complete first,
otherwise entered in the order of waits. -/
def State.semTry (s : State) (t i n who : Nat) (w : Ins) : Option State × State :=
  if n = 0 then (some s, s)
  else
    let first := match s.semReady t i with
      | some e => e.who == who
      | none => !(s.tile t).semw.any fun e => e.who == who
    if first && decide (n ≤ s.semVal t i) then (some ((s.semPut t i (s.semVal t i - n)).semLeave t who), s)
    else
      let x := s.tile t
      (none, if x.semw.any fun e => e.who == who then s else s.setTile t { x with semw := x.semw ++ [⟨i, who, n, w⟩] })

/-- The state with another slot current, for a move that acts for that slot. -/
def State.asSlot (s : State) (n : Nat) (f : State → State) : State := { f { s with cur := n } with cur := s.cur }

end Sys2Proof.Machine
end

