-- ==== Sys2Proof/Machine/Vector.lean ====
section
/-! DEFINITION. Vector arithmetic, reductions, lane movement, tags and conversion: groups 8 and 9 and the tag and conversion part
of group A (17_isa_vector R384-R395). -/

namespace Sys2Proof.Machine
open Sys2Proof

/-- The carrier's format (R383). -/
def vFmt (w : Ins) : Fmt := Forms.fmtOf (mods w.d)
/-- `.any` of the carrier. -/
def vAny (w : Ins) : Bool := Forms.anyOf (mods w.d)
/-- The mask that A's modifier bits name (R382). -/
def Slot.maskA (x : Slot) (w : Ins) : Word64 := x.getM (maskNum (mods w.a))

/-- Accepts one format. -/
def only (f : Fmt) : Fmt → Bool := fun g => g == f

/-- The sources A and, when it is a v-register, B, checked against `f`. -/
def srcAB (w : Ins) (f : Fmt) : List VSrc :=
  ⟨1, num w.a, only f⟩ :: (if isV w.b then [⟨2, num w.b, only f⟩] else [])

/-- The element-wise procedure of R384: `op` on the elements of A, B and D; `readsD` for VFMA. -/
def elemRun (w : Ins) (lat : Nat) (hasB readsD : Bool) (op : Fmt → Nat → Nat → Nat → Nat × Flags) (s : State) : Res :=
  let f := vFmt w
  let c := f.container
  let m := mods w.a
  let srcs := if hasB then srcAB w f else [⟨1, num w.a, only f⟩]
  vecRun w (vAny w) srcs (if readsD || mergesD m then some (only f) else none) (some (some f)) none (fun s =>
    let x := s.slot
    let a := (x.seeV (num w.a)).val
    let d := (x.getV (num w.d)).val
    let mask := x.maskA w
    let one (e : Nat) : Nat × Flags := op f (elem c a e) (if hasB then bElem x c w.b e else 0) (if readsD then elem c d e else 0)
    let n := 32 / c
    let lane (i : Nat) : Nat × Flags :=
      let rs := (List.range n).map fun j => one (n * i + j)
      (packElems c (rs.map Prod.fst), rs.foldl (fun g r => g ||| r.2) 0)
    let ls := (List.range 64).map lane
    let at' (i : Nat) : Nat × Flags := (ls[i]?).getD (0, 0)
    vecDone s lat (.v (num w.d) ⟨some f, maskLanes mask (maskZ m) d fun i => (at' i).1⟩) (maskFlags mask fun i => (at' i).2) mask) s

/-- An integer result of format `f`: clamped under SAT, else modulo 2^c (R288). -/
def intElem (f : Fmt) (sat : Bool) (r : Int) : Nat :=
  let (lo, hi) := intRange f
  encIntPat f (if sat then max lo (min hi r) else r)

/-- SAT, OTH[8] of the carrier. -/
def vSat (w : Ins) : Bool := bit (mods w.d) 0

/-- An arithmetic element operation: on values for floats, on integers otherwise (R384). -/
def arith (sat : Bool) (fl : FVal → FVal → FVal → FVal × Flags) (it : Int → Int → Int → Int) (f : Fmt) (a b d : Nat) : Nat × Flags :=
  if f.isInt then (intElem f sat (it (decInt f a) (decInt f b) (decInt f d)), 0)
  else rnd f (fl (decFp f false a) (decFp f false b) (decFp f false d))

/-- VMIN and VMAX (R385, R340). -/
def minMaxElem (least : Bool) (f : Fmt) (a b _d : Nat) : Nat × Flags :=
  if f.isInt then
    let x := decInt f a
    let y := decInt f b
    (if (if least then decide (x ≤ y) else decide (y ≤ x)) then a else b, 0)
  else fMinMax f least a b

/-- VABS and VNEG: a NaN gives the canonical NaN, a signalling one NV; the sign alone changes otherwise (R385). -/
def signElem (neg sat : Bool) (f : Fmt) (a _b _d : Nat) : Nat × Flags :=
  if f.isInt then
    let x := decInt f a
    (intElem f sat (if neg then -x else x.natAbs), 0)
  else
    let v := decFp f false a
    let sg := signBit f
    if v.isNaN then (canonNaN f, sigFlags [v])
    else (if neg then (if sg ≤ a then a - sg else a + sg) else a % sg, 0)

/-- VADD (R385). -/
def execVadd (w : Ins) (s : State) : Host.Outcome State Fault Refusal :=
  run (.vadd w) w false false (elemRun w 8 true false (arith (vSat w) (fun a b _ => vAdd a b) fun a b _ => a + b)) s
/-- VSUB (R385). -/
def execVsub (w : Ins) (s : State) : Host.Outcome State Fault Refusal :=
  run (.vsub w) w false false (elemRun w 8 true false (arith (vSat w) (fun a b _ => vAdd a b.negate) fun a b _ => a - b)) s
/-- VMUL (R385). -/
def execVmul (w : Ins) (s : State) : Host.Outcome State Fault Refusal :=
  run (.vmul w) w false false (elemRun w 8 true false (arith (vSat w) (fun a b _ => vMul a b) fun a b _ => a * b)) s
/-- VFMA: one rounding; D is checked and read (R385). -/
def execVfma (w : Ins) (s : State) : Host.Outcome State Fault Refusal :=
  run (.vfma w) w false false (elemRun w 8 true true (arith (vSat w) vFma fun a b d => a * b + d)) s
/-- VMIN (R385). -/
def execVmin (w : Ins) (s : State) : Host.Outcome State Fault Refusal :=
  run (.vmin w) w false false (elemRun w 8 true false (minMaxElem true)) s
/-- VMAX (R385). -/
def execVmax (w : Ins) (s : State) : Host.Outcome State Fault Refusal :=
  run (.vmax w) w false false (elemRun w 8 true false (minMaxElem false)) s
/-- VABS (R385). -/
def execVabs (w : Ins) (s : State) : Host.Outcome State Fault Refusal :=
  run (.vabs w) w false false (elemRun w 8 false false (signElem false (vSat w))) s
/-- VNEG (R385). -/
def execVneg (w : Ins) (s : State) : Host.Outcome State Fault Refusal :=
  run (.vneg w) w false false (elemRun w 8 false false (signElem true (vSat w))) s
/-- VAND (R385): bitwise, no flags. -/
def execVand (w : Ins) (s : State) : Host.Outcome State Fault Refusal :=
  run (.vand w) w false false (elemRun w 8 true false fun _ a b _ => (a &&& b, 0)) s
/-- VOR (R385). -/
def execVor (w : Ins) (s : State) : Host.Outcome State Fault Refusal :=
  run (.vor w) w false false (elemRun w 8 true false fun _ a b _ => (a ||| b, 0)) s
/-- VXOR (R385). -/
def execVxor (w : Ins) (s : State) : Host.Outcome State Fault Refusal :=
  run (.vxor w) w false false (elemRun w 8 true false fun _ a b _ => (a ^^^ b, 0)) s
/-- VSHL: a · 2^n, n = b mod c (R385). -/
def execVshl (w : Ins) (s : State) : Host.Outcome State Fault Refusal :=
  run (.vshl w) w false false (elemRun w 8 true false fun f a b _ =>
    (intElem f (vSat w) (decInt f a * 2 ^ (b % f.container)), 0)) s
/-- VSHR: unsigned (R385). -/
def execVshr (w : Ins) (s : State) : Host.Outcome State Fault Refusal :=
  run (.vshr w) w false false (elemRun w 8 true false fun f a b _ => (a >>> (b % f.container), 0)) s
/-- VSAR: signed, toward minus infinity (R385). -/
def execVsar (w : Ins) (s : State) : Host.Outcome State Fault Refusal :=
  run (.vsar w) w false false (elemRun w 8 true false fun f a b _ =>
    let c := f.container
    let x : Int := if a.testBit (c - 1) then (a : Int) - 2 ^ c else a
    (encIntPat f (x / 2 ^ (b % c)), 0)) s

/-- VCMP (R386): a mask; inactive bits by Z. -/
def vcmpBody (w : Ins) (s : State) : Res :=
  let f := vFmt w
  let m := mods w.a
  let cond := fld (mods w.d) 2 0
  vecRun w (vAny w) (srcAB w f) none none none (fun s =>
    let x := s.slot
    let a := (x.seeV (num w.a)).val
    let mask := x.maskA w
    let cmp (i : Nat) : Bool × Flags :=
      let p := elem 32 a i
      let q := bElem x 32 w.b i
      if f.isInt then (intCond cond (decInt f p) (decInt f q), 0) else fCmp cond (decFp f false p) (decFp f false q)
    let old := x.getM (num w.d)
    let r := (List.range 64).foldl (fun (acc : Nat) i =>
      acc + (if (if bit mask i then (cmp i).1 else (!maskZ m && bit old i)) then 2 ^ i else 0)) 0
    vecDone s 8 (.m (num w.d) (BitVec.ofNat 64 r)) (maskFlags mask fun i => (cmp i).2) mask) s

/-- VSEL (R386): the mask selects A or B; every lane is written. -/
def vselBody (w : Ins) (s : State) : Res :=
  let f := vFmt w
  let c := f.container
  vecRun w (vAny w) (srcAB w f) none (some (some f)) none (fun s =>
    let x := s.slot
    let a := (x.seeV (num w.a)).val
    let mask := x.maskA w
    let n := 32 / c
    let lane (i : Nat) : Nat :=
      if bit mask i then laneOf a i else packElems c ((List.range n).map fun j => bElem x c w.b (n * i + j))
    vecDone s 8 (.v (num w.d) ⟨some f, ofLanes ((List.range 64).map lane)⟩) 0 (BitVec.allOnes 64)) s

/-! Reductions and scans (R293, R387-R389). -/

/-- The step of a reduction: 0 add, 1 min, 2 max, 3 and, 4 or, 5 xor (R387). -/
def redOp (f : Fmt) (op : Nat) (a b : Nat) : Nat × Flags :=
  match op with
  | 0 => if f.isInt then ((a + b) % 2 ^ 32, 0) else rnd f (vAdd (decFp f false a) (decFp f false b))
  | 1 => minMaxElem true f a b 0
  | 2 => minMaxElem false f a b 0
  | 3 => (a &&& b, 0)
  | 4 => (a ||| b, 0)
  | _ => (a ^^^ b, 0)

/-- The identity of a reduction (R293). -/
def redId (f : Fmt) (op : Nat) : Nat :=
  match op with
  | 0 => if f.isInt then 0 else 0x80000000
  | 1 => if f.isInt then encIntPat f (intRange f).2 else 0x7F800000
  | 2 => if f.isInt then encIntPat f (intRange f).1 else 0xFF800000
  | 3 => 0xFFFFFFFF
  | _ => 0

/-- One step of the reduction tree: lane i < w takes op(a[i], a[i + w]) (R293). -/
def redStep (f : Fmt) (op w : Nat) (l : List Nat × Flags) : List Nat × Flags :=
  let rs := (List.range w).map fun i => redOp f op ((l.1[i]?).getD 0) ((l.1[i + w]?).getD 0)
  (rs.map Prod.fst, rs.foldl (fun g r => g ||| r.2) l.2)

/-- The lanes of A under the mask, the identity elsewhere. -/
def activeLanes (f : Fmt) (op : Nat) (a : BitVec 2048) (mask : Word64) : List Nat :=
  (List.range 64).map fun i => if bit mask i then laneOf a i else redId f op

/-- VRED (R387). -/
def vredBody (w : Ins) (s : State) : Res :=
  let f := vFmt w
  let op := fld (mods w.d) 2 0
  vecRun w (vAny w) [⟨1, num w.a, only f⟩] none none none (fun s =>
    let x := s.slot
    let l := activeLanes f op (x.seeV (num w.a)).val (x.maskA w)
    let (r, fl) := [32, 16, 8, 4, 2, 1].foldl (fun acc k => redStep f op k acc) (l, 0)
    let v := BitVec.ofNat 64 (r.headD 0)
    vecDone s 14 (.s (num w.d) (if f.isI then sext v 32 else v)) fl 0) s

/-- One step of the scan tree (R388). -/
def scanStep (f : Fmt) (op w : Nat) (l : List Nat × Flags) : List Nat × Flags :=
  let rs := (List.range 64).map fun i =>
    if w ≤ i then redOp f op ((l.1[i - w]?).getD 0) ((l.1[i]?).getD 0) else ((l.1[i]?).getD 0, 0)
  (rs.map Prod.fst, rs.foldl (fun g r => g ||| r.2) l.2)

/-- VSCAN (R388). -/
def vscanBody (w : Ins) (s : State) : Res :=
  let f := vFmt w
  let op := fld (mods w.d) 2 0
  let exc := bit (mods w.d) 3
  let m := mods w.a
  vecRun w (vAny w) [⟨1, num w.a, only f⟩] (if mergesD m then some (only f) else none) (some (some f)) none (fun s =>
    let x := s.slot
    let mask := x.maskA w
    let l := activeLanes f op (x.seeV (num w.a)).val mask
    let (r, fl) := [1, 2, 4, 8, 16, 32].foldl (fun acc k => scanStep f op k acc) (l, 0)
    let r := if exc then redId f op :: r else r
    vecDone s 14 (.v (num w.d) ⟨some f, maskLanes mask (maskZ m) (x.getV (num w.d)).val fun i => (r[i]?).getD 0⟩) fl mask) s

/-- VAMAX: the largest magnitude of the active elements, in f32 (R389). -/
def vamaxBody (w : Ins) (s : State) : Res :=
  let f := vFmt w
  let c := f.container
  vecRun w (vAny w) [⟨1, num w.a, only f⟩] none none none (fun s =>
    let x := s.slot
    let a := (x.seeV (num w.a)).val
    let mask := x.maskA w
    let vs := ((List.range (2048 / c)).filter fun e => bit mask (e * c / 32)).map fun e => decFp f false (elem c a e)
    let r := if vs.any FVal.isNaN then 0x7FC00000
      else (encFp .f32 rneOpt (vs.foldl (fun b v => if vLt b v.abs then v.abs else b) (.fin false 0 1))).1
    vecDone s 14 (.s (num w.d) (BitVec.ofNat 64 r)) (sigFlags vs) 0) s

/-! Lane movement (R390). -/

/-- Accepts any valid tag. -/
def anyFmt : Fmt → Bool := fun _ => true

/-- The tag that moved lanes carry: A's, or invalid under `.any`. -/
def movedTag (w : Ins) (x : Slot) : Option Fmt := if vAny w then none else (x.seeV (num w.a)).tag

/-- VPERM and VSLIDE: D read under a merge must carry A's tag (R390). -/
def moveBody (w : Ins) (srcs : List VSrc) (from' : Slot → Nat → Option Nat) (s : State) : Res :=
  let m := mods w.a
  let at0 := (s.slot.seeV (num w.a)).tag
  vecRun w (vAny w) (⟨1, num w.a, anyFmt⟩ :: srcs) (if mergesD m then some (fun f => some f == at0) else none)
    (some (movedTag w s.slot)) none (fun s =>
    let x := s.slot
    let a := (x.seeV (num w.a)).val
    let mask := x.maskA w
    let lane (i : Nat) : Nat := match from' x i with
      | some j => laneOf a j
      | none => 0
    vecDone s 8 (.v (num w.d) ⟨movedTag w x, maskLanes mask (maskZ m) (x.getV (num w.d)).val lane⟩) 0 mask) s

/-- VPERM. -/
def vpermBody (w : Ins) (s : State) : Res :=
  moveBody w [⟨2, num w.b, fun f => f == .i32 || f == .z32⟩] (fun x i => some (laneOf (x.seeV (num w.b)).val i % 64)) s

/-- VSLIDE: lane i + s, or zero past the ends; `.rot` modulo 64. -/
def vslideBody (w : Ins) (s : State) : Res :=
  moveBody w [] (fun x i =>
    let k := (i : Int) + (x.opS w.b).toInt
    if bit (mods w.d) 0 then some (k % 64).toNat
    else if 0 ≤ k && k ≤ 63 then some k.toNat else none) s

/-- VEXT. -/
def vextBody (w : Ins) (s : State) : Res :=
  let i := (s.slot.opU w.b).toNat
  vecRun w (vAny w) [⟨1, num w.a, anyFmt⟩] none none (if 63 < i then some (i % 2 ^ 48) else none) (fun s =>
    vecDone s 8 (.s (num w.d) (BitVec.ofNat 64 (laneOf (s.slot.seeV (num w.a)).val i))) 0 0) s

/-- VINS: one lane of D replaced; its tag kept. -/
def vinsBody (w : Ins) (s : State) : Res :=
  let i := (s.slot.opU w.b).toNat
  vecRun w (vAny w) [] (some anyFmt) (some (s.slot.getV (num w.d)).tag) (if 63 < i then some (i % 2 ^ 48) else none) (fun s =>
    let x := s.slot
    let d := x.getV (num w.d)
    let v := (x.getS (num w.a)).toNat % 2 ^ 32
    vecDone s 8 (.v (num w.d) ⟨d.tag, ofLanes ((List.range 64).map fun j => if j = i then v else laneOf d.val j)⟩) 0 0) s

/-- VBCAST: every element the low c bits of A. -/
def vbcastBody (w : Ins) (s : State) : Res :=
  let f := vFmt w
  let c := f.container
  vecRun w false [] none (some (some f)) none (fun s =>
    let v := (s.slot.opS w.a).toNat % 2 ^ c
    vecDone s 8 (.v (num w.d) ⟨some f, BitVec.ofNat 2048 (packElems c (List.replicate (2048 / c) v))⟩) 0 (BitVec.allOnes 64)) s

/-! Dot products and transcendentals (R391, R392). -/

/-- VDOT4's exact sum of products, D a fifth product (R391, R292). -/
def dot4 (src : Fmt) (a b : List Nat) (d : FVal) : FVal × Flags :=
  (a.zip b).foldl (fun acc p =>
    let (v, f1) := vMul (decFp src false p.1) (decFp src false p.2)
    let (r, f2) := vAdd acc.1 v
    (r, acc.2 ||| f1 ||| f2)) (d, sigFlags [d])

/-- VDOT4 (R391). -/
def vdot4Body (w : Ins) (s : State) : Res :=
  let acc := vFmt w
  let src := Forms.fmtOf (mods w.a)
  let m := mods w.a
  let srcs : List VSrc := ⟨1, num w.a, only src⟩ :: (if isV w.b then [⟨2, num w.b, only src⟩] else [])
  vecRun w (vAny w) srcs (some (only acc)) (some (some acc)) none (fun s =>
    let x := s.slot
    let a := (x.seeV (num w.a)).val
    let d := (x.getV (num w.d)).val
    let mask := x.maskA w
    let lane (i : Nat) : Nat × Flags :=
      let as := (List.range 4).map fun j => elem 8 a (4 * i + j)
      let bs := (List.range 4).map fun j => bElem x 8 w.b (4 * i + j)
      if acc.isInt then
        (intElem acc (vSat w) ((as.zip bs).foldl (fun t p => t + decInt src p.1 * decInt src p.2) (decInt acc (laneOf d i))), 0)
      else rnd acc (dot4 src as bs (decFp acc false (laneOf d i)))
    vecDone s 8 (.v (num w.d) ⟨some acc, maskLanes mask (maskZ m) d fun i => (lane i).1⟩) (maskFlags mask fun i => (lane i).2) mask) s

/-- A transcendental element (R392). -/
def transElem (fn : FVal → FVal × Flags) (f : Fmt) (a _b _d : Nat) : Nat × Flags := rnd f (fn (decFp f false a))

/-! Tags and conversion (R393-R395). -/

/-- VTAG (R393): a v- or t-register's tag set or cleared, its bits kept. -/
def vtagBody (w : Ins) (s : State) : Res :=
  let t : Option Fmt := if bit (mods w.d) 0 then none else some (vFmt w)
  let n := num w.d
  if Forms.isCls 2 w.d then
    vecRun w true [] (some anyFmt) (some t) none (fun s => vecDone s 8 (.v n ⟨t, (s.slot.getV n).val⟩) 0 0) s
  else
    vecRun w true [] none none none (fun s => vecDone s 8 (.t n { s.slot.getT n with tag := t, prog := 0 }) 0 0) s

/-- VGTAG (R393). -/
def vgtagBody (w : Ins) (s : State) : Res :=
  if isV w.a then
    vecRun w true [⟨1, num w.a, anyFmt⟩] none none none (fun s =>
      vecDone s 8 (.s (num w.d) (BitVec.ofNat 64 (tagByte (s.slot.seeV (num w.a)).tag))) 0 0) s
  else vecRun w true [] none none none (fun s =>
    vecDone s 8 (.s (num w.d) (BitVec.ofNat 64 (tagByte (s.slot.getT (num w.a)).tag))) 0 0) s

/-- One element converted into a block-scaled format with companion `c` (R277). An i8.zp element is the integer the value rounds to,
its code a zero point above it (R274), and an integer source wraps (R283). An element divided by a b32.i8 scale is a fraction
whatever its source: it is rounded and saturated as a float is (R277, R282). [DEDUCED: log 114] -/
def encodeBlock (tgt : Fmt) (o : CvtOpt) (fromInt : Bool) (c : Nat) (v : FVal) : Nat × Flags :=
  if tgt == .i8zp then encIntAt .i8 o fromInt (decInt .i8 c) v
  else
    match blockScale tgt c with
    | .nan _ => encode tgt o false (.nan false)
    | .fin _ 0 _ => (0, (if v.isNaN then fNV else if v.isZero then 0 else fNX))
    | sc => encode tgt o false (vDiv v sc).1

/-- One element converted by VCVT; `comp` is its companion when the source or the target is block-scaled (R394, R395). -/
def vcvtElem (src tgt : Fmt) (o : CvtOpt) (comp bits : Nat) : Nat × Flags :=
  let nm := o.nan && tgt.element == .f8e4
  if src.isBlock then
    let v := scaled nm src bits comp
    let (r, fl) := encode tgt o (src == .i8zp) v
    (r, fl ||| sigFlags [v])
  else if tgt.isBlock then
    let v := decode src nm bits
    let (r, fl) := encodeBlock tgt o (src.isInt || src == .tern) comp v
    (r, fl ||| sigFlags [v] ||| (if src == .tern && bits % 4 == 2 then fNV else 0))
  else cvtElem src tgt o bits

/-- VCVT (R394, R395). -/
def vcvtBody (w : Ins) (s : State) : Res :=
  let tgt := vFmt w
  let src := Forms.fmtOf (mods w.a)
  let m := mods w.a
  let part := fld m 4 3
  let ct := tgt.container
  let cs := src.container
  let blk := src.isBlock || tgt.isBlock
  let bf := if src.isBlock then src else tgt
  let sr := bit (mods w.d) 3
  let srcs : List VSrc := ⟨1, num w.a, only src⟩ :: (if blk then [⟨2, num w.b, only bf.companion⟩] else [])
  let keeps := (decide (src.count < tgt.count) && part != 0) || mergesD m
  vecRun w (vAny w) srcs (if keeps then some (only tgt) else none) (some (some tgt)) none (fun s =>
    let x := s.slot
    let a := (x.seeV (num w.a)).val
    let d := (x.getV (num w.d)).val
    let comps := (x.seeV (num w.b)).val
    let mask := x.maskA w
    -- the converted range of target elements, and the source element of each
    let (lo, n) := if src.count < tgt.count then (part * src.count, src.count) else (0, tgt.count)
    let srcOf (e : Nat) : Nat := if src.count < tgt.count then e - lo else if tgt.count < src.count then e + part * tgt.count else e
    let per := max 1 (32 / ct)
    let one (e : Nat) : Nat × Flags :=
      let se := srcOf e
      let k := if src.isBlock then se else e
      let comp := elem 8 comps (k / bf.block)
      let lane := e * ct / 32
      let st := if sr then srSteps (srSeed (x.opS w.b).toNat lane) (32 * (e % per + 1)) else 0
      let bits := elem cs a se
      vcvtElem src tgt (cvtOpt (mods w.d) st) comp (bits % 2 ^ src.memBits)
    let rs := (List.range n).map fun i => one (lo + i)
    let conv := packElems ct (rs.map Prod.fst) <<< (lo * ct)
    let lane0 := lo * ct / 32
    let lanes := n * ct / 32
    let cb : BitVec 2048 := BitVec.ofNat 2048 conv
    let laneR (i : Nat) : Nat :=
      if lane0 ≤ i && i < lane0 + lanes then
        (if bit mask i then laneOf cb i else if maskZ m then 0 else laneOf d i)
      else if part = 0 then 0 else laneOf d i
    let fl := (List.range n).foldl (fun g i =>
      let b := (lo + i) * ct / 32
      let on := bit mask b || (ct == 64 && bit mask (b + 1))
      if on then g ||| ((rs[i]?).getD (0, 0)).2 else g) 0
    vecDone s 8 (.v (num w.d) ⟨some tgt, ofLanes ((List.range 64).map laneR)⟩) fl (BitVec.allOnes 64)) s

/-- VCMP (R386). -/
def execVcmp (w : Ins) (s : State) : Host.Outcome State Fault Refusal := run (.vcmp w) w false false (vcmpBody w) s
/-- VSEL (R386). -/
def execVsel (w : Ins) (s : State) : Host.Outcome State Fault Refusal := run (.vsel w) w false false (vselBody w) s
/-- VRED (R387). -/
def execVred (w : Ins) (s : State) : Host.Outcome State Fault Refusal := run (.vred w) w false false (vredBody w) s
/-- VSCAN (R388). -/
def execVscan (w : Ins) (s : State) : Host.Outcome State Fault Refusal := run (.vscan w) w false false (vscanBody w) s
/-- VPERM (R390). -/
def execVperm (w : Ins) (s : State) : Host.Outcome State Fault Refusal := run (.vperm w) w false false (vpermBody w) s
/-- VSLIDE (R390). -/
def execVslide (w : Ins) (s : State) : Host.Outcome State Fault Refusal := run (.vslide w) w false false (vslideBody w) s
/-- VEXP (R392). -/
def execVexp (w : Ins) (s : State) : Host.Outcome State Fault Refusal :=
  run (.vexp w) w false false (elemRun w 12 false false (transElem vExp2)) s
/-- VRCP (R392). -/
def execVrcp (w : Ins) (s : State) : Host.Outcome State Fault Refusal :=
  run (.vrcp w) w false false (elemRun w 12 false false (transElem vRcp)) s
/-- VRSQ (R392). -/
def execVrsq (w : Ins) (s : State) : Host.Outcome State Fault Refusal :=
  run (.vrsq w) w false false (elemRun w 12 false false (transElem vRsq)) s
/-- VLOG (R392). -/
def execVlog (w : Ins) (s : State) : Host.Outcome State Fault Refusal :=
  run (.vlog w) w false false (elemRun w 12 false false (transElem vLog2)) s
/-- VDOT4 (R391). -/
def execVdot4 (w : Ins) (s : State) : Host.Outcome State Fault Refusal := run (.vdot4 w) w false false (vdot4Body w) s
/-- VEXT (R390). -/
def execVext (w : Ins) (s : State) : Host.Outcome State Fault Refusal := run (.vext w) w false false (vextBody w) s
/-- VINS (R390). -/
def execVins (w : Ins) (s : State) : Host.Outcome State Fault Refusal := run (.vins w) w false false (vinsBody w) s
/-- VAMAX (R389). -/
def execVamax (w : Ins) (s : State) : Host.Outcome State Fault Refusal := run (.vamax w) w false false (vamaxBody w) s
/-- VBCAST (R390). -/
def execVbcast (w : Ins) (s : State) : Host.Outcome State Fault Refusal := run (.vbcast w) w false false (vbcastBody w) s
/-- VCVT (R394). -/
def execVcvt (w : Ins) (s : State) : Host.Outcome State Fault Refusal := run (.vcvt w) w false false (vcvtBody w) s
/-- VTAG (R393). -/
def execVtag (w : Ins) (s : State) : Host.Outcome State Fault Refusal := run (.vtag w) w false false (vtagBody w) s
/-- VGTAG (R393). -/
def execVgtag (w : Ins) (s : State) : Host.Outcome State Fault Refusal := run (.vgtag w) w false false (vgtagBody w) s

end Sys2Proof.Machine
end

