-- ==== Sys2Proof/Machine/Matrix.lean ====
section
/-! DEFINITION. Matrix instructions and tile semaphores, group B (18 R404-R417, 07 R157-R161). The instruction checks and queues;
the move MX_OP_START runs the head of a tile's MX queue. -/

namespace Sys2Proof.Machine
open Sys2Proof

/-- Is the tile's MX queue full (R151)? -/
def State.mxFull (s : State) : Bool := decide (8 ≤ (s.tile (tileOf s.cur)).mxq.length)

/-- Registers marked busy while a queued operation uses them (free mode, R145). -/
def Slot.markOp (x : Slot) (w : Ins) (pair on : Bool) : Slot :=
  let t (o : Operand) (b : BitVec 2) : BitVec 2 := if Forms.isCls 4 o then setBit b (num o) on else b
  let v := if isV w.a then setBit x.busyV (num w.a) on else x.busyV
  let v := if isV w.a && pair then setBit v (num w.a + 1) on else v
  { x with busyT := t w.a (t w.d x.busyT), busyV := v }

/-- An operation enters the MX queue (R159); a full one holds the slot or, in compact mode, the core (R152). -/
def mxPut (s : State) (c : Cmd) (pair : Bool) (s' : State → State := id) : Res :=
  if s.mxFull then .hold (s.waitFor .full)
  else
    let t := tileOf s.cur
    let s1 := s' (s.setTile t { s.tile t with mxq := (s.tile t).mxq ++ [c] })
    .ok (if s.compact then s1 else s1.modSlot s.cur fun x => x.markOp c.w pair true)

/-- In compact mode, does [o, o + n) leave the own tile store: a mode restriction, which comes before every other check (R181, R329)? -/
def State.tsOut (s : State) (o : Word64) (n : Nat) : Bool := s.compact && decide (2 ^ 20 < o.toNat + n)

/-- A TS offset of kind 10 checked at issue (R408): alignment, extent in the own tile store, in free mode inside the scratch
partition; then poison of what is read (R179). -/
def tsCheck (s : State) (o : Word64) (n : Nat) (reads : Bool) (ok : Nat → Res) : Res :=
  let t := tileOf s.cur
  let lim := if s.compact then 2 ^ 20 else if (s.tile t).held.isNone then (s.tile t).scr.toNat * 65536 else 0
  if s.tsOut o n then .trap .prot (infoAddr o)
  else if o.toNat % 64 ≠ 0 then .trap .align (infoAddr o)
  else if lim < o.toNat + n then .trap .prot (infoAddr o)
  else match (if reads then s.tsPoison.find? fun g =>
      decide (t * 2 ^ 14 + o.toNat / 64 ≤ g) && decide (64 * g < t * 2 ^ 20 + o.toNat + n) else none) with
    | some g => .trap .poison (64 * (g % 2 ^ 14))
    | none => ok o.toNat

/-- The tag checks of class 4 and class 2 sources and of D (R266). -/
def mxTags (any : Bool) (checks : List (Nat × Option Fmt × (Fmt → Bool))) : Option Nat :=
  checks.findSome? fun c => tagFails any c.1 c.2.2 c.2.1

/-- What follows the tag checks. -/
def mxTagged (any : Bool) (checks : List (Nat × Option Fmt × (Fmt → Bool))) (go : Res) : Res :=
  match mxTags any checks with
  | some i => .trap .fmt i
  | none => go

/-- MLD (R408). -/
def mldBody (w : Ins) (s : State) : Res :=
  tsCheck s (s.slot.ea w.a) 4096 true fun o => mxPut s (mkCmd s 0x2C2 w [BitVec.ofNat 64 o]) false
/-- MST (R408). -/
def mstBody (w : Ins) (s : State) : Res :=
  let m := mods w.a
  if s.tsOut (s.slot.ea w.d) 4096 then .trap .prot (infoAddr (s.slot.ea w.d))
  else mxTagged (Forms.anyOf m) [(1, (s.slot.getT (num w.a)).tag, only (Forms.fmtOf m))]
    (tsCheck s (s.slot.ea w.d) 4096 false fun o => mxPut s (mkCmd s 0x2C3 w [BitVec.ofNat 64 o]) false)
/-- MZERO (R408). -/
def mzeroBody (w : Ins) (s : State) : Res := mxPut s (mkCmd s 0x2C4 w []) false
/-- MTRANS (R408): A tagged f32, i32, z32 or f32x3. -/
def mtransBody (w : Ins) (s : State) : Res :=
  mxTagged (vAny w) [(1, (s.slot.getT (num w.a)).tag, fun f => f == .f32 || f == .i32 || f == .z32 || f == .f32x3)]
    (mxPut s (mkCmd s 0x2C9 w []) false)
/-- MCVT (R415): A tagged f32 or i32. -/
def mcvtBody (w : Ins) (s : State) : Res :=
  mxTagged (vAny w) [(1, (s.slot.getT (num w.a)).tag, fun f => f == .f32 || f == .i32)]
    (mxPut s (mkCmd s 0x2C7 w [s.slot.opS w.b]) false)
/-- MSCALE (R416): D and A tagged f32. A bound register gives its next register-full (R401). -/
def mscaleBody (w : Ins) (s : State) : Res :=
  let x := s.slot
  mxTagged (vAny w) [(1, (x.seeV (num w.a)).tag, only .f32), (0, (x.getT (num w.d)).tag, only .f32)]
    (if x.badRead (num w.a) then .trap .stream 0
     else if x.waitsRead (num w.a) then .hold (s.waitFor .status)
     else mxPut s (mkCmd s 0x2C8 w []) false fun t => t.modSlot t.cur fun y => y.popV (num w.a))

/-- The physical pages of [va, va + n) for MLDB, translated now (R409). -/
def State.mxPages (s : State) (va : Word64) (n : Nat) : Res ⊕ List Nat :=
  if 2 ^ 48 < va.toNat + n then .inl (.trap .prot (infoAddr va))
  else
    let p0 := va.toNat / 4096
    (List.range ((va.toNat + n + 4095) / 4096 - p0)).foldr (fun i r =>
      let a := max va.toNat ((p0 + i) * 4096)
      match s.xlate s.cur a .engRead with
      | .fault k => if isTsc s.cur || s.slot.denied .engRead a then .inl (.trap .prot (a % 2 ^ 48)) else .inl (.hold (s.parkAt s.cur k .engRead a 3))
      | .unbacked => .inl (.trap .prot (a % 2 ^ 48))
      | .far _ _ => .inl (.trap .prot (a % 2 ^ 48))
      | .here pa _ _ => match r with
        | .inr l => .inr ((pa - a % 4096) :: l)
        | e => e) (.inr [])

/-- MLDB (R409). Its arguments: first slice, count, window flag, image and companion addresses, then the physical pages. -/
def mldbBody (w : Ins) (s : State) : Res :=
  let f := vFmt w
  let win := bit (mods w.d) 0
  let x := s.slot
  let d := x.getS (num w.d)
  let sl := fld d 8 0
  let ns := fld d 24 16 + 1
  let a := x.getS (num w.a)
  let b := if f.hasCompanion then x.getS (num w.b) else 0
  let args (pages : List Nat) : List Word64 :=
    [BitVec.ofNat 64 sl, BitVec.ofNat 64 ns, if win then 1 else 0, a, b] ++ pages.map (BitVec.ofNat 64)
  if s.compact && !win then .trap .prot 0
  else if s.tsOut a (512 * ns) then .trap .prot (infoAddr a)
  else if f.hasCompanion && s.tsOut b (192 * ns) then .trap .prot (infoAddr b)
  else if d &&& 0xFFFFFFFFFE00FE00 ≠ 0 || 512 < sl + ns || (f == .f32x3 && ns % 3 != 0) then .trap .engine 0
  else if a.toNat % 64 ≠ 0 then .trap .align (infoAddr a)
  else if b.toNat % 64 ≠ 0 then .trap .align (infoAddr b)
  else if win then
    tsCheck s a (512 * ns) false fun _ =>
      if f.hasCompanion then tsCheck s b (192 * ns) false fun _ => mxPut s (mkCmd s 0x2C1 w (args [])) false
      else mxPut s (mkCmd s 0x2C1 w (args [])) false
  else match s.mxPages a (512 * ns) with
    | .inl e => e
    | .inr ps =>
      match (if f.hasCompanion then s.mxPages b (192 * ns) else .inr []) with
      | .inl e => e
      | .inr qs => mxPut s (mkCmd s 0x2C1 w (args (ps ++ qs))) false

/-! Multiply-accumulate (R410-R414). -/

/-- SL of the MD word. -/
def mdSL (d : Word64) : Nat := fld d 8 0
/-- KT. -/
def mdKT (d : Word64) : Nat := fld d 18 9
/-- AST. -/
def mdAST (d : Word64) : Nat := fld d 34 19

/-- Is the format of integers for the accumulator's kind (R289)? -/
def mxInt (f : Fmt) : Bool := f.isInt || f == .tern || f == .i8zp
/-- Storage width ws of a B format (R158). -/
def wsOf (f : Fmt) : Nat := if f == .f32x3 || f == .f32 then 16 else if f.memBits = 6 then 8 else f.memBits
/-- wA of R411. -/
def waOf (f : Fmt) : Nat := wsOf f
/-- Steps of a pass (R158, R411). -/
def stepsOf (f : Fmt) : Nat := max 4 (if f.memBits = 6 then 6 else waOf f)

/-- Bytes of the companions of one row of memory A (R410). -/
def compBytes (f : Fmt) (kt : Nat) : Nat := cdiv (kt + 1) f.block
/-- The extent of memory A with its companions (R410, R413); elements at their memory width. -/
def aExtent (f : Fmt) (d : Word64) : Nat :=
  let rows := 31 * mdAST d + cdiv ((mdKT d + 1) * f.memBits) 8
  if f.isBlock then max rows (32 * mdAST d + 32 * compBytes f (mdKT d)) else rows

/-- MMAC (R412, R413). -/
def mmacBody (w : Ins) (s : State) : Res :=
  let f := vFmt w
  let x := s.slot
  let d := x.getS (num w.b)
  let pair := isV w.a
  let mem := Forms.isMem w.a
  let n := num w.a
  let vt (i : Nat) : Option Fmt := (x.seeV i).tag
  let tags : List (Nat × Option Fmt × (Fmt → Bool)) :=
    if pair then [(1, vt n, only f), (1, vt (n + 1), only f)]
    else if mem then [] else [(1, (x.getT n).tag, only f)]
  let row := if pair then 128 / f.container else 1024 / f.container
  let args (o : Nat) : List Word64 := [d, BitVec.ofNat 64 o]
  let bound := pair && (x.badRead n || x.badRead (n + 1))
  if mem && s.tsOut (x.ea w.a) (aExtent f d) then .trap .prot (infoAddr (x.ea w.a))
  else mxTagged (vAny w) tags
    (if fld d 63 35 ≠ 0 || (!mem && decide (row < mdKT d + 1)) then .trap .engine 0
     else if bound then .trap .stream 0
     else if pair && (x.waitsRead n || x.waitsRead (n + 1)) then .hold (s.waitFor .status)
     else if mem then tsCheck s (x.ea w.a) (aExtent f d) true fun o => mxPut s (mkCmd s 0x2C5 w (args o)) false
     else mxPut s (mkCmd s 0x2C5 w (args 0)) pair fun t =>
       if pair then t.modSlot t.cur fun y => (y.popV n).popV (n + 1) else t)

/-- What the MX finds when a multiply-accumulate starts (R412): the kind of the accumulator, the B format, K, the number of
chunks, and the distance of the part groups of an f32x3 B. -/
structure MxPlan where
  intk  : Bool
  fb    : Fmt
  k     : Nat
  n     : Nat
  third : Nat

/-- The start checks of R412; none: only D's tag is written, invalid. -/
def mxPlan (tl : Tile) (dtag : Option Fmt) (f : Fmt) (sl kt : Nat) : Option MxPlan :=
  match Tbl.get? tl.ws sl with
  | none => none
  | some e =>
    let fb := e.fmt
    let k := min 32 (128 / wsOf fb)
    let n := cdiv (kt + 1) k
    let third := e.run / 3
    let idx := (List.range (if fb == .f32x3 then 3 else 1)).flatMap fun p => (List.range n).map fun q => sl + p * third + q
    let okS (i : Nat) : Bool := decide (i ≤ 511) && ((Tbl.get? tl.ws i).map fun y => y.fmt == fb).getD false
    let intk := mxInt f && mxInt fb
    if idx.all okS && dtag == some (if intk then .i32 else .f32) then some ⟨intk, fb, k, n, third⟩ else none

/-- The split r of a chunk whose K·wA exceeds 128 (R411). -/
def chunkSplit (p : MxPlan) (f : Fmt) : Nat := max 1 (p.k * waOf f / 128)
/-- The part passes of a chunk (R411): 1, 3 or 6. -/
def chunkParts (p : MxPlan) (f : Fmt) : Nat :=
  match f == .f32x3, p.fb == .f32x3 with
  | true, true => 6
  | false, false => 1
  | _, _ => 3
/-- Passes of a chunk (R411): the split times the part passes. -/
def chunkPasses (p : MxPlan) (f : Fmt) : Nat := chunkSplit p f * chunkParts p f

/-- The parts of an A element (R275, R411): f32 rounded to bf16, f32x3 in three, every other one value. -/
def aParts (f : Fmt) (raw comp : Nat) : List FVal :=
  let bf (b : Nat) : FVal := decFp .bf16 false b
  if f == .f32 then [bf (encFp .bf16 rneOpt (decFp .f32 false raw)).1]
  else if f == .f32x3 then let (h, m, l) := f32Parts raw; [bf h, bf m, bf l]
  else if f.isBlock then [scaled false f raw comp]
  else [decode f false raw]

/-- A B element of column `j` at index `kk` of a slice (R406). -/
def bValue (e : Slice) (j kk : Nat) : FVal :=
  let f := e.fmt
  let ws := wsOf f
  let raw := (e.data.toNat >>> (128 * j + kk * ws)) % 2 ^ ws
  let cf := (e.comp.toNat >>> (16 * j)) % 2 ^ 16
  let ss := (e.comp.toNat >>> (512 + 32 * j)) % 2 ^ 32
  match f with
  | .f32x3 => decFp .bf16 false raw
  | .q4n => q4nVal raw cf ss
  | .b64mix => mixVal cf raw
  | .b16f4 => scaled false f raw ((if 16 ≤ kk then cf / 256 else cf) % 256)
  | _ => if f.isBlock then scaled false f (raw % 2 ^ f.memBits) (cf % 256) else decode f false (raw % 2 ^ f.memBits)

/-- The parts of B(k, j). -/
def bParts (tl : Tile) (p : MxPlan) (sl k j : Nat) : List FVal :=
  (List.range (if p.fb == .f32x3 then 3 else 1)).map fun q =>
    match Tbl.get? tl.ws (sl + q * p.third + k / p.k) with
    | some e => bValue e j (k % p.k)
    | none => .nan false

/-- The part passes of a chunk (R411): part pairs (i, j) with i + j ≤ 2. -/
def partPairs (na nb : Nat) : List (Nat × Nat) :=
  (List.range na).flatMap fun i => (List.range nb).filterMap fun j => if i + j ≤ 2 then some (i, j) else none

/-- The products of an element pair, one for each part pass (R411): `as` gives A's parts as each pass has fetched them. -/
def partProducts (as : Nat → List FVal) (bs : List FVal) : List FVal :=
  (partPairs (as 0).length bs.length).zipIdx.map fun e => (vMul ((as e.2).getD e.1.1 (.nan false)) (bs.getD e.1.2 (.nan false))).1

/-- The exact sum of a group's products (R290, R292): -0 only when every product is. -/
def groupSum : List FVal → FVal
  | [] => .fin false 0 1
  | [a] => a
  | a :: r => (vAdd a (groupSum r)).1

/-- An exact value as an integer. -/
def toInt' : FVal → Int
  | .fin s n d => signedNum s (n / d)
  | _ => 0

/-- An accumulator element after group `g` (R412): `a` gives A(i, k)'s parts by part pass, `b` B(k, j)'s. -/
def accElem (intk sat : Bool) (d : Nat) (g kt : Nat) (a : Nat → Nat → List FVal) (b : Nat → List FVal) : Nat :=
  let ks := (List.range 32).filterMap fun i => if 32 * g + i ≤ kt then some (32 * g + i) else none
  let ps := ks.flatMap fun k => partProducts (a k) (b k)
  if intk then
    let x := ps.foldl (fun t v => t + toInt' v) 0
    intElem .i32 sat (decInt .i32 d + x)
  else
    let r := (encFp .f32 rneOpt (groupSum ps)).1
    (encFp .f32 rneOpt (vAdd (decFp .f32 false d) (decFp .f32 false r)).1).1

/-- Element (i, j) of a 32 × 32 accumulator (R404). -/
def tElem (v : BitVec 32768) (i j : Nat) : Nat := (v.toNat >>> (32 * (32 * i + j))) % 2 ^ 32
/-- A tile register from its 1,024 elements. -/
def ofElems (f : Nat → Nat → Nat) : BitVec 32768 :=
  BitVec.ofNat 32768 (packElems 32 ((List.range 1024).map fun e => f (e / 32) (e % 32)))

/-- Group `g` added to an accumulator; `rows` holds by part pass row i's elements packed at width `wd`, `comps` the companion of each
element. -/
def accGroup (tl : Tile) (p : MxPlan) (f : Fmt) (wd : Nat) (sat : Bool) (sl kt g : Nat) (rows : Nat → Nat → Nat)
    (comps : Nat → Nat → Nat → Nat) (d : BitVec 32768) : BitVec 32768 :=
  ofElems fun i j =>
    accElem p.intk sat (tElem d i j) g kt
      (fun k u => aParts f ((rows u i >>> (k * wd)) % 2 ^ wd % 2 ^ f.memBits) (comps u i k))
      (fun k => bParts tl p sl k j)

/-- The groups from `g` on, `n` of them. -/
def accGroups (tl : Tile) (p : MxPlan) (f : Fmt) (wd : Nat) (sat : Bool) (sl kt : Nat) (rows : Nat → Nat → Nat)
    (comps : Nat → Nat → Nat → Nat) : Nat → Nat → BitVec 32768 → BitVec 32768
  | 0, _, d => d
  | n + 1, g, d => accGroups tl p f wd sat sl kt rows comps n (g + 1) (accGroup tl p f wd sat sl kt g rows comps d)

/-- Row `i` of a register A: of a tile register, or of a v pair (R404). -/
def regRow (x : Slot) (w : Ins) (i : Nat) : Nat :=
  if isV w.a then ((x.getV (num w.a + i / 16)).val.toNat >>> (128 * (i % 16))) % 2 ^ 128
  else ((x.getT (num w.a)).val.toNat >>> (1024 * i)) % 2 ^ 1024

/-- The newest value of a tile register: the last write in flight, or what it holds. The MX accumulates in place (R412). -/
def Slot.newestT (x : Slot) (n : Nat) : TReg :=
  x.late.foldl (fun r l => match l.w with
    | .t k v => if k = n then v else r
    | _ => r) (x.getT n)

/-- A write of the MX for command `c`: at phase cycle `due` in compact mode (R408). -/
def State.mxWrite (s : State) (c : Cmd) (due : Nat) (w : RegWrite) : State :=
  if s.compactAt c.slot then s.modSlot c.slot fun x => { x with late := x.late ++ [⟨due, w, c.start⟩] } else s.landWrite c.slot w

/-- The slots of a tile that wait for a place in a queue try again. -/
def State.wakeFull (s : State) (t : Nat) : State :=
  { s with slots := s.slots.map fun e => if e.2.wait = .full && tileOf e.1 = t then (e.1, { e.2 with wait := .none }) else e }

/-- The head operation of a tile's MX queue has ended: its registers are free, slots that wait for a place go on. -/
def State.mxPop (s : State) (t : Nat) (c : Cmd) (pair : Bool) : State :=
  let x := s.tile t
  let s1 := s.setTile t { x with mxq := x.mxq.tail }
  let s2 := s1.modSlot c.slot fun y => y.markOp c.w pair false
  s2.wakeFull t

/-- The MX is busy for `occ` cycles from `at0`; `ready` is when the result is readable (compact mode, R408). -/
def State.mxBusy (s : State) (t at0 occ ready : Nat) : State :=
  let x := s.tile t
  s.setTile t { x with mxFree := at0 + occ, mxReady := max x.mxReady ready }

/-- One slice of an MLDB (R406, R409): a poisoned read leaves the slice invalid. -/
def mldbSlice (s : State) (t : Nat) (c : Cmd) (q : Nat) : Except Stop State :=
  let f := vFmt c.w
  let sl := (c.arg 0).toNat
  let ns := (c.arg 1).toNat
  let win := c.arg 2 != 0
  let e : Eng := ⟨s, t * 8 + 5, c, 0, 0⟩
  -- the physical address of byte `o` of the image (companion image), by the pages translated at issue
  let page (base : Word64) (skip o : Nat) : Nat :=
    (c.arg (5 + skip + ((base.toNat % 4096 + o) / 4096))).toNat + (base.toNat + o) % 4096
  let img := c.arg 3
  let cmp := c.arg 4
  let imgPages := (img.toNat + 512 * ns + 4095) / 4096 - img.toNat / 4096
  let line (base : Word64) (skip o : Nat) (e : Eng) : Except Stop (Nat × Eng) :=
    if win then e.rdAt (.ts t (base.toNat + o)) 64 else e.rdAt (.mem (page base skip o) false false) 64
  let read (base : Word64) (skip o n : Nat) (e : Eng) : Except Stop (Nat × Eng) :=
    (List.range n).foldlM (fun (a : Nat × Eng) i => do
      let (v, e') ← line base skip (o + 64 * i) a.2
      .ok (a.1 + v <<< (512 * i), e')) (0, e)
  let put (x : Option Slice) : State :=
    let tl := s.tile t
    s.setTile t { tl with ws := match x with
      | some y => Tbl.set tl.ws (sl + q) y
      | none => Tbl.erase tl.ws (sl + q) }
  match read img 0 (512 * q) 8 e with
  | .ok (d, e1) =>
    match (if f.hasCompanion then read cmp imgPages (192 * q) 3 e1 else .ok (0, e1)) with
    | .ok (m, _) => .ok (put (some ⟨f, BitVec.ofNat 4096 d, BitVec.ofNat 1536 m, ns⟩))
    | .error (.status _ _) => .ok (put none)
    | .error x => .error x
  | .error (.status _ _) => .ok (put none)
  | .error x => .error x

/-- The rows of memory A in the own tile store, elements [k0, k1] of each, in their places (R410). -/
def tsRows (s : State) (t base ast wd k0 k1 i : Nat) : Nat :=
  let b0 := k0 * wd / 8
  let b1 := cdiv ((k1 + 1) * wd) 8
  let v := s.tsRead t (base + i * ast + b0) (b1 - b0) >>> (k0 * wd % 8)
  (v % 2 ^ ((k1 - k0 + 1) * wd)) <<< (k0 * wd)

/-- The passes that one move of MX_OP_START runs: one in compact mode, where each fetches its A at its own cycle (R159), all of
them in free mode. -/
def State.mxPasses (s : State) (c : Cmd) (n : Nat) : List Nat :=
  if s.compactAt c.slot then [c.pos] else List.range n

/-- MMAC at the head of the MX queue (R412). `at0` is its phase cycle. -/
def mmacStep (t at0 : Nat) (c : Cmd) (s : State) : State :=
  let f := vFmt c.w
  let x := s.getSlot c.slot
  let d := c.arg 0
  let sl := mdSL d
  let kt := mdKT d
  let dn := num c.w.d
  let tl := s.tile t
  let pair := isV c.w.a
  let mem := Forms.isMem c.w.a
  let reg := x.getT dn
  match mxPlan tl reg.tag f sl kt with
  | none => ((s.mxWrite c (at0 + 2) (.t dn { reg with tag := none })).mxPop t c pair).mxBusy t at0 (stepsOf f) (at0 + 2)
  | some p =>
    let wd := if mem then f.memBits else f.container
    let base := (c.arg 1).toNat
    let parts := chunkParts p f
    let per := chunkPasses p f
    -- pass `j`: chunk, then the split, then the part passes (notes/assumptions 106)
    let fetch (acc : List Nat) (j : Nat) : List Nat :=
      let u := j % parts
      let k0 := p.k * (j / per) + p.k / chunkSplit p f * (j % per / parts)
      let k1 := min (k0 + p.k / chunkSplit p f - 1) kt
      let ks := List.range' k0 (k1 + 1 - k0)
      (List.range 64).foldl (fun a i =>
        let v := if i < 32 then
            (if mem then tsRows s t base (mdAST d) wd k0 k1 i
             else ((regRow x c.w i >>> (k0 * wd)) % 2 ^ ((k1 - k0 + 1) * wd)) <<< (k0 * wd))
          else if mem && f.isBlock then
            (ks.map fun k => s.tsRead t (base + 32 * mdAST d + (i - 32) * compBytes f kt + k / f.block) 1 <<< (8 * k)).foldl (· + ·) 0
          else 0
        a.set (64 * u + i) (a.getD (64 * u + i) 0 ||| v)) acc
    let ps := s.mxPasses c (p.n * per)
    let acc := ps.foldl fetch (if c.acc.isEmpty then List.replicate (64 * parts) 0 else c.acc)
    let next := c.pos + ps.length
    if next < p.n * per && s.compactAt c.slot then
      (s.setTile t { tl with mxq := { c with acc := acc, pos := next, begun := true } :: tl.mxq.tail }).mxBusy t at0 (stepsOf f) 0
    else
      let g := cdiv (kt + 1) 32
      let cur := x.newestT dn
      let v := accGroups tl p f wd (vSat c.w) sl kt (fun u i => acc.getD (64 * u + i) 0)
        (fun u i k => (acc.getD (64 * u + 32 + i) 0 >>> (8 * k)) % 256) g 0 cur.val
      let land := at0 + (if mem then 7 else 2) + stepsOf f
      ((s.mxWrite c land (.t dn ⟨reg.tag, v, 0⟩)).mxPop t c pair).mxBusy t at0 (stepsOf f) land

/-- MCVT's result: pattern bits and flags (R415). -/
def mcvtResult (w : Ins) (seed : Word64) (a : TReg) : BitVec 32768 × Flags :=
  let tgt := vFmt w
  let src := if a.tag == some .i32 then .i32 else .f32
  let sr := bit (mods w.d) 3
  let rs := (List.range 1024).map fun e =>
    let st := if sr then srSteps (srSeed seed.toNat (e / 32)) (32 * (e % 32 + 1)) else 0
    cvtElem src tgt (cvtOpt (mods w.d) st) (tElem a.val (e / 32) (e % 32))
  (BitVec.ofNat 32768 (packElems tgt.container (rs.map Prod.fst)), rs.foldl (fun g r => g ||| r.2) 0)

/-- The phase cycle in which the semaphore operation at the head of a queue starts: the MX's once every earlier result is readable, the
CE's once the command before it in its queue has landed its status word (R417, R419). -/
def State.semStart (s : State) (t q : Nat) (c : Cmd) : Nat :=
  if q % 8 = 5 then max c.start (max (s.tile t).mxFree (s.tile t).mxReady)
  else let k := s.core (coreAt t (q % 8)); max c.start (max k.ceAt k.ceSem)

/-- The semaphore operation at the head of a queue has taken effect: a wait not before the increment that let it (R162). What is behind it
starts from there (R408, R419). -/
def State.semDone (s : State) (t q : Nat) (c : Cmd) : State :=
  let at0 := max (s.semStart t q c) (if c.op = 0x2CB && c.arg 1 != 0 then ((s.tile t).semAt[(c.arg 0).toNat]?).getD 0 else 0)
  let s := if c.op = 0x2CA then s.semMark t (c.arg 0).toNat at0 else s
  if q % 8 = 5 then (s.mxPop t c false).mxBusy t at0 1 at0
  else
    let k := coreAt t (q % 8)
    ((s.setCore k { s.core k with ceSem := at0 }).setQueueOf q (s.queueOf q).tail).wakeFull t

/-- A semaphore operation at the head of a queue: done, or entered among the waits. -/
def State.semRun (s : State) (t q : Nat) (c : Cmd) : State :=
  let i := (c.arg 0).toNat
  let n := (c.arg 1).toNat
  if c.op = 0x2CA then (s.semAdd t i n).semDone t q c
  else match s.semTry t i n (2 ^ 20 + q) c.w with
    | (some u, _) => u.semDone t q c
    | (none, u) => u

/-- MMACR's own outcome for its slot: it runs on past the instruction, or ends in a trap, or parks on a fault (R414). -/
inductive MmacrEnd where
  | done | trap (t : Trap) | park (kind : Nat) (a : Acc) (va : Nat)

/-- MMACR leaves the queue (R414): D written with its progress field, then its slot goes on, traps or parks. -/
def mmacrLeave (t : Nat) (c : Cmd) (r : TReg) (how : MmacrEnd) (s : State) : State :=
  let n := c.slot
  let x := s.tile t
  let s1 := (s.setTile t { x with mxq := x.mxq.tail }).modSlot n fun y => y.setT (num c.w.d) r
  let s2 := s1.wakeFull t
  match how with
  | .done => s2.asSlot n fun s => s.advance c.w
  | .trap tr => s2.asSlot n fun s => s.trapAt c.w tr (infoAddr (c.arg 1))
  | .park k a va => s2.parkAt n k a va 3

/-- One group of MMACR's A fetched: every row's bytes, with the companions of the group (R414). -/
def mmacrFetch (e : Eng) (f : Fmt) (d base : Word64) (g : Nat) : Except Stop (List (Nat × Nat) × Eng) :=
  let kt := mdKT d
  let k1 := min (32 * g + 31) kt
  let wd := f.memBits
  let b0 := 32 * g * wd / 8
  let b1 := cdiv ((k1 + 1) * wd) 8
  (List.range 32).foldlM (fun (a : List (Nat × Nat) × Eng) i => do
    let (v, e1) ← a.2.rd false (base + BitVec.ofNat 64 (i * mdAST d + b0)) (b1 - b0) 400
    let c0 := 32 * g / f.block
    let c1 := k1 / f.block
    let (cv, e2) ← (if f.isBlock then
        e1.rd false (base + BitVec.ofNat 64 (32 * mdAST d + i * compBytes f kt + c0)) (c1 - c0 + 1) 4
      else .ok (0, e1) : Except Stop (Nat × Eng))
    .ok (a.1 ++ [(v <<< (8 * b0), cv <<< (8 * c0))], e2)) ([], e)

/-- MMACR's groups from `g` on (R414): each fetched whole, then accumulated. `dv` is D as it stands. -/
def mmacrGroups (t : Nat) (p : MxPlan) (f : Fmt) (d base : Word64) (r : TReg) : Nat → Nat → BitVec 32768 → Eng → State
  | 0, _, dv, e => mmacrLeave t e.cmd ⟨r.tag, dv, 0⟩ .done e.s
  | n + 1, g, dv, e =>
    let kt := mdKT d
    let prog : Word64 := BitVec.ofNat 64 (2 ^ 63 + g * 2 ^ 42 + fld e.cmd.pc 31 0)
    match mmacrFetch e f d base g with
    | .ok (rows, e1) =>
      let row (i : Nat) : Nat × Nat := (rows[i]?).getD (0, 0)
      let dv' := accGroup (e1.s.tile t) p f f.memBits (vSat e1.cmd.w) (mdSL d) kt g (fun _ i => (row i).1)
        (fun _ i k => ((row i).2 >>> (8 * (k / f.block))) % 256) dv
      mmacrGroups t p f d base r n (g + 1) dv' { e1 with cmd := { e1.cmd with got := [] }, used := 0 }
    | .error (.status e1 st) =>
      mmacrLeave t e1.cmd ⟨r.tag, dv, prog⟩ (.trap (if st = sPOISON then .poison else .prot)) e1.s
    | .error (.fault e1 k _ va) => mmacrLeave t e1.cmd ⟨r.tag, dv, prog⟩ (.park k .mxFetch va) e1.s
    | .error (.home e1) =>
      let s := e1.s.modSlot e1.cmd.slot fun y => y.setT (num e1.cmd.w.d) ⟨r.tag, dv, prog⟩
      s.setQueueOf e1.q ({ e1.cmd with pos := g } :: (s.queueOf e1.q).tail)
    | .error (.wait e1) =>
      let s := e1.s.modSlot e1.cmd.slot fun y => y.setT (num e1.cmd.w.d) ⟨r.tag, dv, prog⟩
      s.setQueueOf e1.q ({ e1.cmd with pos := g } :: (s.queueOf e1.q).tail)

/-- MMACR at the head of the MX queue (R414). A command that has begun goes on at its group. -/
def mmacrStep (t : Nat) (c : Cmd) (s : State) : State :=
  let f := vFmt c.w
  let x := s.getSlot c.slot
  let d := c.arg 0
  let r := x.getT (num c.w.d)
  let kt := mdKT d
  match mxPlan (s.tile t) r.tag f (mdSL d) kt with
  | none => mmacrLeave t c { r with tag := none } .done s
  | some p =>
    let g0 := if c.begun then c.pos
      else if bit r.prog 63 && fld r.prog 31 0 == fld c.pc 31 0 then fld r.prog 47 42 else 0
    let am := mods c.w.a
    let s := if !c.begun && Forms.ordOf am = 1 && g0 = 0 then s.acquireAt (clusterOfTile t) (Forms.scopeOf am) fun _ => true else s
    let c := { c with begun := true }
    mmacrGroups t p f d (c.arg 1) r (cdiv (kt + 1) 32 - g0) g0 r.val ⟨s, t * 8 + 5, c, 0, 0⟩

/-- MMACR (R414): it enters the queue and holds its slot until it completes or stops. -/
def mmacrBody (w : Ins) (s : State) : Res :=
  let d := s.slot.getS (num w.b)
  let a := s.slot.getS (num w.a)
  if s.compact then .trap .prot 0
  else if fld d 63 35 ≠ 0 then .trap .engine 0
  else if a.toNat % 4 ≠ 0 then .trap .align (infoAddr a)
  else if 2 ^ 48 ≤ a.toNat then .trap .prot (infoAddr a)
  else if (s.slot.park.map fun p => p.deny && p.acc == Acc.code .mxFetch).getD false then .trap .prot (infoAddr a)
  else if (s.tile (tileOf s.cur)).mxq.any fun c => c.op == 0x2C6 && c.slot == s.cur then .hold (s.waitFor .full)
  else if s.mxFull then .hold (s.waitFor .full)
  else
    let t := tileOf s.cur
    .hold ((s.setTile t { s.tile t with mxq := (s.tile t).mxq ++ [mkCmd s 0x2C6 w [d, a]] }).waitFor .full)

/-- One MLDB step: the slices that one move of MX_OP_START loads (R409): one in compact mode, all in free mode. -/
def mldbStep (t at0 : Nat) (c : Cmd) (s : State) : State :=
  let am := mods c.w.a
  let ns := (c.arg 1).toNat
  let s := if !c.begun && Forms.ordOf am = 1 then s.acquireAt (clusterOfTile t) (Forms.scopeOf am) fun _ => true else s
  let qs := if s.compactAt c.slot then [c.pos] else (List.range ns).filter fun q => c.pos ≤ q
  let r := qs.foldl (fun (a : State × Nat × List Nat) q =>
    if !a.2.2.isEmpty then a
    else match mldbSlice a.1 t c q with
      | .ok s' => (s', q + 1, [])
      | .error (.home e) => (a.1, q, e.cmd.home)
      | .error _ => (a.1, q, [])) (s, c.pos, [])
  let s1 := r.1
  let c1 : Cmd := { c with begun := true, pos := r.2.1, home := r.2.2, served := if r.2.2.isEmpty then [] else c.served }
  if r.2.1 < ns then
    (s1.setTile t { s1.tile t with mxq := c1 :: (s1.tile t).mxq.tail }).mxBusy t at0 8 0
  else (s1.mxPop t c false).mxBusy t at0 8 (at0 + 8)

/-- MX_OP_START: the head of a tile's MX queue runs when the unit is free (R159, R408, R417); in compact mode at phase cycle
max(issue cycle, cycle from which the MX is free). -/
def mxOpStart (t : Nat) (s : State) : State :=
  match (s.tile t).mxq with
  | [] => s
  | c :: _ =>
    let x := s.getSlot c.slot
    let w := c.w
    let tl := s.tile t
    let at0 := max c.start tl.mxFree
    let dn := num w.d
    if !c.home.isEmpty then s
    else match c.op with
    | 0x2C1 => mldbStep t at0 c s
    | 0x2C2 =>
      let v := BitVec.ofNat 32768 (s.tsRead t (c.arg 0).toNat 4096)
      ((s.mxWrite c (at0 + 10) (.t dn ⟨some (vFmt w), v, 0⟩)).mxPop t c false).mxBusy t at0 8 (at0 + 10)
    | 0x2C3 =>
      ((s.mxWrite c (at0 + 10) (.ts (c.arg 0).toNat (x.getT (num w.a)).val)).mxPop t c false).mxBusy t at0 8 (at0 + 10)
    | 0x2C4 => ((s.mxWrite c (at0 + 2) (.t dn ⟨some (vFmt w), 0, 0⟩)).mxPop t c false).mxBusy t at0 1 (at0 + 2)
    | 0x2C5 => mmacStep t at0 c s
    | 0x2C6 => mmacrStep t c s
    | 0x2C7 =>
      let a := x.getT (num w.a)
      let (v, fl) := mcvtResult w (c.arg 0) a
      let s1 := s.mxWrite c (at0 + 10) (.t dn ⟨some (vFmt w), v, 0⟩)
      let s2 := if fl = 0 then s1 else s1.mxWrite c (at0 + 10) (.flags fl)
      (s2.mxPop t c false).mxBusy t at0 8 (at0 + 10)
    | 0x2C8 =>
      let d := x.getT dn
      let a := (x.getV (num w.a)).val
      let one (i j : Nat) : Nat × Flags :=
        rnd .f32 (vMul (decFp .f32 false (tElem d.val i j)) (decFp .f32 false (laneOf a (if bit (mods w.d) 0 then j else i))))
      let fl := (List.range 1024).foldl (fun (g : Flags) e => g ||| (one (e / 32) (e % 32)).2) 0
      let s1 := s.mxWrite c (at0 + 10) (.t dn ⟨some .f32, ofElems fun i j => (one i j).1, 0⟩)
      let s2 := if fl = 0 then s1 else s1.mxWrite c (at0 + 10) (.flags fl)
      (s2.mxPop t c false).mxBusy t at0 8 (at0 + 10)
    | 0x2C9 =>
      let a := x.getT (num w.a)
      ((s.mxWrite c (at0 + 10) (.t dn ⟨a.tag, ofElems fun i j => tElem a.val j i, 0⟩)).mxPop t c false).mxBusy t at0 8 (at0 + 10)
    | _ => s.semRun t (t * 8 + 5) c

/-- The checks of SEMINC and SEMWAIT, then the agent of E acts (R417). -/
def semBody (w : Ins) (op : Nat) (core : Nat → Nat → Res) (s : State) : Res :=
  let i := (s.slot.opU w.a).toNat
  let n := (s.slot.opU w.b).toNat
  if 15 < i then .trap .countRange (i % 2 ^ 48)
  else if 65535 < n then .trap .countRange (n % 2 ^ 48)
  else
    let c := mkCmd s op w [BitVec.ofNat 64 i, BitVec.ofNat 64 n]
    match Forms.oth2 (mods w.d) with
    | 0 => core i n
    | 1 => mxPut s c false
    | _ =>
      let k := coreOf s.cur
      if 8 ≤ (s.core k).ceq.length then .hold (s.waitFor .full)
      else .ok (s.setCore k { s.core k with ceq := (s.core k).ceq ++ [c] })

/-- SEMINC (R417). -/
def semincBody (w : Ins) (s : State) : Res := semBody w 0x2CA (fun i n => .ok (s.put 1 (.sem i n))) s
/-- SEMWAIT (R417, R161). -/
def semwaitBody (w : Ins) (s : State) : Res :=
  semBody w 0x2CB (fun i n =>
    match s.semTry (tileOf s.cur) i n s.cur w with
    | (some t, _) => .ok t
    | (none, t) => .hold (t.waitFor (.sem i))) s

/-- SEMAPHORE_WAIT_COMPLETE (R161, R162): the first waiter whose count suffices takes it; a strand goes on past its SEMWAIT, a
queue's head past its operation. -/
def semaphoreWaitComplete (t i : Nat) (s : State) : State :=
  match s.semReady t i with
  | none => s
  | some e =>
    let s1 := (s.semPut t i (s.semVal t i - e.n)).semLeave t e.who
    if e.who < 2 ^ 20 then s1.asSlot e.who fun s => s.advance e.w
    else
      let q := e.who - 2 ^ 20
      match s1.queueOf q with
      | c :: _ => s1.semDone t q c
      | [] => s1

/-- MLDB (R409). -/
def execMldb (w : Ins) (s : State) : Host.Outcome State Fault Refusal := run (.mldb w) w false false (mldbBody w) s
/-- MLD (R408). -/
def execMld (w : Ins) (s : State) : Host.Outcome State Fault Refusal := run (.mld w) w false false (mldBody w) s
/-- MST (R408). -/
def execMst (w : Ins) (s : State) : Host.Outcome State Fault Refusal := run (.mst w) w false false (mstBody w) s
/-- MZERO (R408). -/
def execMzero (w : Ins) (s : State) : Host.Outcome State Fault Refusal := run (.mzero w) w false false (mzeroBody w) s
/-- MMAC (R412). -/
def execMmac (w : Ins) (s : State) : Host.Outcome State Fault Refusal := run (.mmac w) w false false (mmacBody w) s
/-- MMACR (R414). -/
def execMmacr (w : Ins) (s : State) : Host.Outcome State Fault Refusal := run (.mmacr w) w false false (mmacrBody w) s
/-- MCVT (R415). -/
def execMcvt (w : Ins) (s : State) : Host.Outcome State Fault Refusal := run (.mcvt w) w false false (mcvtBody w) s
/-- MSCALE (R416). -/
def execMscale (w : Ins) (s : State) : Host.Outcome State Fault Refusal := run (.mscale w) w false false (mscaleBody w) s
/-- MTRANS (R408). -/
def execMtrans (w : Ins) (s : State) : Host.Outcome State Fault Refusal := run (.mtrans w) w false false (mtransBody w) s
/-- SEMINC (R417). -/
def execSeminc (w : Ins) (s : State) : Host.Outcome State Fault Refusal := run (.seminc w) w false false (semincBody w) s
/-- SEMWAIT (R417). -/
def execSemwait (w : Ins) (s : State) : Host.Outcome State Fault Refusal := run (.semwait w) w false false (semwaitBody w) s

end Sys2Proof.Machine
end

