-- ==== Sys2Proof/Machine/Engines.lean ====
section
/-! DEFINITION. The copy/stream engine and the routing engine, group C (18 R418-R429, 07 R168-R170, 17 R400-R402). An instruction
checks its operands and queues a command; the move ENGINE_COMMAND_START works on the head of a queue, in units. -/

namespace Sys2Proof.Machine
open Sys2Proof

/-- A command enters a queue of `cap` places, or gets QFULL (R170, R419). -/
def engPut (s : State) (w : Ins) (q cap : Nat) (c : Cmd) : Res :=
  let l := s.queueOf q
  if cap ≤ l.length then .ok (s.put 1 (.s (num w.d) (engStatus sQFULL 0)))
  else
    let s1 := (s.setQueueOf q (l ++ [c])).raiseClock s.slot.lclock
    .ok (if s.compact then s1 else s1.await (num w.d))

/-- The CE queue of the current slot's core. -/
def State.myCe (s : State) : Nat := tileOf s.cur * 8 + (if isTsc s.cur then 0 else coreOf s.cur % 4)

/-- In compact mode: does [a, a + n) lie in the own tile's part of the cluster window (R419)? -/
def State.ownWindow (s : State) (win : Bool) (a : Word64) (n : Nat) : Bool :=
  let b := tileOf s.cur % 48 * 2 ^ 20
  win && decide (b ≤ a.toNat) && decide (a.toNat + n ≤ b + 2 ^ 20)

/-- COPY (R421): length in D, destination in A, source in B. -/
def copyBody (w : Ins) (s : State) : Res :=
  let x := s.slot
  let d := x.getS (num w.d)
  let a := x.getS (num w.a)
  let b := x.getS (num w.b)
  let n := fld d 39 0
  let dw := bit (mods w.d) 0
  let sw := bit (mods w.d) 1
  if s.compact && !(s.ownWindow dw a n && s.ownWindow sw b n) then .trap .prot 0
  else if fld d 63 40 ≠ 0 then .trap .engine 0
  else engPut s w s.myCe 8 (mkCmd s 0x301 w [d, a, b])

/-- COPY2D (R421): W and H in D, destination and stride in the pair A, source and stride in the pair B. -/
def copy2dBody (w : Ins) (s : State) : Res :=
  let x := s.slot
  let d := x.getS (num w.d)
  let a := x.getS (num w.a)
  let sa := x.getS (num w.a + 1)
  let b := x.getS (num w.b)
  let sb := x.getS (num w.b + 1)
  let wd := fld d 31 0
  let h := fld d 47 32
  let dw := bit (mods w.d) 0
  let sw := bit (mods w.d) 1
  let inside (win : Bool) (p st : Word64) : Bool :=
    decide (wd = 0) || (List.range h).all fun i => s.ownWindow win (p + BitVec.ofNat 64 i * st) wd
  if s.compact && !(inside dw a sa && inside sw b sb) then .trap .prot 0
  else if fld d 63 48 ≠ 0 then .trap .engine 0
  else engPut s w s.myCe 8 (mkCmd s 0x302 w [d, a, b, sa, sb])

/-- GATHER and SCATTER (R422, R423): a global descriptor of 32 bytes. -/
def gatherBody (op : Nat) (w : Ins) (s : State) : Res :=
  let ea := s.slot.ea w.b
  if s.compact then .trap .prot 0
  else if ea.toNat % 32 ≠ 0 then .trap .align (infoAddr ea)
  else if 2 ^ 48 ≤ ea.toNat then .trap .prot (infoAddr ea)
  else engPut s w s.myCe 8 (mkCmd s op w [0, s.slot.getS (num w.a), ea])

/-- STREAM (R424): a binding block of 24 bytes. -/
def streamBody (w : Ins) (s : State) : Res :=
  let ea := s.slot.ea w.b
  let sw := bit (mods w.d) 1
  if s.compact && !s.ownWindow sw ea 24 then .trap .prot 0
  else if ea.toNat % 32 ≠ 0 then .trap .align (infoAddr ea)
  else if !sw && decide (2 ^ 48 ≤ ea.toNat) then .trap .prot (infoAddr ea)
  else engPut s w s.myCe 8 (mkCmd s 0x305 w [0, 0, ea])

/-- STREND (R424). -/
def strendBody (w : Ins) (s : State) : Res := engPut s w s.myCe 8 (mkCmd s 0x306 w [])

/-- ROUTE commands (R425): a descriptor of 128 bytes, the tile's RE queue. -/
def routeBody (op : Nat) (w : Ins) (s : State) : Res :=
  let ea := s.slot.ea w.a
  if s.compact then .trap .prot 0
  else if ea.toNat % 128 ≠ 0 then .trap .align (infoAddr ea)
  else if 2 ^ 48 ≤ ea.toNat then .trap .prot (infoAddr ea)
  else engPut s w (tileOf s.cur * 8 + 4) 4 (mkCmd s op w [0, 0, ea])

/-! The work of a command, unit by unit. -/

/-- What a unit leaves. -/
inductive Work where
  | more (e : Eng)
  /-- the command has done everything; INFO on OK -/
  | fin (e : Eng) (info : Nat)

/-- The command moved on by `k` positions; the RESPs of the unit are used up. -/
def Eng.go (e : Eng) (k : Nat) : Eng :=
  { e with cmd := { e.cmd with pos := e.cmd.pos + k, got := [], park := none, served := [] }, used := 0, moved := 0 }

/-- A running value of the command. -/
def Eng.val (e : Eng) (i : Nat) : Nat := (e.cmd.acc[i]?).getD 0
/-- A running value replaced. -/
def Eng.setVal (e : Eng) (i v : Nat) : Eng := { e with cmd := { e.cmd with acc := e.cmd.acc.set i v } }

/-- The size of a copy's next unit: a granule of the destination, or what one request may carry when a side lies on a REM page
(R42, R421). -/
def Eng.chunk (e : Eng) (dw sw : Bool) (dst src : Word64) (rem : Nat) : Nat :=
  let fd := e.isFar dw dst .engWrite
  let fs := e.isFar sw src .engRead
  if fd || fs then min rem (min (if fd then 4096 - dst.toNat % 4096 else 4096) (if fs then 4096 - src.toNat % 4096 else 4096))
  else min rem (64 - dst.toNat % 64)

/-- One unit of a copy. -/
def Eng.copyUnit (e : Eng) (dw sw : Bool) (dst src : Word64) (rem : Nat) : Except Stop Eng := do
  let k := e.chunk dw sw dst src rem
  let (v, e1) ← e.rd sw src k 70
  let e2 ← e1.wr dw dst k v 70
  .ok (e2.go k)

/-- COPY (R421). -/
def copyWork (e : Eng) : Except Stop Work :=
  let c := e.cmd
  let n := fld (c.arg 0) 39 0
  let m := mods c.w.d
  if n ≤ c.pos then .ok (.fin e n)
  else do
    let p := BitVec.ofNat 64 c.pos
    let e1 ← e.copyUnit (bit m 0) (bit m 1) (c.arg 1 + p) (c.arg 2 + p) (n - c.pos)
    .ok (if n ≤ e1.cmd.pos then .fin e1 n else .more e1)

/-- COPY2D (R421). -/
def copy2dWork (e : Eng) : Except Stop Work :=
  let c := e.cmd
  let wd := fld (c.arg 0) 31 0
  let h := fld (c.arg 0) 47 32
  let m := mods c.w.d
  if wd * h ≤ c.pos then .ok (.fin e (wd * h))
  else do
    let r := BitVec.ofNat 64 (c.pos / wd)
    let o := BitVec.ofNat 64 (c.pos % wd)
    let e1 ← e.copyUnit (bit m 0) (bit m 1) (c.arg 1 + r * c.arg 3 + o) (c.arg 2 + r * c.arg 4 + o) (wd - c.pos % wd)
    .ok (if wd * h ≤ e1.cmd.pos then .fin e1 (wd * h) else .more e1)

/-- The words of a descriptor. -/
def Eng.words (e : Eng) (win : Bool) (a : Word64) (n : Nat) : Except Stop (List Word64 × Eng) := do
  let (v, e1) ← e.rd win a (8 * n) 6
  .ok ((List.range n).map fun i => BitVec.ofNat 64 (v >>> (64 * i)), e1)

/-- A gather or scatter descriptor read (R422): IDX, N, NT, RB, RPT, TB, T0, and the count of indices out of range. -/
def gatherBegin (e : Eng) : Except Stop Eng := do
  let (ws, e1) ← e.words false (e.cmd.arg 2) 4
  let w (i : Nat) : Word64 := (ws[i]?).getD 0
  let idx := (w 0).toNat
  let n := fld (w 1) 31 0
  let nt := fld (w 1) 37 32
  let rb := fld (w 2) 31 0
  let rpt := fld (w 2) 63 32
  let tb := fld (w 3) 19 0
  let t0 := fld (w 3) 25 20
  let bad := idx % 4 != 0 || fld (w 1) 63 38 != 0 || nt = 0 || 48 < t0 + nt || rb % 4 != 0 || rb < 4 || 65536 < rb || rpt = 0 ||
    fld (w 3) 63 26 != 0
  if bad then .error (.status e1 sBADARG)
  else .ok { e1.go 0 with cmd := { (e1.go 0).cmd with acc := [idx, n, nt, rb, rpt, tb, t0, 0] } }

/-- One row of GATHER or SCATTER (R423). -/
def gatherWork (scatter : Bool) (e : Eng) : Except Stop Work :=
  let c := e.cmd
  let n := e.val 1
  let rb := e.val 3
  let rpt := e.val 4
  let m := mods c.w.d
  if n ≤ c.pos then .ok (.fin e (e.val 7))
  else do
    let (x, e1) ← e.word false (BitVec.ofNat 64 (e.val 0 + 4 * c.pos)) 4
    let ext := c.arg 1 + BitVec.ofNat 64 (c.pos * rb)
    let owner := clusterOfTile (queueTile e.q) * 48 + e.val 6 + x / rpt
    let off := e.val 5 + x % rpt * rb
    let out := decide (e.val 2 * rpt ≤ x)
    let tl := e1.s.tile owner
    if !out && tl.held.isSome then .error (.status e1 sHELD)
    else if !out && tl.scr.toNat * 65536 < off + rb then .error (.status e1 sPROT)
    else do
      let e2 ← (if scatter then
          (if out then .ok e1
           else do
             let (v, e2) ← e1.rd (bit m 1) ext rb 1030
             e2.wr true (BitVec.ofNat 64 (owner % 48 * 2 ^ 20 + off)) rb v 1030)
        else e1.wr (bit m 0) ext rb (if out then 0 else e1.s.tsRead owner off rb) 1030 : Except Stop Eng)
      let e3 := (e2.setVal 7 (e2.val 7 + out.toNat)).go 1
      .ok (if n ≤ e3.cmd.pos then .fin e3 (e3.val 7) else .more e3)

/-- STREAM (R424): the binding installed in the slot, or in the block of a strand that has left it. -/
def streamWork (e : Eng) : Except Stop Work := do
  let c := e.cmd
  let m := mods c.w.d
  let (ws, e1) ← e.words (bit m 1) (c.arg 2) 3
  let w (i : Nat) : Word64 := (ws[i]?).getD 0
  let r := num c.w.a
  let b : Stream := ⟨w 0, w 1, w 2, [], false, c.sup, c.pfb, none, [], [], 0⟩
  let x := e1.s.getSlot c.slot
  let here := x.occ && x.recAddr == c.recAddr
  if !bit (w 0) 63 || fld (w 0) 60 53 != 0 || b.cnt < b.pos || b.cnt = 0 || fld (w 0) 47 0 % 4 != 0 || (w 1).toNat % 4 != 0 then .error (.status e1 sBADARG)
  else if here && (x.stream r).isSome then .error (.status e1 sBUSY)
  else if !b.win && e1.s.compactAt c.slot then .error (.status e1 sPROT)
  else
    let s1 :=
      if here then e1.s.modSlot c.slot fun y => y.setStream r (some b)
      else if c.ctx = 0 then e1.s
      else e1.s.putWords (c.ctx.toNat + 0x2000 + 64 * (r - 12)) [(0, b.w0), (8, b.w1), (16, b.w2)]
    .ok (.fin { e1.go 1 with s := s1 } b.pos)

/-- A register-full pushed to a write stream is written, lane by lane under its mask (R401, R402). -/
def pushWork (e : Eng) : Except Stop Eng :=
  let c := e.cmd
  let f := Fmt.ofCode (c.arg 2).toNat
  let lb := laneBytes f
  let v := memImage f ((c.vals[0]?).getD VReg.reset).val
  (List.range 64).foldlM (fun (e : Eng) i =>
    if bit (c.arg 1) i then
      e.wr (c.arg 3 != 0) (c.arg 0 + BitVec.ofNat 64 (lb * i)) lb ((v >>> (8 * lb * i)) % 2 ^ (8 * lb)) 2
    else .ok e) e

/-- How the oldest push of a core ends: written, or given up with a status that the stream's STREND reports (log 24); a fault
parks it (R402). -/
def pushStep (core : Nat) (t : Nat) (s : State) : State :=
  let k := s.core core
  match k.pushes with
  | [] => s
  | c :: r =>
    let pop (s : State) : State := s.setCore core { s.core core with pushes := r }
    match pushWork ⟨s, t * 8, c, 0, 0⟩ with
    | .ok e => pop e.s
    | .error (.status e st) =>
      pop (e.s.modSlot c.slot fun x => { x with streams := x.streams.map fun b => b.map fun b =>
        if b.write && b.err = 0 then { b with err := st } else b })
    | .error (.fault e kd a va) =>
      let (s1, c1) := e.s.parkCmd c 1 kd a va
      s1.setCore core { s1.core core with pushes := c1 :: r }
    | .error (.home e) => e.s
    | .error (.wait e) => e.s

/-- STREND (R424): after the register-fulls pushed the binding is released. -/
def strendWork (e : Eng) : Except Stop Work :=
  let c := e.cmd
  let r := num c.w.a
  let core := coreAt (queueTile e.q) (e.q % 8)
  let x := e.s.getSlot c.slot
  let here := x.occ && x.recAddr == c.recAddr
  if (e.s.core core).pushes.any fun p => p.slot == c.slot && p.recAddr == c.recAddr then
    .ok (.more { e with s := pushStep core (queueTile e.q) e.s })
  else match (if here then x.stream r else none) with
    | none => .ok (.fin (e.go 1) 0)
    | some b =>
      let e1 := { e with s := e.s.modSlot c.slot fun y => y.setStream r none }
      if b.err ≠ 0 then .error (.status e1 b.err) else .ok (.fin (e1.go 1) b.pos)

/-! Routing (R425-R429). The running values are the descriptor's fields (0-14), the dropped count (15), the phase (16), the
expert of the row under way (17), and the demand counts of the experts from 18 on. -/

/-- The descriptor of a ROUTE command read (R425). -/
def routeBegin (e : Eng) : Except Stop Eng := do
  let (ws, e1) ← e.words false (e.cmd.arg 2) 16
  let w (i : Nat) : Word64 := (ws[i]?).getD 0
  let t := fld (w 0) 31 0
  let ex := fld (w 0) 43 32
  let k := fld (w 0) 47 44
  let cap := fld (w 1) 19 0
  let dcap := fld (w 1) 63 32
  let rb := fld (w 2) 31 0
  let rs := fld (w 2) 63 32
  let fmt := fld (w 10) 4 0
  let tabs := [w 4, w 5, w 6, w 7, w 8]
  let bad := t = 0 || ex = 0 || 4094 < ex || k = 0 || 8 < k || fld (w 0) 63 48 != 0 || fld (w 1) 31 20 != 0 ||
    rb % 4 != 0 || rb < 4 || 65536 < rb || rs % 4 != 0 || rs < rb || tabs.any (fun a => a.toNat % 8 != 0) ||
    fld (w 10) 63 5 != 0 || (fmt != 0 && fmt != 2) || (ws.drop 11).any (fun x => x != 0)
  if bad then .error (.status e1 sBADARG)
  else
    let acc := [t, ex, k, cap, dcap, rb, rs, (w 3).toNat, (w 4).toNat, (w 5).toNat, (w 6).toNat, (w 7).toNat, (w 8).toNat,
      (w 9).toNat, fmt, 0, 0, 0] ++ List.replicate ex 0
    .ok { e1.go 0 with cmd := { (e1.go 0).cmd with acc := acc } }

/-- The address of an entry of a table. -/
def tabAt (base i n : Nat) : Word64 := BitVec.ofNat 64 (base + i * n)

/-- One choice placed or dropped, in rank-major order (R427). -/
def routeChoice (dsp : Bool) (e : Eng) : Except Stop Eng := do
  let t := e.val 0
  let k := e.val 2
  let r := e.cmd.pos / t
  let tok := e.cmd.pos % t
  let entry := tok * k + r
  let (cw, e1) ← e.word false (tabAt (e.val 8) entry 8) 8
  let ex := cw % 2 ^ 16
  -- R426: zero bits of the table, as a field out of range (notes/assumptions 109)
  if cw / 2 ^ 16 % 2 ^ 16 ≠ 0 then .error (.status e1 sBADARG)
  let cnt := e.val (18 + ex)
  let reason := if e.val 1 ≤ ex then 2 else if e.val 3 ≤ cnt then 1 else 0
  let inv := if reason = 0 then ex * 2 ^ 20 + cnt else 0xFFFFFFFF
  let e2 ← (if dsp then e1.wr false (tabAt (e.val 10) entry 4) 4 inv 2 else .ok e1 : Except Stop Eng)
  let e3 ← (if reason ≠ 0 && decide (e.val 15 < e.val 4) then
      e2.wr false (tabAt (e.val 11) (e.val 15) 8) 8 (reason * 2 ^ 56 + ex * 2 ^ 40 + r * 2 ^ 32 + tok) 2 else .ok e2 : Except Stop Eng)
  let e4 := if reason = 2 then e3 else e3.setVal (18 + ex) (cnt + 1)
  let e5 := if reason = 0 then e4 else e4.setVal 15 (e4.val 15 + 1)
  .ok (e5.go 1)

/-- ROUTE.DSP and ROUTE.STAT (R427, R429): choices, then counts, then rows. -/
def routeWork (dsp : Bool) (e : Eng) : Except Stop Work :=
  let t := e.val 0
  let k := e.val 2
  let phase (e : Eng) (p : Nat) : Eng := { (e.setVal 16 p) with cmd := { (e.setVal 16 p).cmd with pos := 0 } }
  match e.val 16 with
  | 0 => do
    let e1 ← routeChoice dsp e
    .ok (.more (if t * k ≤ e1.cmd.pos then phase e1 1 else e1))
  | 1 => do
    let ex := e.cmd.pos
    let cnt := e.val (18 + ex)
    let e1 ← e.wr false (tabAt (e.val 12) ex 8) 8 (cnt * 2 ^ 32 + min cnt (e.val 3)) 2
    let e2 := e1.go 1
    .ok (if e2.cmd.pos < e.val 1 then .more e2 else if dsp then .more (phase e2 2) else .fin e2 (e.val 15))
  | _ =>
    if t * k ≤ e.cmd.pos then .ok (.fin e (e.val 15))
    else do
      let entry := e.cmd.pos
      let (inv, e1) ← e.word false (tabAt (e.val 10) entry 4) 4
      if inv = 0xFFFFFFFF then .ok (.more (e1.go 1))
      else do
        let e1 := e1.setVal 17 (inv / 2 ^ 20)
        let (b, e2) ← e1.word false (tabAt (e.val 9) (inv / 2 ^ 20) 8) 8
        if b / 2 ^ 48 ≠ 0 then .error (.status e2 sBADARG)
        let (row, e3) ← e2.rd false (tabAt (e.val 7) (entry / k) (e.val 5)) (e.val 5) 1030
        let e4 ← e3.wr false (BitVec.ofNat 64 (b % 2 ^ 48 + inv % 2 ^ 20 * e.val 6)) (e.val 5) row 1030
        .ok (.more (e4.go 1))

/-- ROUTE.CMB (R428): one token. -/
def combineWork (e : Eng) : Except Stop Work :=
  let t := e.val 0
  let k := e.val 2
  let rb := e.val 5
  let tok := e.cmd.pos
  let f : Fmt := if e.val 14 = 0 then .f32 else .bf16
  let c := f.memBits
  let n := 8 * rb / c
  if t ≤ tok then .ok (.fin e t)
  else do
    let (acc, e1) ← (List.range k).foldlM (fun (a : List Nat × Eng) r => do
      let entry := tok * k + r
      let (inv, e1) ← a.2.word false (tabAt (e.val 10) entry 4) 4
      if inv = 0xFFFFFFFF then .ok (a.1, e1)
      else do
        let (cw, e2) ← e1.word false (tabAt (e.val 8) entry 8) 8
        let (b, e3) ← e2.word false (tabAt (e.val 9) (inv / 2 ^ 20) 8) 8
        -- R426: zero bits of the tables, as a field out of range (notes/assumptions 109)
        if cw / 2 ^ 16 % 2 ^ 16 ≠ 0 || b / 2 ^ 48 ≠ 0 then .error (.status e3 sBADARG)
        let (row, e4) ← e3.rd false (BitVec.ofNat 64 (b % 2 ^ 48 + inv % 2 ^ 20 * e.val 6)) rb 1030
        let g := decFp .f32 false (cw / 2 ^ 32)
        .ok (a.1.zipIdx.map fun x =>
          (encFp .f32 rneOpt (vFma g (decFp f false ((row >>> (c * x.2)) % 2 ^ c)) (decFp .f32 false x.1)).1).1, e4))
      (List.replicate n 0, e)
    let ys := acc.map fun x => (encFp f rneOpt (decFp .f32 false x)).1
    let e2 ← e1.wr false (tabAt (e.val 13) tok rb) rb (packElems c ys) 1030
    let e3 := e2.go 1
    .ok (if t ≤ e3.cmd.pos then .fin e3 t else .more e3)

/-- One unit of a command's work. -/
def engWork (e : Eng) : Except Stop Work :=
  match e.cmd.op with
  | 0x301 => copyWork e
  | 0x302 => copy2dWork e
  | 0x303 => gatherWork false e
  | 0x304 => gatherWork true e
  | 0x305 => streamWork e
  | 0x306 => strendWork e
  | 0x307 => routeWork true e
  | 0x308 => combineWork e
  | _ => routeWork false e

/-- A command's begin: its acquire, before its first read (R240), and its descriptor. -/
def engBegin (e : Eng) : Except Stop Eng :=
  if e.cmd.begun then .ok e
  else
    let m := mods e.cmd.w.d
    let acq := Forms.ordOf m = 1 || Forms.ordOf m = 3
    let s := if acq then e.s.acquireAt (clusterOfTile (queueTile e.q)) (Forms.scopeOf m) fun _ => true else e.s
    let e := { e with s := s }
    let r := match e.cmd.op with
      | 0x303 | 0x304 => gatherBegin e
      | 0x307 | 0x308 | 0x309 => routeBegin e
      | _ => .ok e
    r.map fun e => { e with cmd := { e.cmd with begun := true } }

/-- INFO of a command that fails (R418, R421, R422, R427): the position of the first unit not delivered; for a ROUTE command the
specification names a position only for a refused row, its expert, and another is a free value. -/
def engFailInfo (e : Eng) (st : Nat) : Nat × Eng :=
  match e.cmd.op with
  | 0x301 | 0x302 => (e.posn, e)
  | 0x307 | 0x308 | 0x309 =>
    if st = sBADARG then (0, e)
    else if st = sREFUSED && e.cmd.op = 0x307 && e.val 16 = 2 then (e.val 17, e)
    else let (v, e1) := e.free; (v.toNat % 2 ^ 48, e1)
  | _ => (e.cmd.pos, e)

/-- Do the tables of a ROUTE.DSP still have to go out before its first row is copied (R427)? -/
def Eng.tablesFirst (e : Eng) : Bool := !e.cmd.out.isEmpty && e.cmd.op = 0x307 && e.val 16 = 2 && e.cmd.pos = 0

/-- `n` more units of the head command of a queue. -/
def engUnits : Nat → Eng → Except Stop Work
  | 0, e => .ok (.more e)
  | n + 1, e => do
    match ← engWork e with
    | .more e1 => if e1.tablesFirst then .ok (.more e1) else engUnits n e1
    | .fin e1 i => .ok (.fin e1 i)

/-- The release of a command's flag, after its last write (R240): what it writes back, and at `.pod` the markers towards every package
that it stored to (R45, R489). -/
def Eng.releaseMarks (e : Eng) : State :=
  let c := e.cmd
  let sc := Forms.scopeOf (mods c.w.d)
  let s1 := e.s.releaseAt (clusterOfTile (queueTile e.q)) sc fun _ => true
  if sc = 7 then c.far.foldl (fun t p => t.sendMark p 2 (.engMark e.q) c.slot c.recAddr c.ctx) s1 else s1

/-- The status word of the head command of queue `q` on its way, and the next command's turn. -/
def Eng.leave (e : Eng) (st info at0 : Nat) : State :=
  let c := e.cmd
  let t := queueTile e.q
  let due := at0 + (if c.op = 0x305 then 8 else 4)
  let s2 := e.s.landCmd c due (setBit (engStatus st info) 55 c.late)
  let s3 := s2.setQueueOf e.q (s2.queueOf e.q).tail
  let s4 := if s3.compactAt c.slot then
      let k := coreAt t (e.q % 8)
      (s3.setCore k { s3.core k with ceAt := due }).setTile t { s3.tile t with ceFree := at0 + 1 }
    else s3
  s4.wakeFull t

/-- The head command of queue `q` has made its last write: its release, if a flag asks for one, and its status word, which lands once the
markers of the release and the invalidation rounds of page-table lines have been answered (R240, R262, R418, R489). -/
def engEnd (e : Eng) (st info at0 : Nat) : State :=
  let c := e.cmd
  let rel := Forms.ordOf (mods c.w.d) = 2 || Forms.ordOf (mods c.w.d) = 3
  if c.fin.isSome then e.leave st info at0
  else
    let s1 := if rel then e.releaseMarks else e.s
    if (s1.fab.out.any fun r => r.use == .engMark e.q) || c.pts.any s1.ptBusy then
      s1.setQueueOf e.q ({ c with fin := some (st, info) } :: (s1.queueOf e.q).tail)
    else { e with s := s1 }.leave st info at0

/-- The head command of queue `q` has done its last unit: what it still has to write goes out first (R241). -/
def engClose (e : Eng) (st info at0 : Nat) : State :=
  if e.cmd.out.isEmpty then engEnd e st info at0
  else e.s.setQueueOf e.q ({ e.cmd with done := some (st, info) } :: (e.s.queueOf e.q).tail)

/-- The phase cycle at which the head of a CE queue starts: when the CE is free, a semaphore operation once the command before it in its
queue has landed its status word (R419, R417). -/
def State.ceStart (s : State) (t k : Nat) (c : Cmd) : Nat :=
  if c.op = 0x2CA || c.op = 0x2CB then s.semStart t (t * 8 + k) c
  else max c.start (max (s.tile t).ceFree (s.core (coreAt t k)).ceSem)

/-- The head command of a queue works on: one unit in compact mode (R419), in free mode a number of units that the specification
leaves open (a free value), so that its accesses and those of others interleave (R240). -/
def engRun (q : Nat) (s : State) : State :=
  match s.queueOf q with
  | [] => s
  | c :: r =>
    let t := queueTile q
    let at0 := s.ceStart t (q % 8) c
    let compact := s.compactAt c.slot
    let (fv, s0) := if compact then (0, s) else s.freeVal
    let n := if compact then 1 else fv.toNat + 1
    let put (e : Eng) : State := e.s.setQueueOf q (e.cmd :: (e.s.queueOf q).tail)
    let _ := r
    match c.fin with
    | some (st, info) => engEnd ⟨s, q, c, 0, 0⟩ st info at0
    | none =>
    let e0 : Eng := ⟨s0, q, c, 0, 0⟩
    let work : Except Stop Work := match c.done with
      | some (_, i) => (e0.flush n).map fun e => if e.cmd.out.isEmpty then .fin e i else .more e
      | none => if e0.tablesFirst then (e0.flush n).map Work.more else engBegin e0 >>= engUnits n
    match work with
    | .ok (.more e) =>
      let s1 := put e
      if compact then s1.setTile t { s1.tile t with ceFree := at0 + 1 } else s1
    | .ok (.fin e info) => engClose e ((c.done.map Prod.fst).getD 0) info at0
    | .error (.status e st) =>
      if c.done.isSome || e0.tablesFirst then
        -- a granule that could not go out: the first position not delivered is its own, and nothing behind it goes out
        let (i, e1) := engFailInfo { e with cmd := { e.cmd with pos := ((e.cmd.out.head?).map OutPart.pos).getD 0 }, moved := 0 } st
        engEnd { e1 with cmd := { e1.cmd with out := [] } } st i at0
      else let (i, e1) := engFailInfo e st; engClose e1 st i at0
    | .error (.fault e k a va) =>
      let (s1, c1) := e.s.parkCmd e.cmd (if q % 8 = 4 then 2 else 1) k a va
      s1.setQueueOf q (c1 :: (s1.queueOf q).tail)
    | .error (.home e) => put e
    | .error (.wait e) => put e

/-- Does the head of queue `q` wait: for a boundary, for a RESP or a group's answer, for a retry? -/
def State.engWaits (s : State) (q : Nat) (c : Cmd) : Bool :=
  !c.home.isEmpty || c.park.isSome || (s.fab.out.any fun r => r.use == .engine q || r.use == .engMark q) ||
    (s.groups.any fun g => g.2.work.any fun r => r.1 == q) ||
    (c.fin.isSome && c.pts.any s.ptBusy)

/-- Does the head of queue `q` wait in a semaphore operation, entered among the waiters and not yet able to complete (R417)? -/
def State.semStuck (s : State) (t q : Nat) (c : Cmd) : Bool :=
  let who := 2 ^ 20 + q
  c.op == 0x2CB && ((s.tile t).semw.any fun e => e.who == who) && (s.semReady t (c.arg 0).toNat).map SemWait.who != some who

/-- The queue whose turn it was: of the CE's four (R168), or, for 4, of the twelve of the tile's row (R169). -/
def State.noteServed (s : State) (t queue : Nat) : State :=
  if queue < 4 then s.setTile t { s.tile t with ceLast := queue }
  else
    let k := s.cluster (clusterOfTile t)
    s.setCluster (clusterOfTile t) { k with reLast := k.reLast.setIfInBounds (t % 48 / 12) (t % 12) }

/-- ENGINE_COMMAND_START (R168, R169, R417, R419): the CE or RE works on the head of a queue of a tile: 0 to 3 the cores' CE
queues, 4 the RE's. -/
def engineCommandStart (t queue : Nat) (s : State) : State :=
  let q := t * 8 + queue % 5
  match s.queueOf q with
  | [] => s
  | c :: _ =>
    if s.engWaits q c then s
    else if c.op = 0x2CA || c.op = 0x2CB then
      let s1 := s.semRun t q c
      if (s1.queueOf q).length < (s.queueOf q).length then s1.noteServed t (queue % 5) else s1
    else
      engRun q (if c.begun then s else s.noteServed t (queue % 5))

/-- The next register-full of a read stream fetched, or tried again (R402, R255, R190). -/
def streamFetch (n reg : Nat) (b : Stream) (s : State) : State :=
  let t := tileOf n
  let i := b.pos + b.ahead.length
  let c := { pushCmd { s with cur := n } b VReg.reset 0 0 with served := b.served, park := b.park }
  let put (s : State) (b : Stream) : State := s.modSlot n fun y =>
    let y := y.setStream reg (some b)
    if y.wait = .status then { y with wait := .none } else y
  let e : Eng := ⟨s, t * 8, c, 0, 0⟩
  let a := b.addr i
  if e.isFar b.win a .engRead then put s { b with bad := true, park := none }
  else match e.rd b.win a (64 * laneBytes b.fmt) 10 with
    | .ok (v, e1) =>
      put e1.s { b with ahead := b.ahead ++ [⟨some b.fmt, BitVec.ofNat 2048 (regBits b.fmt v)⟩], served := [], home := [], park := none }
    | .error (.status e1 _) => put e1.s { b with bad := true, park := none, home := [] }
    | .error (.fault e1 k ac va) =>
      let (s1, c1) := e1.s.parkCmd c 1 k ac va
      put s1 { b with park := c1.park }
    | .error (.home e1) => put e1.s { b with home := e1.cmd.home, park := none }
    | .error (.wait e1) => e1.s

/-- STREAM_READAHEAD (R402): the next register-full of a read stream arrives; for a write stream the oldest push is written. -/
def streamReadahead (n reg : Nat) (s : State) : State :=
  match (s.getSlot n).stream reg with
  | none => s
  | some b =>
    if b.write then
      if ((s.core (coreOf n)).pushes.head?.bind Cmd.park).isSome then s else pushStep (coreOf n) (tileOf n) s
    else if b.cnt ≤ b.pos + b.ahead.length || b.bad || !b.home.isEmpty || b.park.isSome then s
    else streamFetch n reg b s

/-- ENGINE_STATUS_LAND (R140): a status word lands in its register, or in the strand's context block. -/
def engineStatusLand (i : Nat) (s : State) : State :=
  match s.landings[i]? with
  | none => s
  | some l => { s with landings := s.landings.eraseIdx i }.landStatus l.slot l.reg l.recAddr l.ctx l.val

/-- COPY (R421). -/
def execCopy (w : Ins) (s : State) : Host.Outcome State Fault Refusal := run (.copy w) w false false (copyBody w) s
/-- COPY2D (R421). -/
def execCopy2d (w : Ins) (s : State) : Host.Outcome State Fault Refusal := run (.copy2d w) w false false (copy2dBody w) s
/-- GATHER (R423). -/
def execGather (w : Ins) (s : State) : Host.Outcome State Fault Refusal := run (.gather w) w false false (gatherBody 0x303 w) s
/-- SCATTER (R423). -/
def execScatter (w : Ins) (s : State) : Host.Outcome State Fault Refusal := run (.scatter w) w false false (gatherBody 0x304 w) s
/-- STREAM (R424). -/
def execStream (w : Ins) (s : State) : Host.Outcome State Fault Refusal := run (.stream w) w false false (streamBody w) s
/-- STREND (R424). -/
def execStrend (w : Ins) (s : State) : Host.Outcome State Fault Refusal := run (.strend w) w false false (strendBody w) s
/-- ROUTE.DSP (R427). -/
def execRouteDsp (w : Ins) (s : State) : Host.Outcome State Fault Refusal := run (.routeDsp w) w false false (routeBody 0x307 w) s
/-- ROUTE.CMB (R428). -/
def execRouteCmb (w : Ins) (s : State) : Host.Outcome State Fault Refusal := run (.routeCmb w) w false false (routeBody 0x308 w) s
/-- ROUTE.STAT (R429). -/
def execRouteStat (w : Ins) (s : State) : Host.Outcome State Fault Refusal := run (.routeStat w) w false false (routeBody 0x309 w) s

end Sys2Proof.Machine
end

