-- ==== Sys2Proof/Machine/Fabric.lean ====
section
/-! DEFINITION. Fabric instructions, group D (18 R430-R433). A request leaves with the next number; its RESP comes by the moves of
the links. -/

namespace Sys2Proof.Machine
open Sys2Proof

/-- Where a fabric instruction's operand lies: on a REM page, or not (R431). Alignment traps, a non-canonical address and a denied
access trap PROT, a translation fault parks. -/
def State.fabAddr (s : State) (ea : Word64) (n : Nat) (a : Acc) (far : Nat → Nat → Res) (other : Res) : Res :=
  if s.compact then .trap .prot 0
  else if ea.toNat % n ≠ 0 then .trap .align (infoAddr ea)
  else if 2 ^ 48 ≤ ea.toNat then .trap .prot (infoAddr ea)
  else if s.slot.denied a ea.toNat then .trap .prot (infoAddr ea)
  else match s.xlate s.cur ea.toNat a with
    | .fault k => if isTsc s.cur then .trap .prot (infoAddr ea) else .hold (s.parkAt s.cur k a ea.toNat)
    | .far pkg pa => (far pkg pa).after (s.passed s.cur ea.toNat a)
    | _ => other

/-- The status word put into a register at once. -/
def State.putStatus (s : State) (r st : Nat) : State := s.put 1 (.s r (engStatus st 0))

/-- The status word of an instruction that has waited for its RESP, with its LATE (R55, R418). -/
def State.putReplied (s : State) (r st : Nat) : State :=
  s.put 1 (.s r (setBit (engStatus st 0) 55 ((s.slot.reply.map fun p => bit p.1 7).getD false)))

/-- A register pair marked as awaiting a RESP. -/
def State.awaitPair (s : State) (r : Nat) : State := (s.await r).await (r + 1)

/-- RLD's data as its register receives it (R432). -/
def rldData (m : BitVec 10) (v : Nat) : Word64 :=
  let n := typeBytes m
  if bit m 0 then zext (BitVec.ofNat 64 v) (8 * n) else sext (BitVec.ofNat 64 v) (8 * n)

/-- The status that stands for a local refusal in `farScalar`. -/
def State.replyStatus (s : State) (pkg st : Nat) : Nat := if st = 0x100 then s.refusal pkg else st

/-- RLD (R432): status in s(2n), data in s(2n + 1); with `.acq` the strand waits, since its later accesses follow the acquire. -/
def rldBody (w : Ins) (s : State) : Res :=
  let m := mods w.d
  let n := typeBytes m
  let r := num w.d
  let fail (s : State) (st : Nat) : Res := .ok ((s.putStatus r st).put 1 (.s (r + 1) 0))
  s.fabAddr (s.slot.ea w.a) n .load
    (fun pkg pa =>
      let q := mkRequest 0 0 pa n 0 []
      if Forms.ordOf m = 1 then
        s.farScalar pkg q (fun t v => .ok (((t.acquire 7).putReplied r 0).put 1 (.s (r + 1) (rldData m v.toNat))))
          fun st => .ok (((s.acquire 7).putReplied r (s.replyStatus pkg st)).put 1 (.s (r + 1) 0))
      else if s.acceptsMine pkg q then .ok ((s.sendReq pkg q (.rld r n (bit m 0))).awaitPair r)
      else fail s (s.refusal pkg))
    (fail s sPROT)

/-- RST (R432): under ACKL 0 its status lands at acceptance. -/
def rstBody (w : Ins) (s : State) : Res :=
  let m := mods w.d
  let n := typeBytes m
  let r := num w.d
  let ackl := Forms.oth2 m
  s.fabAddr (s.slot.ea w.a) n .store
    (fun pkg pa =>
      if Forms.ordOf m = 2 && s.relWaits 7 then .hold (s.sendMarks.waitFor .home)
      else
        let s := if Forms.ordOf m = 2 then s.release 7 else s
        let q := mkRequest 1 ackl pa n 0 (bytesOfNat n (unsignedOf (s.slot.opS w.b) (8 * n)))
        if !s.acceptsMine pkg q then .ok (s.putStatus r (s.refusal pkg))
        else
          let t := s.sendReq pkg q (.rst r (ackl = 0))
          .ok (if ackl = 0 then t.putStatus r 0 else t.await r))
    (.ok (s.putStatus r sPROT))

/-- RATOM (R432): the old value in s(2n + 1), which is the comparand under cas; with `.acq` or `.ar` the strand waits. -/
def ratomBody (w : Ins) (s : State) : Res :=
  let m := mods w.d
  let n := typeBytes m
  let r := num w.d
  let aop := (mods w.b).toNat
  let b := unsignedOf (s.slot.getS (num w.b)) (8 * n)
  let c := unsignedOf (s.slot.getS (r + 1)) (8 * n)
  s.fabAddr (s.slot.ea w.a) n .atomic
    (fun pkg pa =>
      if ordReleases m && s.relWaits 7 then .hold (s.sendMarks.waitFor .home)
      else
        let s := if ordReleases m then s.release 7 else s
        let q := mkRequest 2 0 pa n aop (bytesOfNat n b ++ bytesOfNat n c)
        if Forms.ordOf m = 1 || Forms.ordOf m = 3 then
          s.farScalar pkg q (fun t v => .ok (((t.acquire 7).putReplied r 0).put 1 (.s (r + 1) v)))
            fun st => .ok ((s.acquire 7).putReplied r (s.replyStatus pkg st))
        else if s.acceptsMine pkg q then .ok ((s.sendReq pkg q (.ratom r n)).awaitPair r)
        else .ok (s.putStatus r (s.refusal pkg)))
    (.ok (s.putStatus r sPROT))

/-- RFENCE (R433): waits for the strand's fabric stores, at `.pod` for the `.sys` level and at narrower scopes for `.acc`, then acts as
FENCE. -/
def rfenceBody (w : Ins) (s : State) : Res :=
  if s.compact then .trap .prot 0
  else
    let level := if Forms.scopeOf (mods w.d) = 7 then 2 else 1
    if !(s.awaited level).isEmpty then .hold ((s.sendMarks level).waitFor .home)
    else fenceBody (Forms.ordOf (mods w.d)) (Forms.scopeOf (mods w.d)) (fun _ => true) s

/-- RLD (R432). -/
def execRld (w : Ins) (s : State) : Host.Outcome State Fault Refusal := run (.rld w) w false false (rldBody w) s
/-- RST (R432). -/
def execRst (w : Ins) (s : State) : Host.Outcome State Fault Refusal := run (.rst w) w false false (rstBody w) s
/-- RATOM (R432). -/
def execRatom (w : Ins) (s : State) : Host.Outcome State Fault Refusal := run (.ratom w) w false false (ratomBody w) s
/-- RFENCE (R433). -/
def execRfence (w : Ins) (s : State) : Host.Outcome State Fault Refusal := run (.rfence w) w false false (rfenceBody w) s

end Sys2Proof.Machine
end

