-- ==== Sys2Proof/Machine/Integer.lean ====
section
/-! DEFINITION. Scalar integer instructions, groups 0 and 1 (15_isa_scalar_control R332-R337). The register and the immediate
form of one index have the same effect (R322); each arm has its own meaning over the shared operations. -/

namespace Sys2Proof.Machine
open Sys2Proof

/-- What an integer operation computes with: width, U, both operands as integers, both as raw bits, and D's old value. -/
structure IntArgs where
  w  : Nat
  va : Int
  vb : Int
  a  : Nat
  b  : Nat
  vd : Int

/-- The arguments an integer instruction reads (R333, R334): D is read at issue. -/
def intArgs (x : Slot) (w : Ins) : IntArgs :=
  let m := mods w.d
  let k := intW m
  let u := intU m
  let a := x.opS w.a
  let b := x.opS w.b
  ⟨k, intVal k u a, intVal k u b, unsignedOf a k, unsignedOf b k, intVal k u (x.getS (num w.d))⟩

/-- The general effect of R333 with latency `lat` (R148): the exact result, clamped or wrapped, extended, written to D. -/
def intBody (w : Ins) (lat : Nat) (op : IntArgs → Int) (s : State) : Res :=
  let m := mods w.d
  .ok (s.put lat (.s (num w.d) (intResult (intW m) (intU m) (intSat m) (op (intArgs s.slot w)))))

/-- A 64-bit result of its own. -/
def wordBody (w : Ins) (f : Slot → Word64) (s : State) : Res := .ok (s.put 1 (.s (num w.d) (f s.slot)))

/-- The shift or rotate count: vb mod w (R334). -/
def IntArgs.n (i : IntArgs) : Nat := i.b % i.w

/-- va + vb (R335). -/
def opAdd (i : IntArgs) : Int := i.va + i.vb
/-- va - vb. -/
def opSub (i : IntArgs) : Int := i.va - i.vb
/-- va · vb. -/
def opMul (i : IntArgs) : Int := i.va * i.vb
/-- The high w bits of the exact product. -/
def opMulh (i : IntArgs) : Int := i.va * i.vb / 2 ^ i.w
/-- The quotient truncated toward zero; all ones for a divisor 0 (R288). -/
def opDiv (i : IntArgs) : Int := if i.vb = 0 then -1 else i.va.tdiv i.vb
/-- The remainder of the truncated division; the dividend for a divisor 0 (R288). -/
def opRem (i : IntArgs) : Int := if i.vb = 0 then i.va else i.va.tmod i.vb
/-- a AND b. -/
def opAnd (i : IntArgs) : Int := (i.a &&& i.b : Nat)
/-- a OR b. -/
def opOr (i : IntArgs) : Int := (i.a ||| i.b : Nat)
/-- a XOR b. -/
def opXor (i : IntArgs) : Int := (i.a ^^^ i.b : Nat)
/-- a AND NOT b. -/
def opAndn (i : IntArgs) : Int := (i.a &&& (2 ^ i.w - 1 - i.b) : Nat)
/-- va · 2^n. -/
def opShl (i : IntArgs) : Int := i.va * 2 ^ i.n
/-- unsigned(a) >> n, whatever U. -/
def opShr (i : IntArgs) : Int := (i.a >>> i.n : Nat)
/-- ⌊signed(a) / 2^n⌋, whatever U. -/
def opSar (i : IntArgs) : Int := (if i.a.testBit (i.w - 1) then (i.a : Int) - 2 ^ i.w else i.a) / 2 ^ i.n
/-- a rotated left by n within w bits. -/
def opRot (i : IntArgs) : Int := ((i.a <<< i.n) % 2 ^ i.w + i.a >>> (i.w - i.n) : Nat)
/-- Leading zero bits; w for 0. -/
def opClz (i : IntArgs) : Int := (if i.a = 0 then i.w else i.w - 1 - i.a.log2 : Nat)
/-- Trailing zero bits; w for 0. -/
def opCtz (i : IntArgs) : Int := (findFrom (fun k => i.a.testBit k) 0 i.w : Nat)
/-- Set bits. -/
def opPopc (i : IntArgs) : Int := (popCount (BitVec.ofNat 64 i.a) i.w : Nat)
/-- The lesser of va and vb. -/
def opMin (i : IntArgs) : Int := min i.va i.vb
/-- The greater of va and vb. -/
def opMax (i : IntArgs) : Int := max i.va i.vb
/-- |va|. -/
def opAbs (i : IntArgs) : Int := i.va.natAbs
/-- vd + va · vb. -/
def opMadd (i : IntArgs) : Int := i.vd + i.va * i.vb

/-- The length of a bit-field specification (R334). -/
def bfLen (b : Word64) : Nat := fld b 13 8 + 1
/-- Its position. -/
def bfPos (b : Word64) : Nat := fld b 5 0

/-- BFX: the field of A, zero- or sign-extended from its top bit (R335). -/
def bfx (w : Ins) (x : Slot) : Word64 :=
  let b := x.opS w.b
  let v := (x.opS w.a) >>> bfPos b
  if intU (mods w.d) then zext v (bfLen b) else sext v (bfLen b)

/-- BFI: D with the field replaced by A's low bits (R335). -/
def bfi (w : Ins) (x : Slot) : Word64 :=
  let b := x.opS w.b
  setFld (x.getS (num w.d)) (bfPos b) (bfLen b) (x.opS w.a).toNat

/-- SEXT and ZEXT: from bit k - 1 with k := min(B, 64), 0 for k = 0 (R335). -/
def extend (signed : Bool) (w : Ins) (x : Slot) : Word64 :=
  let k := min (x.opS w.b).toNat 64
  if k = 0 then 0 else if signed then sext (x.opS w.a) k else zext (x.opS w.a) k

/-- SEL: A when p[k] holds, otherwise B, k in A's modifier bits [11:8] (R336). -/
def selVal (w : Ins) (x : Slot) : Word64 := if x.getP (fld (mods w.a) 3 0) then x.opS w.a else x.opS w.b

/-- CMP: the predicate D := cond(va, vb), the condition in A's modifier bits [10:8] (R336). -/
def cmpBody (w : Ins) (s : State) : Res :=
  let i := intArgs s.slot w
  .ok (s.put 1 (.p (num w.d) (intCond (fld (mods w.a) 2 0) i.va i.vb)))

/-- The write of a MOV or LI destination by its class (R337). -/
def movWrite (d : Operand) (v : Word64) : RegWrite :=
  match Forms.clsOf d with
  | 0 => .s (num d) v
  | 3 => .m (num d) v
  | 5 => .link (num d == 0) v
  | _ => .lc (v.setWidth 32)

/-- MOV (R337): 64 bits between s, m, link and lc; a link operand traps PROT in free mode (R167). -/
def movBody (w : Ins) (s : State) : Res :=
  let link := Forms.clsOf w.a == 5 || Forms.clsOf w.d == 5
  if link && !s.compact then .trap .prot 0
  else
    let (v, t) : Word64 × State :=
      match Forms.clsOf w.a with
      | 0 => (s.slot.getS (num w.a), s)
      | 3 => (s.slot.getM (num w.a), s)
      | 5 => s.popLink (num w.a == 0)
      | _ => (s.slot.lc.setWidth 64, s)
    .ok (t.put 1 (movWrite w.d v))

/-- ADD (R335). -/
def execAdd (w : Ins) (s : State) : Host.Outcome State Fault Refusal :=
  run (.add w) w false false (intBody w 1 opAdd) s
/-- SUB (R335). -/
def execSub (w : Ins) (s : State) : Host.Outcome State Fault Refusal :=
  run (.sub w) w false false (intBody w 1 opSub) s
/-- MUL (R335). -/
def execMul (w : Ins) (s : State) : Host.Outcome State Fault Refusal :=
  run (.mul w) w false false (intBody w 3 opMul) s
/-- MULH (R335). -/
def execMulh (w : Ins) (s : State) : Host.Outcome State Fault Refusal :=
  run (.mulh w) w false false (intBody w 3 opMulh) s
/-- DIV (R335). -/
def execDiv (w : Ins) (s : State) : Host.Outcome State Fault Refusal :=
  run (.div w) w false false (intBody w 20 opDiv) s
/-- REM (R335). -/
def execRem (w : Ins) (s : State) : Host.Outcome State Fault Refusal :=
  run (.rem w) w false false (intBody w 20 opRem) s
/-- AND (R335). -/
def execAnd (w : Ins) (s : State) : Host.Outcome State Fault Refusal :=
  run (.and w) w false false (intBody w 1 opAnd) s
/-- OR (R335). -/
def execOr (w : Ins) (s : State) : Host.Outcome State Fault Refusal :=
  run (.or w) w false false (intBody w 1 opOr) s
/-- XOR (R335). -/
def execXor (w : Ins) (s : State) : Host.Outcome State Fault Refusal :=
  run (.xor w) w false false (intBody w 1 opXor) s
/-- ANDN (R335). -/
def execAndn (w : Ins) (s : State) : Host.Outcome State Fault Refusal :=
  run (.andn w) w false false (intBody w 1 opAndn) s
/-- SHL (R335). -/
def execShl (w : Ins) (s : State) : Host.Outcome State Fault Refusal :=
  run (.shl w) w false false (intBody w 1 opShl) s
/-- SHR (R335). -/
def execShr (w : Ins) (s : State) : Host.Outcome State Fault Refusal :=
  run (.shr w) w false false (intBody w 1 opShr) s
/-- SAR (R335). -/
def execSar (w : Ins) (s : State) : Host.Outcome State Fault Refusal :=
  run (.sar w) w false false (intBody w 1 opSar) s
/-- ROT (R335). -/
def execRot (w : Ins) (s : State) : Host.Outcome State Fault Refusal :=
  run (.rot w) w false false (intBody w 1 opRot) s
/-- CLZ (R335). -/
def execClz (w : Ins) (s : State) : Host.Outcome State Fault Refusal :=
  run (.clz w) w false false (intBody w 1 opClz) s
/-- CTZ (R335). -/
def execCtz (w : Ins) (s : State) : Host.Outcome State Fault Refusal :=
  run (.ctz w) w false false (intBody w 1 opCtz) s
/-- POPC (R335). -/
def execPopc (w : Ins) (s : State) : Host.Outcome State Fault Refusal :=
  run (.popc w) w false false (intBody w 1 opPopc) s
/-- MIN (R335). -/
def execMin (w : Ins) (s : State) : Host.Outcome State Fault Refusal :=
  run (.min w) w false false (intBody w 1 opMin) s
/-- MAX (R335). -/
def execMax (w : Ins) (s : State) : Host.Outcome State Fault Refusal :=
  run (.max w) w false false (intBody w 1 opMax) s
/-- ABS (R335). -/
def execAbs (w : Ins) (s : State) : Host.Outcome State Fault Refusal :=
  run (.abs w) w false false (intBody w 1 opAbs) s
/-- MADD (R335). -/
def execMadd (w : Ins) (s : State) : Host.Outcome State Fault Refusal :=
  run (.madd w) w false false (intBody w 3 opMadd) s
/-- SEL (R335, R336). -/
def execSel (w : Ins) (s : State) : Host.Outcome State Fault Refusal :=
  run (.sel w) w false false (wordBody w (selVal w)) s
/-- CMP (R336). -/
def execCmp (w : Ins) (s : State) : Host.Outcome State Fault Refusal :=
  run (.cmp w) w false false (cmpBody w) s
/-- MOV (R337). -/
def execMov (w : Ins) (s : State) : Host.Outcome State Fault Refusal :=
  run (.mov w) w false false (movBody w) s
/-- BFX (R335). -/
def execBfx (w : Ins) (s : State) : Host.Outcome State Fault Refusal :=
  run (.bfx w) w false false (wordBody w (bfx w)) s
/-- BFI (R335). -/
def execBfi (w : Ins) (s : State) : Host.Outcome State Fault Refusal :=
  run (.bfi w) w false false (wordBody w (bfi w)) s
/-- SEXT (R335). -/
def execSext (w : Ins) (s : State) : Host.Outcome State Fault Refusal :=
  run (.sext w) w false false (wordBody w (extend true w)) s
/-- ZEXT (R335). -/
def execZext (w : Ins) (s : State) : Host.Outcome State Fault Refusal :=
  run (.zext w) w false false (wordBody w (extend false w)) s
/-- ADD, immediate form (R335). -/
def execAddImm (w : Ins) (s : State) : Host.Outcome State Fault Refusal :=
  run (.addImm w) w false false (intBody w 1 opAdd) s
/-- SUB, immediate form (R335). -/
def execSubImm (w : Ins) (s : State) : Host.Outcome State Fault Refusal :=
  run (.subImm w) w false false (intBody w 1 opSub) s
/-- MUL, immediate form (R335). -/
def execMulImm (w : Ins) (s : State) : Host.Outcome State Fault Refusal :=
  run (.mulImm w) w false false (intBody w 3 opMul) s
/-- MULH, immediate form (R335). -/
def execMulhImm (w : Ins) (s : State) : Host.Outcome State Fault Refusal :=
  run (.mulhImm w) w false false (intBody w 3 opMulh) s
/-- DIV, immediate form (R335). -/
def execDivImm (w : Ins) (s : State) : Host.Outcome State Fault Refusal :=
  run (.divImm w) w false false (intBody w 20 opDiv) s
/-- REM, immediate form (R335). -/
def execRemImm (w : Ins) (s : State) : Host.Outcome State Fault Refusal :=
  run (.remImm w) w false false (intBody w 20 opRem) s
/-- AND, immediate form (R335). -/
def execAndImm (w : Ins) (s : State) : Host.Outcome State Fault Refusal :=
  run (.andImm w) w false false (intBody w 1 opAnd) s
/-- OR, immediate form (R335). -/
def execOrImm (w : Ins) (s : State) : Host.Outcome State Fault Refusal :=
  run (.orImm w) w false false (intBody w 1 opOr) s
/-- XOR, immediate form (R335). -/
def execXorImm (w : Ins) (s : State) : Host.Outcome State Fault Refusal :=
  run (.xorImm w) w false false (intBody w 1 opXor) s
/-- ANDN, immediate form (R335). -/
def execAndnImm (w : Ins) (s : State) : Host.Outcome State Fault Refusal :=
  run (.andnImm w) w false false (intBody w 1 opAndn) s
/-- SHL, immediate form (R335). -/
def execShlImm (w : Ins) (s : State) : Host.Outcome State Fault Refusal :=
  run (.shlImm w) w false false (intBody w 1 opShl) s
/-- SHR, immediate form (R335). -/
def execShrImm (w : Ins) (s : State) : Host.Outcome State Fault Refusal :=
  run (.shrImm w) w false false (intBody w 1 opShr) s
/-- SAR, immediate form (R335). -/
def execSarImm (w : Ins) (s : State) : Host.Outcome State Fault Refusal :=
  run (.sarImm w) w false false (intBody w 1 opSar) s
/-- ROT, immediate form (R335). -/
def execRotImm (w : Ins) (s : State) : Host.Outcome State Fault Refusal :=
  run (.rotImm w) w false false (intBody w 1 opRot) s
/-- MIN, immediate form (R335). -/
def execMinImm (w : Ins) (s : State) : Host.Outcome State Fault Refusal :=
  run (.minImm w) w false false (intBody w 1 opMin) s
/-- MAX, immediate form (R335). -/
def execMaxImm (w : Ins) (s : State) : Host.Outcome State Fault Refusal :=
  run (.maxImm w) w false false (intBody w 1 opMax) s
/-- MADD, immediate form (R335). -/
def execMaddImm (w : Ins) (s : State) : Host.Outcome State Fault Refusal :=
  run (.maddImm w) w false false (intBody w 3 opMadd) s
/-- SEL, immediate form. -/
def execSelImm (w : Ins) (s : State) : Host.Outcome State Fault Refusal :=
  run (.selImm w) w false false (wordBody w (selVal w)) s
/-- CMP, immediate form. -/
def execCmpImm (w : Ins) (s : State) : Host.Outcome State Fault Refusal :=
  run (.cmpImm w) w false false (cmpBody w) s
/-- BFX, immediate form. -/
def execBfxImm (w : Ins) (s : State) : Host.Outcome State Fault Refusal :=
  run (.bfxImm w) w false false (wordBody w (bfx w)) s
/-- BFI, immediate form. -/
def execBfiImm (w : Ins) (s : State) : Host.Outcome State Fault Refusal :=
  run (.bfiImm w) w false false (wordBody w (bfi w)) s
/-- SEXT, immediate form. -/
def execSextImm (w : Ins) (s : State) : Host.Outcome State Fault Refusal :=
  run (.sextImm w) w false false (wordBody w (extend true w)) s
/-- ZEXT, immediate form. -/
def execZextImm (w : Ins) (s : State) : Host.Outcome State Fault Refusal :=
  run (.zextImm w) w false false (wordBody w (extend false w)) s
/-- LI: the 22-bit immediate, sign-extended, into an s-register or lc (R337). -/
def execLi (w : Ins) (s : State) : Host.Outcome State Fault Refusal :=
  run (.li w) w false false (fun s => .ok (s.put 1 (movWrite w.d (s.slot.opS w.a)))) s
/-- LIW: the 44-bit value, sign-extended (R337). -/
def execLiw (w : Ins) (s : State) : Host.Outcome State Fault Refusal :=
  run (.liw w) w false false (fun s => .ok (s.put 1 (.s (num w.d) (wideVal w.a w.b)))) s

end Sys2Proof.Machine
end

