-- ==== Sys2Proof/Machine/Predicate.lean ====
section
/-! DEFINITION. Predicate and mask instructions, group 4 (15_isa_scalar_control R343). -/

namespace Sys2Proof.Machine
open Sys2Proof

/-- A predicate result, landing after 1 cycle. -/
def predBody (w : Ins) (f : Slot → Bool) (s : State) : Res := .ok (s.put 1 (.p (num w.d) (f s.slot)))
/-- A mask result. -/
def maskBody (w : Ins) (f : Slot → Word64) (s : State) : Res := .ok (s.put 1 (.m (num w.d) (f s.slot)))
/-- A scalar result from a mask. -/
def maskScalar (w : Ins) (f : Word64 → Nat) (s : State) : Res :=
  .ok (s.put 1 (.s (num w.d) (BitVec.ofNat 64 (f (s.slot.getM (num w.a))))))

/-- PAND (R343). -/
def execPand (w : Ins) (s : State) : Host.Outcome State Fault Refusal :=
  run (.pand w) w false false (predBody w fun x => x.getP (num w.a) && x.getP (num w.b)) s
/-- POR (R343). -/
def execPor (w : Ins) (s : State) : Host.Outcome State Fault Refusal :=
  run (.por w) w false false (predBody w fun x => x.getP (num w.a) || x.getP (num w.b)) s
/-- PXOR (R343). -/
def execPxor (w : Ins) (s : State) : Host.Outcome State Fault Refusal :=
  run (.pxor w) w false false (predBody w fun x => x.getP (num w.a) != x.getP (num w.b)) s
/-- PNOT (R343). -/
def execPnot (w : Ins) (s : State) : Host.Outcome State Fault Refusal :=
  run (.pnot w) w false false (predBody w fun x => !x.getP (num w.a)) s
/-- PMOV: a predicate, or whether a value is nonzero (R343). -/
def execPmov (w : Ins) (s : State) : Host.Outcome State Fault Refusal :=
  run (.pmov w) w false false
    (predBody w fun x => if Forms.clsOf w.a == 1 then x.getP (num w.a) else x.opS w.a != 0) s
/-- MAND (R343). -/
def execMand (w : Ins) (s : State) : Host.Outcome State Fault Refusal :=
  run (.mand w) w false false (maskBody w fun x => x.getM (num w.a) &&& x.getM (num w.b)) s
/-- MOR (R343). -/
def execMor (w : Ins) (s : State) : Host.Outcome State Fault Refusal :=
  run (.mor w) w false false (maskBody w fun x => x.getM (num w.a) ||| x.getM (num w.b)) s
/-- MXOR (R343). -/
def execMxor (w : Ins) (s : State) : Host.Outcome State Fault Refusal :=
  run (.mxor w) w false false (maskBody w fun x => x.getM (num w.a) ^^^ x.getM (num w.b)) s
/-- MNOT (R343). -/
def execMnot (w : Ins) (s : State) : Host.Outcome State Fault Refusal :=
  run (.mnot w) w false false (maskBody w fun x => ~~~(x.getM (num w.a))) s
/-- MPOP: set bits, 0-64 (R343). -/
def execMpop (w : Ins) (s : State) : Host.Outcome State Fault Refusal :=
  run (.mpop w) w false false (maskScalar w fun m => popCount m 64) s
/-- MFIRST: the lowest set bit's index; 64 for 0 (R343). -/
def execMfirst (w : Ins) (s : State) : Host.Outcome State Fault Refusal :=
  run (.mfirst w) w false false (maskScalar w fun m => lowestSet m 64) s
/-- MTOP: OTH[9:8] 0 nonzero, 1 zero, 2 all ones (R343). -/
def execMtop (w : Ins) (s : State) : Host.Outcome State Fault Refusal :=
  run (.mtop w) w false false
    (predBody w fun x =>
      let m := x.getM (num w.a)
      match Forms.oth2 (mods w.d) with
      | 0 => m != 0
      | 1 => m == 0
      | _ => m == BitVec.allOnes 64) s

end Sys2Proof.Machine
end

