-- ==== Sys2Proof/WellFormed.lean ====
section
/-! DEFINITION. Which instructions are well formed: the fields that the map admits (R327), the guard (R302), and the ranges of the
other agents' moves. The checks themselves stand in Machine/Forms.lean. -/

namespace Sys2Proof

/-- A well-formed instruction. -/
abbrev Instr.wellFormed (i : Instr) : Bool := Forms.wellFormed i

end Sys2Proof
end

