-- ==== Sys2Proof/Decode.lean ====
section
/-! DEFINITION. The decoder, total on any 96 bits and refusing by name (13 R296-R302, 14 R320-R327), and the encoder. -/

namespace Sys2Proof
open Sys2Proof.Machine

/-- An operand field from its 24 bits (R298). -/
def decodeOperand (x : BitVec 24) : Operand :=
  match (x.extractLsb 23 22).toNat with
  | 0 => .reg (x.extractLsb 21 18) (x.extractLsb 17 8) (x.extractLsb 7 0)
  | 1 => .imm (x.extractLsb 21 0)
  | 2 => .mem (x.extractLsb 21 16) (x.extractLsb 15 0)
  | _ => .wide (x.extractLsb 21 0)

/-- The 24 bits of an operand field (R298). -/
def encodeOperand : Operand → BitVec 24
  | .reg c m n => (0#2 ++ c ++ m ++ n : BitVec 24)
  | .imm v => (1#2 ++ v : BitVec 24)
  | .mem b o => (2#2 ++ b ++ o : BitVec 24)
  | .wide v => (3#2 ++ v : BitVec 24)

/-- What a word carries beside its opcode (R296). -/
def decodeIns (w : BitVec 96) : Ins where
  gn := w.getLsbD 85
  gp := w.extractLsb 84 81
  st := w.extractLsb 80 77
  yd := w.getLsbD 76
  ra := w.getLsbD 75
  rb := w.getLsbD 74
  eop := w.getLsbD 73
  d := decodeOperand (w.extractLsb 71 48)
  a := decodeOperand (w.extractLsb 47 24)
  b := decodeOperand (w.extractLsb 23 0)

/-- The word of an opcode and its fields (R296); bit 72 is zero. -/
def encodeIns (opc : BitVec 10) (i : Ins) : BitVec 96 :=
  (opc ++ BitVec.ofBool i.gn ++ i.gp ++ i.st ++ BitVec.ofBool i.yd ++ BitVec.ofBool i.ra ++ BitVec.ofBool i.rb ++
    BitVec.ofBool i.eop ++ 0#1 ++ encodeOperand i.d ++ encodeOperand i.a ++ encodeOperand i.b : BitVec 96)

/-- The assigned opcodes of group 0 (R321). -/
def opcodes0 : Nat → Option (Ins → Instr)
  | 0x001 => some .add
  | 0x002 => some .sub
  | 0x003 => some .mul
  | 0x004 => some .mulh
  | 0x005 => some .div
  | 0x006 => some .rem
  | 0x007 => some .and
  | 0x008 => some .or
  | 0x009 => some .xor
  | 0x00A => some .andn
  | 0x00B => some .shl
  | 0x00C => some .shr
  | 0x00D => some .sar
  | 0x00E => some .rot
  | 0x00F => some .clz
  | 0x010 => some .ctz
  | 0x011 => some .popc
  | 0x012 => some .min
  | 0x013 => some .max
  | 0x014 => some .abs
  | 0x015 => some .sel
  | 0x016 => some .cmp
  | 0x017 => some .mov
  | 0x018 => some .bfx
  | 0x019 => some .bfi
  | 0x01A => some .madd
  | 0x01B => some .sext
  | 0x01C => some .zext
  | _ => none

/-- The assigned opcodes of group 1 (R321). -/
def opcodes1 : Nat → Option (Ins → Instr)
  | 0x041 => some .addImm
  | 0x042 => some .subImm
  | 0x043 => some .mulImm
  | 0x044 => some .mulhImm
  | 0x045 => some .divImm
  | 0x046 => some .remImm
  | 0x047 => some .andImm
  | 0x048 => some .orImm
  | 0x049 => some .xorImm
  | 0x04A => some .andnImm
  | 0x04B => some .shlImm
  | 0x04C => some .shrImm
  | 0x04D => some .sarImm
  | 0x04E => some .rotImm
  | 0x052 => some .minImm
  | 0x053 => some .maxImm
  | 0x055 => some .selImm
  | 0x056 => some .cmpImm
  | 0x058 => some .bfxImm
  | 0x059 => some .bfiImm
  | 0x05A => some .maddImm
  | 0x05B => some .sextImm
  | 0x05C => some .zextImm
  | 0x05D => some .li
  | 0x05E => some .liw
  | _ => none

/-- The assigned opcodes of group 2 (R321). -/
def opcodes2 : Nat → Option (Ins → Instr)
  | 0x081 => some .fadd
  | 0x082 => some .fsub
  | 0x083 => some .fmul
  | 0x084 => some .ffma
  | 0x085 => some .fdiv
  | 0x086 => some .fsqrt
  | 0x087 => some .fmin
  | 0x088 => some .fmax
  | 0x089 => some .fcmp
  | 0x08A => some .fcvt
  | 0x08B => some .fsgn
  | 0x08C => some .fclass
  | _ => none

/-- The assigned opcodes of group 3 (R321). -/
def opcodes3 : Nat → Option (Ins → Instr)
  | 0x0C1 => some .br
  | 0x0C2 => some .jmp
  | 0x0C3 => some .call
  | 0x0C4 => some .ret
  | 0x0C5 => some .brx
  | 0x0C6 => some .loop
  | 0x0C7 => some .endl
  | 0x0C8 => some .nop
  | _ => none

/-- The assigned opcodes of group 4 (R321). -/
def opcodes4 : Nat → Option (Ins → Instr)
  | 0x101 => some .pand
  | 0x102 => some .por
  | 0x103 => some .pxor
  | 0x104 => some .pnot
  | 0x105 => some .pmov
  | 0x106 => some .mand
  | 0x107 => some .mor
  | 0x108 => some .mxor
  | 0x109 => some .mnot
  | 0x10A => some .mpop
  | 0x10B => some .mfirst
  | 0x10C => some .mtop
  | _ => none

/-- The assigned opcodes of group 5 (R321). -/
def opcodes5 : Nat → Option (Ins → Instr)
  | 0x141 => some .ld
  | 0x142 => some .st
  | 0x143 => some .ldw
  | 0x144 => some .stw
  | 0x145 => some .pref
  | 0x146 => some .flushl
  | _ => none

/-- The assigned opcodes of group 6 (R321). -/
def opcodes6 : Nat → Option (Ins → Instr)
  | 0x181 => some .aadd
  | 0x182 => some .afadd
  | 0x183 => some .amin
  | 0x184 => some .amax
  | 0x185 => some .aamax
  | 0x186 => some .aand
  | 0x187 => some .aor
  | 0x188 => some .axor
  | 0x189 => some .aswp
  | 0x18A => some .acas
  | 0x18B => some .fence
  | 0x18C => some .fenceRange
  | _ => none

/-- The assigned opcodes of group 7 (R321). -/
def opcodes7 : Nat → Option (Ins → Instr)
  | 0x1C1 => some .spawn
  | 0x1C2 => some .spawng
  | 0x1C3 => some .suspend
  | 0x1C4 => some .yield
  | 0x1C5 => some .join
  | 0x1C6 => some .exit
  | 0x1C7 => some .waitw
  | 0x1C8 => some .signal
  | 0x1C9 => some .bar
  | 0x1CA => some .bara
  | 0x1CB => some .barw
  | 0x1CC => some .send
  | 0x1CD => some .rpost
  | 0x1CE => some .rwait
  | 0x1CF => some .rprobe
  | 0x1D0 => some .csign
  | 0x1D1 => some .cdiss
  | 0x1D2 => some .xfer
  | 0x1D3 => some .expect
  | 0x1D4 => some .sstep
  | 0x1D5 => some .lfwd
  | _ => none

/-- The assigned opcodes of group 8 (R321). -/
def opcodes8 : Nat → Option (Ins → Instr)
  | 0x201 => some .vadd
  | 0x202 => some .vsub
  | 0x203 => some .vmul
  | 0x204 => some .vfma
  | 0x205 => some .vmin
  | 0x206 => some .vmax
  | 0x207 => some .vabs
  | 0x208 => some .vneg
  | 0x209 => some .vand
  | 0x20A => some .vor
  | 0x20B => some .vxor
  | 0x20C => some .vshl
  | 0x20D => some .vshr
  | 0x20E => some .vsar
  | 0x20F => some .vcmp
  | 0x210 => some .vsel
  | _ => none

/-- The assigned opcodes of group 9 (R321). -/
def opcodes9 : Nat → Option (Ins → Instr)
  | 0x241 => some .vred
  | 0x242 => some .vscan
  | 0x243 => some .vperm
  | 0x244 => some .vslide
  | 0x245 => some .vexp
  | 0x246 => some .vrcp
  | 0x247 => some .vrsq
  | 0x248 => some .vlog
  | 0x249 => some .vdot4
  | 0x24A => some .vext
  | 0x24B => some .vins
  | 0x24C => some .vamax
  | 0x24D => some .vbcast
  | _ => none

/-- The assigned opcodes of group A (R321). -/
def opcodesA : Nat → Option (Ins → Instr)
  | 0x281 => some .vcvt
  | 0x282 => some .vtag
  | 0x283 => some .vgtag
  | 0x284 => some .vld
  | 0x285 => some .vst
  | 0x286 => some .vlds
  | 0x287 => some .vsts
  | 0x288 => some .vgth
  | 0x289 => some .vsct
  | _ => none

/-- The assigned opcodes of group B (R321). -/
def opcodesB : Nat → Option (Ins → Instr)
  | 0x2C1 => some .mldb
  | 0x2C2 => some .mld
  | 0x2C3 => some .mst
  | 0x2C4 => some .mzero
  | 0x2C5 => some .mmac
  | 0x2C6 => some .mmacr
  | 0x2C7 => some .mcvt
  | 0x2C8 => some .mscale
  | 0x2C9 => some .mtrans
  | 0x2CA => some .seminc
  | 0x2CB => some .semwait
  | _ => none

/-- The assigned opcodes of group C (R321). -/
def opcodesC : Nat → Option (Ins → Instr)
  | 0x301 => some .copy
  | 0x302 => some .copy2d
  | 0x303 => some .gather
  | 0x304 => some .scatter
  | 0x305 => some .stream
  | 0x306 => some .strend
  | 0x307 => some .routeDsp
  | 0x308 => some .routeCmb
  | 0x309 => some .routeStat
  | _ => none

/-- The assigned opcodes of group D (R321). -/
def opcodesD : Nat → Option (Ins → Instr)
  | 0x341 => some .rld
  | 0x342 => some .rst
  | 0x343 => some .ratom
  | 0x344 => some .rfence
  | _ => none

/-- The assigned opcodes of group E (R321). -/
def opcodesE : Nat → Option (Ins → Instr)
  | 0x381 => some .trap
  | 0x382 => some .eret
  | 0x383 => some .mfs
  | 0x384 => some .mts
  | 0x385 => some .tlbwr
  | 0x386 => some .tlbrd
  | 0x387 => some .tlbinv
  | 0x388 => some .mbxpost
  | 0x389 => some .mbxwait
  | 0x38A => some .gstop
  | 0x38B => some .ctxsv
  | 0x38C => some .ctxld
  | 0x38D => some .l2mode
  | 0x38E => some .halt
  | 0x38F => some .brk
  | 0x390 => some .pennant
  | 0x391 => some .sense
  | 0x392 => some .time
  | 0x393 => some .idle
  | _ => none

/-- The instruction that an opcode names, none for an unassigned one; the group is OPC[9:6] (R320, R321). -/
def opcodeInstr (o : Nat) : Option (Ins → Instr) :=
  match o / 64 with
  | 0 => opcodes0 o
  | 1 => opcodes1 o
  | 2 => opcodes2 o
  | 3 => opcodes3 o
  | 4 => opcodes4 o
  | 5 => opcodes5 o
  | 6 => opcodes6 o
  | 7 => opcodes7 o
  | 8 => opcodes8 o
  | 9 => opcodes9 o
  | 10 => opcodesA o
  | 11 => opcodesB o
  | 12 => opcodesC o
  | 13 => opcodesD o
  | 14 => opcodesE o
  | _ => none

/-- The opcode of an instruction; none for the moves of other agents, which have no word. -/
def Instr.opcode : Instr → Option (BitVec 10)
  | .add _ => some 0x001
  | .sub _ => some 0x002
  | .mul _ => some 0x003
  | .mulh _ => some 0x004
  | .div _ => some 0x005
  | .rem _ => some 0x006
  | .and _ => some 0x007
  | .or _ => some 0x008
  | .xor _ => some 0x009
  | .andn _ => some 0x00A
  | .shl _ => some 0x00B
  | .shr _ => some 0x00C
  | .sar _ => some 0x00D
  | .rot _ => some 0x00E
  | .clz _ => some 0x00F
  | .ctz _ => some 0x010
  | .popc _ => some 0x011
  | .min _ => some 0x012
  | .max _ => some 0x013
  | .abs _ => some 0x014
  | .sel _ => some 0x015
  | .cmp _ => some 0x016
  | .mov _ => some 0x017
  | .bfx _ => some 0x018
  | .bfi _ => some 0x019
  | .madd _ => some 0x01A
  | .sext _ => some 0x01B
  | .zext _ => some 0x01C
  | .addImm _ => some 0x041
  | .subImm _ => some 0x042
  | .mulImm _ => some 0x043
  | .mulhImm _ => some 0x044
  | .divImm _ => some 0x045
  | .remImm _ => some 0x046
  | .andImm _ => some 0x047
  | .orImm _ => some 0x048
  | .xorImm _ => some 0x049
  | .andnImm _ => some 0x04A
  | .shlImm _ => some 0x04B
  | .shrImm _ => some 0x04C
  | .sarImm _ => some 0x04D
  | .rotImm _ => some 0x04E
  | .minImm _ => some 0x052
  | .maxImm _ => some 0x053
  | .selImm _ => some 0x055
  | .cmpImm _ => some 0x056
  | .bfxImm _ => some 0x058
  | .bfiImm _ => some 0x059
  | .maddImm _ => some 0x05A
  | .sextImm _ => some 0x05B
  | .zextImm _ => some 0x05C
  | .li _ => some 0x05D
  | .liw _ => some 0x05E
  | .fadd _ => some 0x081
  | .fsub _ => some 0x082
  | .fmul _ => some 0x083
  | .ffma _ => some 0x084
  | .fdiv _ => some 0x085
  | .fsqrt _ => some 0x086
  | .fmin _ => some 0x087
  | .fmax _ => some 0x088
  | .fcmp _ => some 0x089
  | .fcvt _ => some 0x08A
  | .fsgn _ => some 0x08B
  | .fclass _ => some 0x08C
  | .br _ => some 0x0C1
  | .jmp _ => some 0x0C2
  | .call _ => some 0x0C3
  | .ret _ => some 0x0C4
  | .brx _ => some 0x0C5
  | .loop _ => some 0x0C6
  | .endl _ => some 0x0C7
  | .nop _ => some 0x0C8
  | .pand _ => some 0x101
  | .por _ => some 0x102
  | .pxor _ => some 0x103
  | .pnot _ => some 0x104
  | .pmov _ => some 0x105
  | .mand _ => some 0x106
  | .mor _ => some 0x107
  | .mxor _ => some 0x108
  | .mnot _ => some 0x109
  | .mpop _ => some 0x10A
  | .mfirst _ => some 0x10B
  | .mtop _ => some 0x10C
  | .ld _ => some 0x141
  | .st _ => some 0x142
  | .ldw _ => some 0x143
  | .stw _ => some 0x144
  | .pref _ => some 0x145
  | .flushl _ => some 0x146
  | .aadd _ => some 0x181
  | .afadd _ => some 0x182
  | .amin _ => some 0x183
  | .amax _ => some 0x184
  | .aamax _ => some 0x185
  | .aand _ => some 0x186
  | .aor _ => some 0x187
  | .axor _ => some 0x188
  | .aswp _ => some 0x189
  | .acas _ => some 0x18A
  | .fence _ => some 0x18B
  | .fenceRange _ => some 0x18C
  | .spawn _ => some 0x1C1
  | .spawng _ => some 0x1C2
  | .suspend _ => some 0x1C3
  | .yield _ => some 0x1C4
  | .join _ => some 0x1C5
  | .exit _ => some 0x1C6
  | .waitw _ => some 0x1C7
  | .signal _ => some 0x1C8
  | .bar _ => some 0x1C9
  | .bara _ => some 0x1CA
  | .barw _ => some 0x1CB
  | .send _ => some 0x1CC
  | .rpost _ => some 0x1CD
  | .rwait _ => some 0x1CE
  | .rprobe _ => some 0x1CF
  | .csign _ => some 0x1D0
  | .cdiss _ => some 0x1D1
  | .xfer _ => some 0x1D2
  | .expect _ => some 0x1D3
  | .sstep _ => some 0x1D4
  | .lfwd _ => some 0x1D5
  | .vadd _ => some 0x201
  | .vsub _ => some 0x202
  | .vmul _ => some 0x203
  | .vfma _ => some 0x204
  | .vmin _ => some 0x205
  | .vmax _ => some 0x206
  | .vabs _ => some 0x207
  | .vneg _ => some 0x208
  | .vand _ => some 0x209
  | .vor _ => some 0x20A
  | .vxor _ => some 0x20B
  | .vshl _ => some 0x20C
  | .vshr _ => some 0x20D
  | .vsar _ => some 0x20E
  | .vcmp _ => some 0x20F
  | .vsel _ => some 0x210
  | .vred _ => some 0x241
  | .vscan _ => some 0x242
  | .vperm _ => some 0x243
  | .vslide _ => some 0x244
  | .vexp _ => some 0x245
  | .vrcp _ => some 0x246
  | .vrsq _ => some 0x247
  | .vlog _ => some 0x248
  | .vdot4 _ => some 0x249
  | .vext _ => some 0x24A
  | .vins _ => some 0x24B
  | .vamax _ => some 0x24C
  | .vbcast _ => some 0x24D
  | .vcvt _ => some 0x281
  | .vtag _ => some 0x282
  | .vgtag _ => some 0x283
  | .vld _ => some 0x284
  | .vst _ => some 0x285
  | .vlds _ => some 0x286
  | .vsts _ => some 0x287
  | .vgth _ => some 0x288
  | .vsct _ => some 0x289
  | .mldb _ => some 0x2C1
  | .mld _ => some 0x2C2
  | .mst _ => some 0x2C3
  | .mzero _ => some 0x2C4
  | .mmac _ => some 0x2C5
  | .mmacr _ => some 0x2C6
  | .mcvt _ => some 0x2C7
  | .mscale _ => some 0x2C8
  | .mtrans _ => some 0x2C9
  | .seminc _ => some 0x2CA
  | .semwait _ => some 0x2CB
  | .copy _ => some 0x301
  | .copy2d _ => some 0x302
  | .gather _ => some 0x303
  | .scatter _ => some 0x304
  | .stream _ => some 0x305
  | .strend _ => some 0x306
  | .routeDsp _ => some 0x307
  | .routeCmb _ => some 0x308
  | .routeStat _ => some 0x309
  | .rld _ => some 0x341
  | .rst _ => some 0x342
  | .ratom _ => some 0x343
  | .rfence _ => some 0x344
  | .trap _ => some 0x381
  | .eret _ => some 0x382
  | .mfs _ => some 0x383
  | .mts _ => some 0x384
  | .tlbwr _ => some 0x385
  | .tlbrd _ => some 0x386
  | .tlbinv _ => some 0x387
  | .mbxpost _ => some 0x388
  | .mbxwait _ => some 0x389
  | .gstop _ => some 0x38A
  | .ctxsv _ => some 0x38B
  | .ctxld _ => some 0x38C
  | .l2mode _ => some 0x38D
  | .halt _ => some 0x38E
  | .brk _ => some 0x38F
  | .pennant _ => some 0x390
  | .sense _ => some 0x391
  | .time _ => some 0x392
  | .idle _ => some 0x393
  | .asyncTrapTake _ | .idleWake _ | .debugResume _ | .coldReset | .standbyPowerGood | .functionReady _ | .functionFailure _
  | .temperatureSample _ _ | .throttleStep _ _ | .droopEvent _ | .droopWindowClose | .powerSampleUpdate _ _ | .reqLoad _ _
  | .reqStore _ _ | .reqAtomic _ _ | .dataFlit _ _ | .respFlit _ _ _ | .markFlit _ _ | .pennantFlit _ _ _ _ | .linkAck _ _
  | .linkNak _ _ | .stripeReq _ _ | .stripeAck _ _ | .bound _ _ _ _ | .ackTimer _ | .replayTimeout _ | .lossOfLight _ _ _ _
  | .lightDetect _ | .trainComplete _ _ _ _ | .replayEnd _ | .boundPublish _ | .routeReconfigure _ _ _ | .portDrainComplete _
  | .switchGo _ _ | .drainComplete _ | .unbindComplete _ | .retrainComplete _ _ | .loadComplete _ | .bindComplete _
  | .serdesLinkFailure _ | .serdesInboundRequest _ _ _ _ _ | .compactPacketReceive _ _ _ _ | .rudRetransmit _ _
  | .hostBar2Read _ _ | .hostBar2Write _ _ | .registerWrite _ _ _ | .lptailWrite _ _ | .lpcfgWrite _ _ | .lpbndUpdate _
  | .launchJoinIncrement _ _ | .emptyLaunchComplete _ | .portEntryAged _ _ | .eqctlWrite _ | .eqheadWrite _ | .msixInterrupt
  | .updateGo _ | .stageComplete | .handoverPoint | .freezeComplete | .aliveReport _ | .watchdogExpiry | .rollbackExpiry
  | .attestQuote | .fatalError _ | .dumpComplete _ | .strandPlace _ | .quantumExpiry _ | .preemptStop _ | .gangAged _ _
  | .gangStopDrain _ | .unitLoad _ | .watchEvaluate _ _ | .hangDetect _ | .engineStatusLand _ | .roundInject _
  | .d2dLinkFailure _ | .dieSuspect _ | .dieTakeover _ | .vectorBind _ | .mxOpStart _ | .semaphoreWaitComplete _ _
  | .engineCommandStart _ _ | .streamReadahead _ _ | .faultRetry _ _ | .faultReply _ _ _ | .messageArrive _ | .ptInvalidate _ _
  | .ptInvalidateAck _ _ | .ptStoreComplete _ | .tilePowerGate _ | .superstepStart _ | .signingWaitExpiry _ | .holdAnnounce _ _
  | .xferUnitLand _ | .compactBarrierRelease _ | .transferDeadlineExpiry _ | .compactDissolve _ | .rds _ _ | .rdx _ _ _
  | .upg _ _ _ | .wb _ _ | .cleanEvictionNotice _ _ | .probe _ _ _ _ | .conflict _ _ | .nack _ _ _ | .ticketCall _
  | .fillReturn _ _ | .wbDrain _ | .leaseRenewal _ _ _ | .ownershipRequest _ _ | .mirrorUpdate _ | .lclockTick _
  | .msaAtomic _ _ | .scTicketIssue | .wordNotInstruction _ | .writeLands _ | .coherenceReply _ _ | .serdesResponse _ _
  | .registrationAcknowledged _ | .modeSwitchComplete | .powerLoss => none

/-- The instruction of a 96-bit word, or why it is none, checked in the order of R327 and R329. -/
def decodeWord (w : BitVec 96) : Except Reject Instr :=
  if w = 0 then .error .zeroWord
  else match opcodeInstr (w.extractLsb 95 86).toNat with
    | none => .error .illegalOp
    | some f =>
      let i := f (decodeIns w)
      if w.getLsbD 72 || !i.wellFormed then .error .reserved else .ok i

/-- The word of an instruction; none for the moves of other agents. -/
def encode (i : Instr) : Option (BitVec 96) :=
  match i.opcode, Forms.fieldsOf i with
  | some o, some w => some (encodeIns o w)
  | _, _ => none

/-- The word from its 12 bytes, the lowest address first (R4, R297). -/
def wordOfBytes (l : List Byte) : BitVec 96 := BitVec.ofNat 96 (natOfBytes (l.take 12))

/-- The decoder on bytes: the instruction of the first 12, and the rest. -/
def decodeBytes (l : List Byte) : Except Reject (Instr × List Byte) :=
  (decodeWord (wordOfBytes l)).map fun i => (i, l.drop 12)

/-- The instruction whose word has the bits `w`, bit 0 least significant: `nbits` given, the bits above zero. -/
def decodeTableWord (nbits w : Nat) : Option Instr :=
  match decodeWord (wordOfBytes (bytesOfNat 12 (w % 2 ^ nbits))) with
  | .ok i => some i
  | .error _ => none

end Sys2Proof
end

