-- ==== Sys2Proof/Machine/Crypto.lean ====
section
/-! DEFINITION. The two public algorithms that 05_firmware_maintenance names: SHA-512 (FIPS 180-4) and Ed25519 (RFC 8032, pure variant), for
image signatures, quotes and dumps (R94, R95, R106, R109; notes/assumptions 5). -/

namespace Sys2Proof.Machine
open Sys2Proof

/-! SHA-512. -/

/-- The 80 round constants. -/
def shaK : List Word64 :=
  [0x428A2F98D728AE22, 0x7137449123EF65CD, 0xB5C0FBCFEC4D3B2F, 0xE9B5DBA58189DBBC, 0x3956C25BF348B538,
   0x59F111F1B605D019, 0x923F82A4AF194F9B, 0xAB1C5ED5DA6D8118, 0xD807AA98A3030242, 0x12835B0145706FBE,
   0x243185BE4EE4B28C, 0x550C7DC3D5FFB4E2, 0x72BE5D74F27B896F, 0x80DEB1FE3B1696B1, 0x9BDC06A725C71235,
   0xC19BF174CF692694, 0xE49B69C19EF14AD2, 0xEFBE4786384F25E3, 0x0FC19DC68B8CD5B5, 0x240CA1CC77AC9C65] ++
  [0x2DE92C6F592B0275, 0x4A7484AA6EA6E483, 0x5CB0A9DCBD41FBD4, 0x76F988DA831153B5, 0x983E5152EE66DFAB,
   0xA831C66D2DB43210, 0xB00327C898FB213F, 0xBF597FC7BEEF0EE4, 0xC6E00BF33DA88FC2, 0xD5A79147930AA725,
   0x06CA6351E003826F, 0x142929670A0E6E70, 0x27B70A8546D22FFC, 0x2E1B21385C26C926, 0x4D2C6DFC5AC42AED,
   0x53380D139D95B3DF, 0x650A73548BAF63DE, 0x766A0ABB3C77B2A8, 0x81C2C92E47EDAEE6, 0x92722C851482353B] ++
  [0xA2BFE8A14CF10364, 0xA81A664BBC423001, 0xC24B8B70D0F89791, 0xC76C51A30654BE30, 0xD192E819D6EF5218,
   0xD69906245565A910, 0xF40E35855771202A, 0x106AA07032BBD1B8, 0x19A4C116B8D2D0C8, 0x1E376C085141AB53,
   0x2748774CDF8EEB99, 0x34B0BCB5E19B48A8, 0x391C0CB3C5C95A63, 0x4ED8AA4AE3418ACB, 0x5B9CCA4F7763E373,
   0x682E6FF3D6B2B8A3, 0x748F82EE5DEFB2FC, 0x78A5636F43172F60, 0x84C87814A1F0AB72, 0x8CC702081A6439EC] ++
  [0x90BEFFFA23631E28, 0xA4506CEBDE82BDE9, 0xBEF9A3F7B2C67915, 0xC67178F2E372532B, 0xCA273ECEEA26619C,
   0xD186B8C721C0C207, 0xEADA7DD6CDE0EB1E, 0xF57D4F7FEE6ED178, 0x06F067AA72176FBA, 0x0A637DC5A2C898A6,
   0x113F9804BEF90DAE, 0x1B710B35131C471B, 0x28DB77F523047D84, 0x32CAAB7B40C72493, 0x3C9EBE0A15C9BEBC,
   0x431D67C49C100D4C, 0x4CC5D4BECB3E42B6, 0x597F299CFC657E2A, 0x5FCB6FAB3AD6FAEC, 0x6C44198C4A475817]

/-- The initial chaining value. -/
def shaInit : List Word64 :=
  [0x6A09E667F3BCC908, 0xBB67AE8584CAA73B, 0x3C6EF372FE94F82B, 0xA54FF53A5F1D36F1, 0x510E527FADE682D1,
   0x9B05688C2B3E6C1F, 0x1F83D9ABFB41BD6B, 0x5BE0CD19137E2179]

/-- A number of eight bytes, highest first. -/
def wordBE (l : List Byte) : Word64 := l.foldl (fun a b => (a <<< 8) ||| b.setWidth 64) 0
/-- The eight bytes of a number, highest first. -/
def bytesBE (w : Word64) : List Byte := (List.range 8).map fun i => (w >>> (8 * (7 - i))).setWidth 8

/-- The message padded: a one bit, zeros, its length in bits in 16 bytes. -/
def shaPad (l : List Byte) : List Byte :=
  l ++ 0x80 :: List.replicate ((239 - l.length % 128) % 128) 0 ++ bytesBE 0 ++ bytesBE (BitVec.ofNat 64 (8 * l.length))

/-- The message schedule of a block: 80 words, from its 16; `n` words more. -/
def shaSchedule : Nat → List Word64 → List Word64
  | 0, w => w
  | n + 1, w =>
    let g (k : Nat) : Word64 := w.getD (w.length - k) 0
    let s0 := (g 15).rotateRight 1 ^^^ (g 15).rotateRight 8 ^^^ (g 15 >>> 7)
    let s1 := (g 2).rotateRight 19 ^^^ (g 2).rotateRight 61 ^^^ (g 2 >>> 6)
    shaSchedule n (w ++ [g 16 + s0 + g 7 + s1])

/-- One round on the eight working words. -/
def shaRound (v : List Word64) (kw : Word64) : List Word64 :=
  match v with
  | [a, b, c, d, e, f, g, h] =>
    let s1 := e.rotateRight 14 ^^^ e.rotateRight 18 ^^^ e.rotateRight 41
    let t1 := h + s1 + ((e &&& f) ^^^ (~~~e &&& g)) + kw
    let s0 := a.rotateRight 28 ^^^ a.rotateRight 34 ^^^ a.rotateRight 39
    let t2 := s0 + ((a &&& b) ^^^ (a &&& c) ^^^ (b &&& c))
    [t1 + t2, a, b, c, d + t1, e, f, g]
  | v => v

/-- One block of 128 bytes. -/
def shaBlock (h : List Word64) (b : List Byte) : List Word64 :=
  let w := shaSchedule 64 ((List.range 16).map fun i => wordBE ((b.drop (8 * i)).take 8))
  List.zipWith (· + ·) h ((List.zipWith (· + ·) shaK w).foldl shaRound h)

/-- The SHA-512 digest of a byte string: 64 bytes. -/
def sha512 (l : List Byte) : List Byte :=
  let p := shaPad l
  ((List.range (p.length / 128)).foldl (fun h i => shaBlock h ((p.drop (128 * i)).take 128)) shaInit).flatMap bytesBE

/-! Ed25519. -/

/-- The field's prime, 2^255 - 19. -/
def edP : Nat := 2 ^ 255 - 19
/-- The order of the base point. -/
def edL : Nat := 2 ^ 252 + 27742317777372353535851937790883648493
/-- The curve's constant, -121665/121666. -/
def edD : Nat := 37095705934669439343138083508754565189542113879843219016388785533085940283555

/-- `a ^ e` in the field, by the bits of `e` from the highest of 256. -/
def edPow (a e : Nat) : Nat :=
  (List.range 256).foldl (fun r i => let q := r * r % edP; if e.testBit (255 - i) then q * a % edP else q) 1

/-- A point in projective coordinates: x = X/Z, y = Y/Z. -/
structure EdPt where
  x : Nat
  y : Nat
  z : Nat
  deriving DecidableEq, Repr

/-- The neutral point. -/
def EdPt.zero : EdPt := ⟨0, 1, 1⟩
/-- The base point. -/
def EdPt.base : EdPt :=
  ⟨15112221349535400772501151409588531511454012693041857206046113283949847762202,
   46316835694926478169428394003475163141307993866256225615783033603165251855960, 1⟩

/-- The sum of two points (the curve's complete addition). -/
def EdPt.add (p q : EdPt) : EdPt :=
  let a := p.z * q.z % edP
  let b := a * a % edP
  let c := p.x * q.x % edP
  let d := p.y * q.y % edP
  let e := edD * c % edP * d % edP
  let f := (b + edP - e) % edP
  let g := (b + e) % edP
  ⟨a * f % edP * (((p.x + p.y) * (q.x + q.y) + 2 * edP - c - d) % edP) % edP, a * g % edP * ((d + c) % edP) % edP, f * g % edP⟩

/-- A multiple of a point, by the bits of `k` from the highest of 512. -/
def EdPt.mul (k : Nat) (p : EdPt) : EdPt :=
  (List.range 512).foldl (fun r i => let d := r.add r; if k.testBit (511 - i) then d.add p else d) EdPt.zero

/-- Are two points the same? -/
def EdPt.same (p q : EdPt) : Bool := p.x * q.z % edP == q.x * p.z % edP && p.y * q.z % edP == q.y * p.z % edP

/-- The 32 bytes of a point, as a number: y, and the lowest bit of x on top. -/
def EdPt.enc (p : EdPt) : Nat :=
  let i := edPow p.z (edP - 2)
  p.y * i % edP + p.x * i % edP % 2 * 2 ^ 255

/-- The point that 32 bytes stand for; none when there is none. -/
def edDec (n : Nat) : Option EdPt :=
  let y := n % 2 ^ 255
  let sign := n / 2 ^ 255 % 2
  let u := (y * y + edP - 1) % edP
  let v := (edD * (y * y % edP) + 1) % edP
  let x2 := u * edPow v (edP - 2) % edP
  let r := edPow x2 ((edP + 3) / 8)
  let x := if r * r % edP = x2 then r else r * edPow 2 ((edP - 1) / 4) % edP
  if edP ≤ y || x * x % edP != x2 || (x = 0 && sign = 1) then none
  else some ⟨if x % 2 = sign then x else edP - x, y, 1⟩

/-- Does a signature of 64 bytes over `msg` verify under a public key (RFC 8032, 5.1.7)? -/
def edVerify (key : Nat) (msg sig : List Byte) : Bool :=
  let r := natOfBytes (sig.take 32)
  let t := natOfBytes (sig.drop 32)
  match edDec key, edDec r with
  | some a, some rp =>
    let k := natOfBytes (sha512 (sig.take 32 ++ bytesOfNat 32 key ++ msg)) % edL
    sig.length == 64 && decide (t < edL) && (EdPt.base.mul t).same (rp.add (a.mul k))
  | _, _ => false

/-- The signature over `msg` by the private key `seed` (RFC 8032, 5.1.6). -/
def edSign (seed : Nat) (msg : List Byte) : List Byte :=
  let h := sha512 (bytesOfNat 32 seed)
  let n := natOfBytes (h.take 32)
  let a := n % 2 ^ 254 / 8 * 8 + 2 ^ 254
  let key := (EdPt.base.mul a).enc
  let r := natOfBytes (sha512 (h.drop 32 ++ msg)) % edL
  let rb := bytesOfNat 32 (EdPt.base.mul r).enc
  let k := natOfBytes (sha512 (rb ++ bytesOfNat 32 key ++ msg)) % edL
  rb ++ bytesOfNat 32 ((r + k * a) % edL)

end Sys2Proof.Machine
end

