-- ==== Sys2Proof/Machine/Sync.lean ====
section
/-! DEFINITION. Creating, stopping and waking strands, JOIN and WAITW, barriers: group 7's first half (16 R360-R368,
06 R118-R121). -/

namespace Sys2Proof.Machine
open Sys2Proof

/-- Does the release of ORD `.rel` still wait for fabric stores of the strand (R231, R45)? -/
def State.ordWaits (s : State) (w : Ins) : Bool := Forms.ordOf (mods w.d) == 2 && s.relWaits (Forms.scopeOf (mods w.d))

/-- The release of ORD `.rel`, at the scope named, before an instruction's effect (R231). -/
def State.ordReleased (s : State) (w : Ins) : State :=
  if Forms.ordOf (mods w.d) = 2 then s.release (Forms.scopeOf (mods w.d)) else s

/-- The reasons of R83 for a record's words 0, 1, 2, 7; 0 when it is well formed. What R83 names no reason for is settled in
notes/assumptions 103. -/
def badRec (w0 w1 w2 w7 : Word64) : Nat :=
  let g := bit w1 11
  let aff := fld w7 55 48
  if fld w1 3 0 ≠ 0 then 1
  else if fld w0 47 0 % 12 ≠ 0 || fld w0 63 48 ≠ 0 then 2
  else if fld w2 11 0 ≠ 0 || fld w2 63 52 ≠ 0 || (w2 == 0 && (bit w1 8 || bit w1 9)) then 3
  else if fld w1 15 12 ≠ 0 || bit w1 10 then 4
  else if g && decide (768 < fld w1 31 16 + 1) then 5
  else if w0 = 0 && !g then 6
  else if (aff ≠ 0xFF && decide (48 ≤ aff)) || fld w7 5 4 ≠ 0 then 7
  else 0

/-- BADREC's reason for SPAWN or SPAWNG (R362): R83's, then 8 for the wrong G, then 9 for `prio` 8-15. -/
def badTemplate (gang : Bool) (w0 w1 w2 w7 : Word64) : Nat :=
  let r := badRec w0 w1 w2 w7
  if r ≠ 0 then r else if bit w1 11 != gang then 8 else if 8 ≤ fld w1 7 4 then 9 else 0

/-- Eight bytes as a strand of cluster `c` reads them in its domain. -/
def State.dom8 (s : State) (c pa : Nat) : Word64 :=
  match (if s.partLine (lineOf pa) then s.copy c (lineOf pa) else none) with
  | some x => BitVec.ofNat 64 (sliceBytes x.data (pa % 64) 8)
  | none => s.mem8 pa

/-- The cluster a selector names: 0 the strand's own, 1-16 cluster value - 1; none for any other value or a cluster not ready
(R360). -/
def State.pickCluster (s : State) (v : Nat) : Option Nat :=
  let c := if v = 0 then clusterOf s.cur else v - 1
  if 16 < v || !s.ready (.clu c) then none else some c

/-- A record written as member `i` of a creation: the template's words, ASX, READY, and for a gang gsize and c3 (R118, R361).
The creating cluster's own copy of the line gives way; the store writes the whole line, which clears its poison (R222). -/
def State.formRecord (s : State) (a : Nat) (tpl : List Word64) (asx : Nat) (gang : Bool) (n i : Nat) : State :=
  let w (k : Nat) : Word64 := tpl.getD k 0
  let w1 := setFld (w 1) 0 4 stREADY
  let w1 := if gang then setFld w1 16 16 (n - 1) else w1
  let w5 := if gang then BitVec.ofNat 64 i else w 5
  ((s.clearPoison (lineOf a)).putWords a [(0x00, w 0), (0x08, w1), (0x10, w 2), (0x18, w 3), (0x20, w 4), (0x28, w5), (0x30, w 6),
    (0x38, setFld (w 7) 0 4 asx)]).dropCopy (clusterOf s.cur) (lineOf a)

/-- Several members formed, from index `i`. -/
def State.formRecords (s : State) (tpl : List Word64) (asx : Nat) (gang : Bool) (n : Nat) : List Nat → Nat → State
  | [], _ => s
  | a :: r, i => State.formRecords (s.formRecord a tpl asx gang n i) tpl asx gang n r (i + 1)

/-- The translations of several store addresses; the first that gives no page of this package's HBM ends them. -/
inductive Pages where
  | pas (l : List Nat)
  | fault (kind va : Nat)
  | bad
  deriving DecidableEq, Repr

/-- Addresses translated as stores, all of them (R360, R361). -/
def State.pagesOf (s : State) (vas : List Nat) : Pages :=
  vas.foldr (fun va r =>
    if 2 ^ 48 ≤ va then .bad
    else match s.xlate s.cur va .store with
      | .fault k => .fault k va
      | .unbacked => .bad
      | .far _ _ => .bad
      | .here pa _ _ =>
        if !isHbm pa then .bad
        else match r with
          | .pas l => .pas (pa :: l)
          | r => r) (.pas [])

/-- The template of a gang at `ea`, translated to `pa`, read as a load of its line is (R361, R190, R222). -/
def State.withTemplate (s : State) (ea : Word64) (pa : Nat) (use : State → List Word64 → Res) : Res :=
  match s.slot.servedLine (lineOf pa) with
  | some v => if v.bad then .trap .poison (infoAddr ea) else use s ((List.range 8).map fun i => BitVec.ofNat 64 (sliceBytes v.data (8 * i) 8))
  | none =>
    if (Tbl.get? s.clines (lineOf pa)).isSome then .hold (s.waitFor (.held [lineOf pa]))
    else if s.meetsPoison (clusterOf s.cur) (lineOf pa) then .trap .poison (infoAddr ea)
    else use s ((List.range 8).map fun i => s.dom8 (clusterOf s.cur) (pa + 8 * i))

/-- How a join word is reached (R121, R494). -/
inductive JoinAt where
  | here (pa : Nat) (mir : Bool)
  | far (pkg pa : Nat)
  | fault (kind : Nat)
  | bad
  deriving DecidableEq, Repr

/-- A join word's address translated for the current slot's strand. -/
def State.joinAt (s : State) (va : Word64) : JoinAt :=
  if va.toNat % 8 ≠ 0 || decide (2 ^ 48 ≤ va.toNat) then .bad
  else match s.xlate s.cur va.toNat .atomic with
    | .fault k => .fault k
    | .unbacked => .bad
    | .far p a => .far p a
    | .here pa _ mir => .here pa mir

/-- The join word of a strand at EXIT: by its own translation, or for a compact member by the compact's at signing (R180). -/
def State.exitJoin (s : State) (va : Word64) : JoinAt :=
  if s.compact then
    match (s.tile (tileOf s.cur)).held.bind fun m => (Tbl.get? s.compacts m.cid.toNat).bind Compact.joinPa with
    | some (none, pa, mir) => .here pa mir
    | some (some p, pa, _) => .far p pa
    | none => .bad
  else s.joinAt va

/-- Does a join word or record lie in a line of state C, where an atomic or store of a strand traps COMPACT_HELD (R190,
notes/assumptions 101)? -/
def State.joinHeld (s : State) (pa : Nat) : Bool := (Tbl.get? s.clines (lineOf pa)).isSome

/-- `atomic_add_dev(a, n)` of R318 at a physical address; the strand's cluster releases nothing by it. On a poisoned line it writes
nothing (R357); a line of a mirrored page or of a page table is kept as a store keeps it (R219, R262). -/
def State.addDev (s : State) (pa n : Nat) (mir : Bool) : State :=
  let l := lineOf pa
  if s.joinHeld pa || s.poisoned l then s
  else (((s.rmw s.cur pa 8 6 false fun old => some ((old + n) % 2 ^ 64)).2).mirrored (clusterOf s.cur) l mir).ptTouched l

/-- The records of a creation formed after its release, and queued in its cluster (R118); in a cluster lost meanwhile they are FAULTED
(R112, R220). -/
def State.make (s : State) (w : Ins) (gang : Bool) (k : Making) : State :=
  let t := (s.ordReleased w).formRecords k.tpl k.asx gang k.pas.length k.pas 0
  if s.failed (.clu k.clu) then k.pas.foldl (fun u a => u.endRecord k.clu k.asx a stFAULTED (s.asidOf s.cur)) t
  else t.enqTail k.clu (fld (k.tpl.getD 1 0) 6 4) ⟨k.pas, false, s.time.ns⟩

/-- The RESP of the increment of a creation's join word on another package (R118, R494): OK creates; any other status is BADADDR, with
nothing created and the use of the address-space entry given up. -/
def makeFar (w : Ins) (gang : Bool) (k : Making) (s : State) : Res :=
  let fin (s : State) (st : Nat) : Res := .ok (s.put 1 (.s (num w.d) (statusWord st 0 0)))
  match s.slot.reply with
  | none => .hold (s.waitFor .home)
  | some (st, _) => if st = 0 then fin (s.make w gang k) 0 else fin (k.pas.foldl (fun t _ => t.asidDrop k.clu k.asx) s) 5

/-- The creation of R118 from template words at the physical records `pas`: BADREC, ASFULL or OK, the join word incremented
first. The increment of a join word on another package is sent once, and nothing is checked again after it. -/
def creation (w : Ins) (gang : Bool) (c : Nat) (tpl : List Word64) (pas : List Nat) (s : State) : Res :=
  let fin (s : State) (st why : Nat) : Res := .ok (s.put 1 (.s (num w.d) (statusWord st why 0)))
  let why := badTemplate gang (tpl.getD 0 0) (tpl.getD 1 0) (tpl.getD 2 0) (tpl.getD 7 0)
  let m := pas.length
  let join := tpl.getD 6 0
  if why ≠ 0 then fin s 2 why
  else if s.ordWaits w then .hold (s.sendMarks.waitFor .home)
  else match s.asidEntry c (s.asidOf s.cur) m with
    | none => fin s 3 0
    | some (asx, s1) =>
      let k : Making := ⟨c, asx, tpl, pas⟩
      let create (s : State) : Res := fin (s.make w gang k) 0 0
      if join = 0 then create s1
      else match s.joinAt join with
        | .fault k => s.parkOr k .atomic join.toNat
        | .bad => fin s 5 0
        | .here pa mir =>
          if s.joinHeld pa then .trap .compactHeld (infoAddr join)
          else
            let t := s1.addDev pa m mir
            -- a store to a page-table line: the strand goes on after its round (R262)
            match create t with
            | .ok u => if s.poisoned (lineOf pa) then .ok u else u.afterStore (lineOf pa) w
            | r => r
        | .far pkg pa =>
          let r := mkRequest 2 0 pa 8 1 (bytesOfNat 8 m ++ bytesOfNat 8 0)
          if s.acceptsMine pkg r then
            .hold (((s1.sendReq pkg r .scalar).modSlot s.cur fun x => { x with making := some k }).waitFor .home)
          else fin s 5 0

/-- SPAWN (R360). -/
def spawnBody (w : Ins) (s : State) : Res :=
  let ea := s.slot.ea w.a
  let fin (st : Nat) : Res := .ok (s.put 1 (.s (num w.d) (statusWord st 0 0)))
  if s.compact then .trap .prot 0
  else match s.slot.making with
  | some k => makeFar w false k s
  | none =>
  if ea.toNat % 64 ≠ 0 then .trap .align (infoAddr ea)
  else match s.pickCluster (s.slot.opS w.b).toNat with
    | none => fin 4
    | some c =>
      match s.pagesOf [ea.toNat] with
      | .fault k va => s.parkOr k .store va
      | .pas [pa] =>
        if s.joinHeld pa then .trap .compactHeld (infoAddr ea)
        else if s.meetsPoison (clusterOf s.cur) (lineOf pa) then .trap .poison (infoAddr ea)
        else creation w false c ((List.range 8).map fun i => s.dom8 (clusterOf s.cur) (pa + 8 * i)) [pa] s
      | _ => fin 5

/-- SPAWNG (R361): the array base in D, the template at A, n and the cluster selector in B. -/
def spawngBody (w : Ins) (s : State) : Res :=
  let ea := s.slot.ea w.a
  let base := (s.slot.getS (num w.d)).toNat
  let b := s.slot.opS w.b
  let n := fld b 9 0
  let fin (s : State) (st : Nat) : Res := .ok (s.put 1 (.s (num w.d) (statusWord st 0 0)))
  if s.compact then .trap .prot 0
  else match s.slot.making with
  | some k => makeFar w true k s
  | none =>
  if ea.toNat % 64 ≠ 0 then .trap .align (infoAddr ea)
  else if base % 64 ≠ 0 then .trap .align (base % 2 ^ 48)
  else if n = 0 then (if s.ordWaits w then .hold (s.sendMarks.waitFor .home) else fin (s.ordReleased w) 0)
  else if 768 < n then fin s 1
  else match s.pickCluster (fld b 20 16) with
    | none => fin s 4
    | some c =>
      match s.pagesOf (ea.toNat :: (List.range n).map fun i => base + 64 * i) with
      | .fault k va => s.parkOr k .store va
      | .pas (t :: pas) =>
        match pas.findIdx? s.joinHeld with
        | some i => .trap .compactHeld ((base + 64 * i) % 2 ^ 48)
        | none => s.withTemplate ea t fun u tpl => creation w true c tpl pas u
      | _ => fin s 5

/-- Have the vector and matrix operations that the current strand has queued completed (R116)? -/
def State.queueClear (s : State) : Bool :=
  !(s.core (coreOf s.cur)).vq.contains s.cur &&
    !(s.tile (tileOf s.cur)).mxq.any fun c => c.slot == s.cur && c.recAddr == s.slot.recAddr

/-- A stop at a suspension point: the operations that the strand has queued complete before the save (R116). -/
def State.stopping (s : State) (go : Res) : Res := if s.compact || s.queueClear then go else .hold (s.waitFor .retry)

/-- SUSPEND (R363, R140): with WAKE latched it clears it and goes on. -/
def suspendBody (s : State) : Res :=
  if s.slot.wake then .ok (s.modSlot s.cur fun x => { x with wake := false })
  else s.stopping <|
    let a := s.slot.recAddr.toNat
    let k := clusterOf s.cur
    let t := s.stopSoft s.cur (s.slot.pc + 12) stSUSPENDED
    .done (t.setCluster k { t.cluster k with suspended := insertNat a (t.cluster k).suspended })

/-- A record put at the tail of the run queue of its priority. -/
def State.requeue (s : State) (c prio a : Nat) : State := s.enqTail c prio ⟨[a], false, s.time.ns⟩

/-- YIELD (R363): READY, at the tail. -/
def yieldBody (s : State) : Res :=
  let x := s.slot
  s.stopping <| .done ((s.stopSoft s.cur (x.pc + 12) stREADY).requeue (clusterOf s.cur) x.prio.toNat x.recAddr.toNat)

/-- The record DONE and the slot idle, or, for a compact member, arrived for good (R121, R185, R363). -/
def State.exitDone (s : State) : State :=
  let x := s.slot
  let n := s.cur
  let t := ((s.saveRecord n (x.pc + 12)).saveSoft n (x.pc + 12)).endRecord (clusterOf n) x.asx.toNat x.recAddr.toNat stDONE (s.asidOf n)
  if s.compact then (t.noteArrival n).putSlot n { x with gone := true, arrived := true, ended := true }
  else t.freeSlot n

/-- EXIT (R121, R363): the join word decremented with release at device scope, then DONE; a join word on another package first
waits for its RESP, and any status but OK makes the record FAULTED. -/
def exitBody (s : State) : Res :=
  let join := s.recWord s.slot.recAddr.toNat 6
  s.stopping <|
  if join = 0 then .done s.exitDone
  else match s.exitJoin join with
    | .fault k => s.parkOr k .atomic join.toNat
    | .bad => .trap .prot (infoAddr join)
    | .here pa mir =>
      if s.joinHeld pa then .trap .compactHeld (infoAddr join)
      else if s.slot.reply.isSome then .done s.exitDone
      else
        let t := (s.releaseAt (clusterOf s.cur) 6 fun _ => true).addDev pa (2 ^ 64 - 1) mir
        -- a join word in a page-table line: EXIT goes on after its round (R262)
        if t.ptHeld (lineOf pa) && !s.poisoned (lineOf pa) then
          .hold (((t.ptStored (lineOf pa)).modSlot s.cur fun x => { x with reply := some (0, 0) }).waitFor .round)
        else .done t.exitDone
    | .far pkg pa =>
      if s.relWaits 7 then .hold (s.sendMarks.waitFor .home)
      else
        let s := s.releaseAt (clusterOf s.cur) 7 fun _ => true
        match s.slot.reply with
        | some (0, _) => .done s.exitDone
        | some _ => .done (s.faultSlot s.cur)
        | none =>
          if s.accepts pkg then
            s.farScalar pkg (mkRequest 2 0 pa 8 1 (bytesOfNat 8 (2 ^ 64 - 1) ++ bytesOfNat 8 0)) (fun t _ => .done t.exitDone)
              fun _ => .done (s.faultSlot s.cur)
          else .done (s.faultSlot s.cur)

/-- A JOIN or WAITW whose condition does not hold (R364, R365): the record is PARKED with a watch, which is evaluated once at
its installation; with a full watch table it stops as YIELD does, with its pc at itself. -/
def State.parkOn (s : State) (wt : Watch) : State :=
  let x := s.slot
  let k := clusterOf s.cur
  if (s.cluster k).watch.length < 1024 then
    let t := s.stopSoft s.cur (x.pc + 12) stPARKED
    let t := t.setCluster k { t.cluster k with watch := (t.cluster k).watch ++ [wt] }
    { t with touched := insertNat (lineKey (k * 16 + k) (wt.pa / 64)) t.touched }
  else (s.stopSoft s.cur x.pc stREADY).requeue k x.prio.toNat x.recAddr.toNat

/-- The test of JOIN and WAITW on a word of `n` bytes at `ea` (R364). -/
def waitBody (ea : Word64) (n cond : Nat) (val : Nat) (scope : Option Nat) (s : State) : Res :=
  s.access ea n .load
    (fun pa unc _ => s.loadHere ea pa n unc fun t v =>
      if waitCond cond v val then .ok (match scope with
        | some sc => t.acquire sc
        | none => t)
      else s.stopping <| .done (t.parkOn ⟨t.slot.recAddr.toNat, pa, n == 8, cond, BitVec.ofNat 64 val, scope⟩))
    (fun _ _ => .trap .prot (infoAddr ea))

/-- SIGNAL (R366). -/
def signalBody (w : Ins) (s : State) : Res :=
  let ea := s.slot.ea w.a
  let fin (s : State) (st : Nat) : Res := .ok (s.put 1 (.s (num w.d) (statusWord st 0 0)))
  if ea.toNat % 64 ≠ 0 then .trap .align (infoAddr ea)
  else if 2 ^ 48 ≤ ea.toNat then .trap .prot (infoAddr ea)
  else match s.pagesOf [ea.toNat] with
    | .fault k va => s.parkOr k .store va
    | .pas [a] =>
      if s.joinHeld a then .trap .compactHeld (infoAddr ea)
      else if s.meetsPoison (clusterOf s.cur) (lineOf a) then .trap .poison (infoAddr ea)
      else if s.ordWaits w then .hold (s.sendMarks.waitFor .home) else
      let s := s.ordReleased w
      let st := s.recState a
      if st = stSUSPENDED then
        match s.clusters.find? fun c => c.2.suspended.contains a with
        | some (k, c) =>
          let t := ((s.publish k).setRecState a stREADY).setCluster k { c with suspended := c.suspended.filter (· != a) }
          fin (t.requeue k (fld (s.recWord a 1) 6 4) a) 0
        | none => fin s 6
      else if st = stRUNNING then
        match s.slots.find? fun x => x.2.occ && x.2.recAddr.toNat == a with
        | some (n, x) => fin (s.putSlot n { x with wake := true }) 0
        | none => fin s 0
      else fin s 6
    | _ => fin s 5

/-! Barriers (R367, R368). -/

/-- Slots of a unit by scope code (R367). -/
def unitSlots : Nat → Nat
  | 2 => 4 | 3 => 16 | 4 => 768 | 5 => 3072 | 6 => 12288 | _ => 786432

/-- The unit of a slot at a scope. -/
def unitOf (sc n : Nat) : Nat :=
  match sc with
  | 2 => coreOf n
  | 3 => tileOf n
  | 4 => clusterOf n
  | 5 => dieOf n
  | _ => 0

/-- The key of barrier `b` of the unit of slot `n` at a scope. -/
def barKey (sc n b : Nat) : Nat := (sc * 4096 + unitOf sc n) * 16 + b

/-- A barrier. -/
def State.barrier (s : State) (k : Nat) : Barrier := Tbl.get s.barriers k ⟨0, 0, 0⟩

/-- The slots that wait at a barrier try again. -/
def State.wakeBarrier (s : State) (k : Nat) : State :=
  { s with slots := s.slots.map fun e => match e.2.wait with
    | .barrier j _ => if j = k then (e.1, { e.2 with wait := .none }) else e
    | _ => e }

/-- Are there other packages in the connected group? -/
def State.grouped (s : State) : Bool := s.fab.group.any fun p => p != s.fab.me

/-- Is a `.pod` barrier between its N-th arrival and the round edge (R367)? While a round runs whose pennants carry the arrivals to
other packages, its edge is due in the same way (notes/assumptions 85). -/
def State.podPending (s : State) (sc k : Nat) : Bool :=
  sc == 7 && ((decide (0 < (s.barrier k).cnt) && decide ((s.barrier k).n ≤ (s.barrier k).cnt)) || (s.grouped && s.rounds.podRun))

/-- An arrival with `n` (R367): the generation arrived in, and the state after. A `.pod` barrier completes at the edge of the
round that its N-th arrival asks for; in a group of several packages every arrival asks for one, which carries it to the others
(notes/assumptions 85). -/
def State.arrive (s : State) (sc k n : Nat) : Word32 × State :=
  let b := s.barrier k
  let b := if b.cnt = 0 then { b with n := n } else b
  let b := { b with cnt := b.cnt + 1 }
  let put (s : State) (b : Barrier) : State := { s with barriers := Tbl.set s.barriers k b }
  if sc = 7 then
    let news := Tbl.set s.rounds.news (k % 16) (Tbl.get s.rounds.news (k % 16) 0 + 1)
    let want := s.rounds.podWant || b.cnt == b.n || s.grouped
    (b.gen, { put s b with rounds := { s.rounds with news := news, podWant := want } })
  else if b.cnt = b.n then (b.gen, (put s { b with cnt := 0, gen := b.gen + 1 }).wakeBarrier k)
  else (b.gen, put s b)

/-- The checks of R367 at order 8: the barrier number, and n for an arrival. -/
def barChecks (num : Nat) (n : Option Nat) (sc : Nat) (ok : Res) : Res :=
  if 15 < num then .trap .countRange (num % 2 ^ 48)
  else match n with
    | some n => if n = 0 || unitSlots sc < n then .trap .countRange (n % 2 ^ 48) else ok
    | none => ok

/-- An arrival's own waits: the release, and a `.pod` barrier whose edge is due (R231, R367). -/
def arriveThen (sc k n : Nat) (s : State) (go : Word32 → State → Res) : Res :=
  if s.relWaits sc then .hold (s.sendMarks.waitFor .home)
  else if s.podPending sc k then .hold (s.waitFor (.barrier k (s.barrier k).gen.toNat))
  else let (g, t) := (s.release sc).arrive sc k n; go g t

/-- BARA (R367). -/
def baraBody (w : Ins) (s : State) : Res :=
  let sc := Forms.scopeOf (mods w.d)
  let b := (s.slot.opS w.a).toNat
  let n := (s.slot.opS w.b).toNat
  barChecks b (some n) sc
    (arriveThen sc (barKey sc s.cur b) n s fun g t => .ok (t.put 1 (.s (num w.d) (g.setWidth 64))))

/-- BARW (R367): the generation differs from the whole of opval(B). -/
def barwBody (w : Ins) (s : State) : Res :=
  let sc := Forms.scopeOf (mods w.d)
  let b := (s.slot.opS w.a).toNat
  let k := barKey sc s.cur b
  barChecks b none sc
    (if (s.barrier k).gen.setWidth 64 ≠ s.slot.opS w.b then .ok (s.acquire sc)
     else .hold (s.waitFor (.barrier k (s.barrier k).gen.toNat)))

/-- BAR (R368): D's bit 63 says that it has arrived. -/
def barBody (w : Ins) (s : State) : Res :=
  let sc := Forms.scopeOf (mods w.d)
  let b := (s.slot.opS w.a).toNat
  let n := (s.slot.opS w.b).toNat
  let d := s.slot.getS (num w.d)
  let k := barKey sc s.cur b
  let wait (g : Word32) (s : State) : Res :=
    if (s.barrier k).gen ≠ g then .ok ((s.acquire sc).put 1 (.s (num w.d) (g.setWidth 64)))
    else .hold ((s.put 1 (.s (num w.d) (BitVec.ofNat 64 (2 ^ 63 + g.toNat)))).waitFor (.barrier k g.toNat))
  barChecks b (some n) sc (if bit d 63 then wait (d.setWidth 32) s else arriveThen sc k n s wait)

/-- SPAWN (R360). -/
def execSpawn (w : Ins) (s : State) : Host.Outcome State Fault Refusal := run (.spawn w) w false false (spawnBody w) s
/-- SPAWNG (R361). -/
def execSpawng (w : Ins) (s : State) : Host.Outcome State Fault Refusal := run (.spawng w) w false false (spawngBody w) s
/-- SUSPEND (R363). -/
def execSuspend (w : Ins) (s : State) : Host.Outcome State Fault Refusal := run (.suspend w) w false true suspendBody s
/-- YIELD (R363). -/
def execYield (w : Ins) (s : State) : Host.Outcome State Fault Refusal := run (.yield w) w false true yieldBody s
/-- EXIT (R363). -/
def execExit (w : Ins) (s : State) : Host.Outcome State Fault Refusal := run (.exit w) w false false exitBody s
/-- JOIN: the 64-bit word is zero, with acquire at `.dev` (R364). -/
def execJoin (w : Ins) (s : State) : Host.Outcome State Fault Refusal :=
  run (.join w) w false true (fun s => waitBody (s.slot.ea w.a) 8 0 0 (some 6) s) s
/-- WAITW (R364). -/
def execWaitw (w : Ins) (s : State) : Host.Outcome State Fault Refusal :=
  run (.waitw w) w false true
    (fun s =>
      let m := mods w.d
      let n := typeBytes m
      waitBody (s.slot.ea w.a) n (Forms.oth2 m) (unsignedOf (s.slot.opS w.b) (8 * n))
        (if Forms.ordOf m = 1 then some (Forms.scopeOf m) else none) s) s
/-- SIGNAL (R366). -/
def execSignal (w : Ins) (s : State) : Host.Outcome State Fault Refusal := run (.signal w) w false true (signalBody w) s
/-- BAR (R368). -/
def execBar (w : Ins) (s : State) : Host.Outcome State Fault Refusal := run (.bar w) w false true (barBody w) s
/-- BARA (R367). -/
def execBara (w : Ins) (s : State) : Host.Outcome State Fault Refusal := run (.bara w) w false true (baraBody w) s
/-- BARW (R367). -/
def execBarw (w : Ins) (s : State) : Host.Outcome State Fault Refusal := run (.barw w) w false true (barwBody w) s

end Sys2Proof.Machine
end

