-- ==== Sys2Proof/Machine/Message.lean ====
section
/-! DEFINITION. Tagged messages: SEND, RPOST, RWAIT, RPROBE and the matching of arrivals, group 7 (16 R369-R372). -/

namespace Sys2Proof.Machine
open Sys2Proof

/-- Does a message match a receive spec (R370)? -/
def specMatches (spec : BitVec 32) (m : Msg) : Bool :=
  (bit spec 15 || fld spec 31 16 == m.tag.toNat) && (bit spec 14 || fld spec 11 0 == m.src.toNat)

/-- Are two specs identical: equal but for bits [13:12] (R370)? -/
def specSame (a b : BitVec 32) : Bool := (a &&& 0xFFFFCFFF) == (b &&& 0xFFFFCFFF)

/-- The spec an instruction reads. -/
def specOf (w : Ins) (s : State) : BitVec 32 := (s.slot.opS w.a).setWidth 32

/-- SEND (R369): the message goes under way, and its status word is awaited; BADTILE at once. -/
def sendBody (w : Ins) (s : State) : Res :=
  let a := s.slot.opS w.a
  let t := fld a 9 0
  if s.ordWaits w then .hold (s.sendMarks.waitFor .home)
  else
    let s := s.ordReleased w
    if 767 < t || !s.ready (.clu (t / 48)) then .ok (s.put 1 (.s (num w.d) (statusWord 2 0 0)))
    else
      let msg : Msg := ⟨BitVec.ofNat 12 (coreOf s.cur), (a >>> 16).setWidth 16, s.slot.opS w.b, 0⟩
      let e : Sent := ⟨t, s.cur, num w.d, s.slot.recAddr, s.asidOf s.cur, s.roundStamp (dieOf s.cur), msg⟩
      .ok ({ s with sent := s.sent ++ [e] }.await (num w.d))

/-- The first message of a tile's overflow queue that matches, and the queue without it. -/
def takeMsg (spec : BitVec 32) : List Msg → Option (Msg × List Msg)
  | [] => none
  | m :: r => if specMatches spec m then some (m, r) else (takeMsg spec r).map fun p => (p.1, m :: p.2)

/-- RPOST (R371). -/
def rpostBody (w : Ins) (s : State) : Res :=
  let c := s.core (coreOf s.cur)
  let spec := specOf w s
  if 32 ≤ c.posted.length then .ok (s.put 1 (.s (num w.d) (BitVec.ofNat 64 (2 ^ 56 + c.posted.length))))
  else
    let t := s.tile (tileOf s.cur)
    let (got, s1) := match takeMsg spec t.overflow with
      | some (m, r) => (some m, s.setTile (tileOf s.cur) { t with overflow := r })
      | none => (none, s)
    let e : Posted := ⟨s.cur, spec, got, s.time.steps⟩
    .ok ((s1.setCore (coreOf s.cur) { c with posted := c.posted ++ [e] }).put 1
      (.s (num w.d) (BitVec.ofNat 64 (c.posted.length + 1))))

/-- The first entry for which `f` holds, and the list without it. -/
def takeFirst {α : Type} (f : α → Bool) : List α → Option (α × List α)
  | [] => none
  | a :: r => if f a then some (a, r) else (takeFirst f r).map fun p => (p.1, a :: p.2)

/-- RWAIT (R371): the oldest entry of the strand with an identical spec, else the overflow queue, else it posts and waits. -/
def rwaitBody (w : Ins) (s : State) : Res :=
  let m := mods w.d
  let c := s.core (coreOf s.cur)
  let spec := specOf w s
  let fin (s : State) (v : Word64) : Res :=
    .ok ((if Forms.ordOf m = 1 then s.acquire (Forms.scopeOf m) else s).put 1 (.s (num w.d) v))
  match takeFirst (fun e => e.slot == s.cur && specSame e.spec spec) c.posted with
  | some (e, r) =>
    match e.got with
    | some g => fin (s.setPosted (coreOf s.cur) r) g.payload
    | none => .hold (s.waitFor .recv)
  | none =>
    let t := s.tile (tileOf s.cur)
    match takeMsg spec t.overflow with
    | some (g, r) => fin (s.setTile (tileOf s.cur) { t with overflow := r }) g.payload
    | none =>
      if 32 ≤ c.posted.length then .hold (s.waitFor .recv)
      else
        let e : Posted := ⟨s.cur, spec, none, s.time.steps⟩
        .hold ((s.setCore (coreOf s.cur) { c with posted := c.posted ++ [e] }).waitFor .recv)

/-- RPROBE (R371): the message that RWAIT would take now. -/
def rprobeBody (w : Ins) (s : State) : Res :=
  let c := s.core (coreOf s.cur)
  let spec := specOf w s
  let m := match takeFirst (fun e => e.slot == s.cur && specSame e.spec spec) c.posted with
    | some (e, _) => e.got
    | none => (takeMsg spec (s.tile (tileOf s.cur)).overflow).map Prod.fst
  let v : Word64 := match m with
    | some g => BitVec.ofNat 64 (2 ^ 63 + g.tag.toNat * 2 ^ 32 + g.src.toNat)
    | none => 0
  .ok (s.put 1 (.s (num w.d) v))

/-- SEND (R369). -/
def execSend (w : Ins) (s : State) : Host.Outcome State Fault Refusal := run (.send w) w false true (sendBody w) s
/-- RPOST (R371). -/
def execRpost (w : Ins) (s : State) : Host.Outcome State Fault Refusal := run (.rpost w) w false true (rpostBody w) s
/-- RWAIT (R371). -/
def execRwait (w : Ins) (s : State) : Host.Outcome State Fault Refusal := run (.rwait w) w false true (rwaitBody w) s
/-- RPROBE (R371). -/
def execRprobe (w : Ins) (s : State) : Host.Outcome State Fault Refusal := run (.rprobe w) w false true (rprobeBody w) s

/-! An arrival (R370). -/

/-- The core of a tile (0-3) and position in its list of the oldest unmatched posted entry that matches; ties to the lower core
and the earlier place. -/
def State.bestPosted (s : State) (t : Nat) (m : Msg) : Option (Nat × Nat) :=
  let cand := (List.range 4).flatMap fun k =>
    ((s.core (t * 4 + k)).posted.zipIdx.filter fun e => e.1.got.isNone && specMatches e.1.spec m).map fun e => (e.1.seq, k, e.2)
  (cand.foldl (fun b e => match b with
    | none => some e
    | some x => if e.1 < x.1 then some e else b) none).map fun e => e.2

/-- The lowest-numbered occupied slot of a tile. -/
def State.lowestOcc (s : State) (t : Nat) : Option Nat :=
  ((List.range 16).find? fun i => (s.getSlot (t * 16 + i)).occ).map fun i => t * 16 + i

/-- A message of R370 reaches tile `t`: matched, queued, or dropped with MSG_OVERFLOW latched in the lowest-numbered occupied
slot; the answer says whether it was delivered. IDLE of the tile's slots ends (R456). -/
def State.arriveMsg (s : State) (t : Nat) (m : Msg) : State × Bool :=
  let wakeIdle (s : State) : State := (List.range 16).foldl (fun s i =>
    let x := s.getSlot (t * 16 + i)
    match x.wait with
    | .idle _ => s.putSlot (t * 16 + i) { x with wait := .none }
    | _ => s) s
  let s := wakeIdle s
  let m := { m with seq := s.time.steps }
  match s.bestPosted t m with
  | some (k, j) =>
    let c := s.core (t * 4 + k)
    let slot := ((c.posted[j]?).map Posted.slot).getD 0
    let p := c.posted.zipIdx.map fun e => if e.2 = j then { e.1 with got := some m } else e.1
    let s1 := s.setCore (t * 4 + k) { c with posted := p }
    let x := s1.getSlot slot
    (if x.wait = .recv then s1.putSlot slot { x with wait := .none } else s1, true)
  | none =>
    let x := s.tile t
    if x.overflow.length < 64 then
      let s1 := s.setTile t { x with overflow := x.overflow ++ [m] }
      -- a slot that waits for a free entry may find the message in the queue
      ((List.range 16).foldl (fun s i =>
        let y := s.getSlot (t * 16 + i)
        if y.wait = .recv then s.putSlot (t * 16 + i) { y with wait := .none } else s) s1, true)
    else match s.lowestOcc t with
      | some n => (s.modSlot n fun y => { y with lm := some (y.lm.getD m.src) }, false)
      | none => (s, false)

/-- What an arrival does for its sender too: the status word lands, DELIVERED or OVERFLOW, or BADTILE when the tile's cluster is no longer
READY, the message not being accepted yet (R379). -/
def State.arriveSent (s : State) (e : Sent) : State :=
  let (t, st) := if !s.ready (.clu (e.tile / 48)) then (s, 2)
    else let (u, ok) := s.arriveMsg e.tile e.msg; (u, if ok then 0 else 1)
  t.landStatus e.slot e.reg e.recAddr 0 (statusWord st 0 0)

end Sys2Proof.Machine
end

