-- ==== Sys2Proof/Machine/CompactOps.lean ====
section
/-! DEFINITION. Compacts: descriptors and their checks, signing, supersteps, transfers, barriers, dissolution
(08_compacts R172-R194). -/

namespace Sys2Proof.Machine
open Sys2Proof

/-- Words read through the strand's translation. -/
inductive VRead where
  | words (l : List Word64)
  | fault (kind va : Nat)
  | far
  | bad
  deriving DecidableEq, Repr

/-- `n` words of 8 bytes at virtual address `va`, read as loads of the current slot. -/
def State.vread (s : State) (va n : Nat) : VRead :=
  (List.range n).foldr (fun i r =>
    let a := va + 8 * i
    if 2 ^ 48 ≤ a then .bad
    else match s.xlate s.cur a .load with
      | .fault k => .fault k a
      | .unbacked => .bad
      | .far _ _ => .far
      | .here pa _ _ =>
        match r with
        | .words l => .words (s.dom8 (clusterOf s.cur) pa :: l)
        | r => r) (.words [])

/-- The fields of a compact descriptor (R172). -/
structure Desc where
  cid : Nat
  ok  : Bool
  scope : Nat
  isOpen : Bool
  wait : Bool
  nmem : Nat
  scnt : Nat
  tdl  : Nat
  asid : BitVec 16
  waitus : Nat
  mtab : Nat
  rtab : Nat
  xtab : Nat
  join : Word64

/-- A descriptor from its 16 words; `ok` when FMT is 1 and every field not listed is zero (R172). -/
def parseDesc (l : List Word64) : Desc :=
  let w (k : Nat) : Word64 := l.getD k 0
  let rest := (List.range 9).all fun i => w (7 + i) == 0
  ⟨fld (w 0) 63 48, fld (w 0) 47 40 == 1 && fld (w 0) 25 0 == 0 && fld (w 2) 31 0 == 0 && rest && fld (w 0) 63 48 != 0,
   fld (w 0) 39 38, bit (w 0) 37, bit (w 0) 36, fld (w 0) 35 26, fld (w 1) 63 32, fld (w 1) 31 0, (w 2 >>> 48).setWidth 16,
   fld (w 2) 47 32, (w 3).toNat, (w 4).toNat, (w 5).toNat, w 6⟩

/-- The pinned ranges of a member entry's words (R173). -/
def parseRanges (l : List Word64) (nr : Nat) : List Range :=
  (List.range nr).map fun j => let w := l.getD (3 + j) 0; ⟨w &&& 0xFFFFFFFF0000, bit w 5, fld w 4 0⟩

/-- The valid source entries of a member's transfer schedule: 64 entries of 4 bytes (R175). -/
def parseSrcs (l : List Word64) : List (Nat × Nat × Nat) :=
  (List.range 64).filterMap fun i =>
    let e := (l.getD (i / 2) 0) >>> (32 * (i % 2))
    if bit e 31 then some (i, fld e 30 21, fld e 15 0) else none

/-- A member from its entry, its role entry and its schedule (R173-R175); pages are filled in later. -/
def parseMember (m r x : List Word64) : MemberDesc :=
  let w (k : Nat) : Word64 := m.getD k 0
  ⟨fld (w 0) 63 55, fld (w 0) 54 51 * 48 + fld (w 0) 50 45,
   [fld (w 0) 22 20, fld (w 0) 25 23, fld (w 0) 28 26, fld (w 0) 31 29],
   fld (w 1) 51 10 * 1024, fld (w 2) 51 19 * 2 ^ 19, parseRanges m (fld (w 0) 44 41), [],
   (r.getD 0 0).setWidth 48, fld (r.getD 1 0) 63 32, (r.getD 1 0 >>> 8).setWidth 2, [], parseSrcs x⟩

/-- WHY 4 of a member entry: fields out of range or nonzero unlisted bits (R173). -/
def badMember (l : List Word64) : Bool :=
  let w (k : Nat) : Word64 := l.getD k 0
  let nr := fld (w 0) 44 41
  let k (i : Nat) : Nat := fld (w 0) (22 + 3 * i) (20 + 3 * i)
  decide (47 < fld (w 0) 50 45) || decide (8 < nr) || fld (w 0) 19 0 != 0 ||
    (List.range 4).any (fun i => decide (4 < k i)) || (List.range 4).all (fun i => k i == 0) ||
    fld (w 1) 63 52 != 0 || fld (w 2) 63 52 != 0 ||
    (List.range 13).any (fun i => decide (nr ≤ i) && w (3 + i) != 0)

/-- WHY 5: a range's alignment or size, or the total over 1 MiB. -/
def badRanges (l : List Word64) : Bool :=
  let nr := fld (l.getD 0 0) 44 41
  let rs := parseRanges l nr
  (List.range nr).any (fun j => let w := l.getD (3 + j) 0; fld w 63 48 != 0 || fld w 15 6 != 0 || fld w 4 0 == 0 || decide (16 < fld w 4 0)) ||
    decide (16 < (rs.map Range.size).foldl (· + ·) 0)

/-- The 4 KiB pages of a member's ranges translated in `asid` on this package (R177): `bad` when one is not mapped, as the TSC has
answered, unbacked, or not ordinary memory here (WHY 6); a page that the tile's cache misses is asked for. -/
def State.rangePagesOf (s : State) (asid : BitVec 16) (rs : List Range) : VRead :=
  let vas := rs.flatMap fun r => (List.range (r.size * 16)).map fun i => r.base.toNat + 4096 * i
  vas.foldr (fun va r =>
    match s.lookup (cacheOf s.cur) asid.toNat true va .load, r with
    | .here pa false _, .words l => if isHbm pa then .words (BitVec.ofNat 64 pa :: l) else .bad
    | .here pa false _, r => if isHbm pa then r else .bad
    | .fault 1, .bad => .bad
    | .fault 1, _ => if s.slot.denied .load va || isTsc s.cur then .bad else .fault 1 va
    | _, _ => .bad) (.words [])

/-- WHY 7 of a role entry (R174). -/
def badRole (r : List Word64) : Bool :=
  let w (k : Nat) : Word64 := r.getD k 0
  fld (w 0) 63 48 != 0 || fld (w 0) 47 0 % 12 != 0 || fld (w 1) 63 32 % 12 != 0 || decide (fld (w 1) 63 32 < 12) ||
    decide (131064 < fld (w 1) 63 32) || fld (w 1) 31 10 != 0 || fld (w 1) 7 0 != 0 || w 2 != 0 || w 3 != 0

/-- WHY 8 of a schedule: nonzero bits [20:16], a sender past NMEM, or one sender named twice (R175). -/
def badSched (x : List Word64) (nmem : Nat) : Bool :=
  let es := parseSrcs x
  (List.range 64).any (fun i => fld ((x.getD (i / 2) 0) >>> (32 * (i % 2))) 20 16 != 0) ||
    es.any (fun e => decide (nmem < e.2.1)) || (es.map fun e => e.2.1).eraseDups.length != es.length

/-- WHY 10: MREC or MCTX misaligned or not in the member's package. -/
def badRecs (l : List Word64) : Bool :=
  let w1 := l.getD 1 0
  let w2 := l.getD 2 0
  fld w1 9 0 != 0 || fld w2 18 0 != 0 || !isHbm (fld w1 51 10 * 1024 + 1023) || !isHbm (fld w2 51 19 * 2 ^ 19 + 2 ^ 19 - 1)

/-- The narrowest barrier scope that spans the members: 0 cluster, 1 die, 2 package, 3 pod (R172). -/
def spanOf (ms : List MemberDesc) : Nat :=
  match ms with
  | [] => 0
  | a :: r =>
    if r.all fun b => b.pkg == a.pkg && b.tile / 48 == a.tile / 48 then 0
    else if r.all fun b => b.pkg == a.pkg && b.tile / 192 == a.tile / 192 then 1
    else if r.all fun b => b.pkg == a.pkg then 2 else 3

/-- Members assigned to a cluster by launch ports and not yet placed (R80). -/
def State.portLoad (s : State) (c : Nat) : Nat :=
  s.ports.foldl (fun a p => p.2.ents.foldl (fun a e => if e.cluster = c && !e.placed then a + e.m else a) a) 0

/-- The pool blocks of a cluster reserved for port entries (R80, R117). -/
def State.poolReserved (s : State) (c : Nat) : Nat :=
  s.ports.foldl (fun a p => p.2.ents.foldl (fun a e => if e.cluster = c then a + e.blocks else a) a) 0

/-- The pool blocks of a cluster promised to strands that a signing, a gang-stop or a pre-emption not made for a port entry stops
(R117, R176). -/
def State.stopReserved (s : State) (c : Nat) : Nat :=
  (s.slots.filter fun e => e.2.occ && (e.2.stop == .sign || e.2.stop == .gang || e.2.stop == .preempt false) && e.2.ctx == 0 &&
    !isTsc e.1 && clusterOf e.1 == c).length

/-- Free, unreserved pool blocks of a cluster (R117). -/
def State.poolRoom (s : State) (c : Nat) : Nat :=
  let k := s.cluster c
  if bit k.sdpool 63 then 768 - k.pool.length - s.poolReserved c - s.stopReserved c else 0

/-- Slots of a cluster on tiles that are not compact-held; none of a failed cluster (R80). -/
def State.freeSlots (s : State) (c : Nat) : Nat :=
  if s.failed (.clu c) then 0
  else 16 * ((List.range 48).filter fun t => (s.tile (c * 48 + t)).held.isNone).length

/-- The occupied slots of a tile. -/
def State.occupied (s : State) (t : Nat) : List Nat :=
  ((List.range 16).map fun i => t * 16 + i).filter fun n => (s.getSlot n).occ

/-- Is the tile in a gang reservation of its cluster (R125)? -/
def State.reservedTile (s : State) (t : Nat) : Bool :=
  (s.cluster (t / 48)).resvs.any fun r => decide (r.first ≤ t % 48) && decide (t % 48 < r.first + r.count)

/-- The groups that carry a compact's traffic to a package: READY, in personality 2, their mask naming it; rising (R70). -/
def State.ueGroups (s : State) (pkg : Nat) : List Nat :=
  (s.groups.filter fun e => s.ready (.sds e.1) && e.2.pers == 2 && e.2.st == .ready && bit (Tbl.get s.uepkg e.1 0) pkg).map Prod.fst

/-- Is a package reached in personality 2 (R70, R176)? -/
def State.ueReach (s : State) (pkg : Nat) : Bool :=
  !(s.ueGroups pkg).isEmpty

/-- The status word of CSIGN and CDISS (R177). -/
def csignStatus (st mem why time : Nat) : Word64 :=
  BitVec.ofNat 64 (st * 2 ^ 56 + mem * 2 ^ 46 + why * 2 ^ 40 + time % 2 ^ 40)

/-- The first failure of R176 after the descriptor's own checks, as far as this package can tell: STATUS and MEM, or none. `path`: are
the ways to the other packages asked for too; `self`: the signing strand's tile. -/
def State.signChecks (s : State) (d : Desc) (ms : List MemberDesc) (jp : Option Nat) (path : Bool) (self : Option Nat) : Option (Nat × Nat) :=
  let me := s.fab.me
  let idx := ms.zipIdx
  let mine := idx.filter fun e => e.1.pkg == me
  let free0 (e : MemberDesc × Nat) : Nat :=
    -- `ctx`-0 free strands of the member's cluster on member tiles up to this one
    ((mine.filter fun f => f.2 ≤ e.2 && f.1.tile / 48 == e.1.tile / 48).map fun f =>
      ((s.occupied f.1.tile).filter fun n => (s.getSlot n).ctx == 0).length).foldl (· + ·) 0
  let busyTile (e : MemberDesc × Nat) : Bool :=
    (s.tile e.1.tile).held.isSome || s.reservedTile e.1.tile || !s.ready (.clu (e.1.tile / 48)) ||
      (!(d.wait && d.waitus != 0) && decide (s.poolRoom (e.1.tile / 48) < free0 e)) ||
      decide (s.freeSlots (e.1.tile / 48) < s.portLoad (e.1.tile / 48) + 16 * (mine.filter fun f => f.1.tile / 48 == e.1.tile / 48).length)
  let twice (e : MemberDesc × Nat) : Bool := idx.any fun f => decide (f.2 < e.2) && f.1.pkg == e.1.pkg && f.1.tile == e.1.tile
  let lines (e : MemberDesc × Nat) : List Nat := e.1.pages
  let busyRange (e : MemberDesc × Nat) : Bool :=
    (lines e).any fun p => (List.range 64).any (fun i => (Tbl.get? s.clines (p / 64 + i)).isSome) ||
      mine.any fun f => decide (f.2 < e.2) && (lines f).contains p
  let noPath (e : MemberDesc × Nat) : Bool := path && e.1.pkg != me && (!s.ueReach e.1.pkg || !s.accepts e.1.pkg)
  if (Tbl.get? s.compacts d.cid).isSome then some (2, 0)
  else match idx.find? fun e => twice e || (e.1.pkg == me && busyTile e) with
    | some e => some (3, e.2)
    | none =>
      match mine.find? busyRange with
      | some e => some (4, e.2)
      | none =>
        match idx.find? noPath with
        | some e => some (5, e.2)
        | none =>
          if (jp.map fun p => !s.accepts p).getD false then some (5, 0)
          else if mine.any fun e => self == some e.1.tile then some (6, 0)
          else match mine.find? fun e => let c := s.cluster (e.1.tile / 48); (c.asxOf d.asid).isNone && c.asxFree.isNone with
            | some e => some (7, e.2)
            | none => none

/-- What this package's part of R176 refuses a signing of the current slot's strand for: STATUS and MEM, or none. -/
def State.signRefusal (s : State) (d : Desc) (ms : List MemberDesc) (jp : Option Nat) : Option (Nat × Nat) :=
  s.signChecks d ms jp true (if isTsc s.cur then none else some (tileOf s.cur))

/-- What the other packages of the members refuse a signing for (R176): how their answers come is not given, and they are free
(notes/assumptions 120): CIDBUSY, or for a member there TILEBUSY, RANGEBUSY or ASFULL, or nothing. -/
def State.farRefusal (s : State) (ms : List MemberDesc) : Option (Nat × Nat) × State :=
  let far := (ms.zipIdx.filter fun e => e.1.pkg != s.fab.me).map Prod.snd
  if far.isEmpty then (none, s)
  else
    let (v, t) := s.freeVal
    let mem := far.getD (v.toNat / 8 % far.length) 0
    (match v.toNat % 8 with
      | 2 => some (2, 0)
      | 3 => some (3, mem)
      | 4 => some (4, mem)
      | 7 => some (7, mem)
      | _ => none, t)

/-- The first of two failures in the order of R176, the lower member first. -/
def firstRefusal (a b : Option (Nat × Nat)) : Option (Nat × Nat) :=
  match a, b with
  | some x, some y => if y.1 < x.1 || (y.1 == x.1 && y.2 < x.2) then some y else some x
  | some x, none => some x
  | none, y => y

/-- The BADDESC reason of a member: WHY (R177), 0 for none; `pages` its translated ranges; 64 while a page of them is asked for. -/
def memberWhy (l r x : List Word64) (nmem : Nat) (pages : VRead) : Nat :=
  let p := match pages with
    | .words _ => 0
    | .fault _ _ => 64
    | _ => 6
  if badMember l then 4 else if badRanges l then 5 else if p ≠ 0 then p else if badRole r then 7
  else if badSched x nmem then 8 else if badRecs l then 10 else 0

/-- Free strands of a member tile asked to stop (R178 step 2); a `ctx`-0 strand without a pool block stays until its suspension
point. -/
def State.emptyTile (s : State) (t : Nat) : State :=
  (s.occupied t).foldl (fun s n =>
    let x := s.getSlot n
    if x.stop != .gang && (x.ctx != 0 || decide (0 < s.poolRoom (clusterOf n))) then s.putSlot n { x with stop := .sign } else s) s

/-- Step 1 of R178: a member tile marked compact-held. -/
def State.holdTile (s : State) (cid : BitVec 16) (t i : Nat) : State :=
  let x := s.tile t
  let m : Member := ⟨cid, i, [], [], false, false, false, [], [], 0, [], []⟩
  s.setTile t { x with held := some m }

/-- The local members of a compact with their indexes. -/
def State.locals (s : State) (c : Compact) : List (MemberDesc × Nat) := c.mems.zipIdx.filter fun e => e.1.pkg == s.fab.me

/-- A compact replaced. -/
def State.setCompact (s : State) (cid : Nat) (c : Compact) : State := { s with compacts := Tbl.set s.compacts cid c }

/-- The strands of a member. -/
def MemberDesc.strands (m : MemberDesc) : Nat := m.ks.foldl (· + ·) 0

/-- The uses of the address-space entries that a compact's local members take at signing (R114, R176), or give back. -/
def State.takeAsids (s : State) (asid : BitVec 16) (ms : List MemberDesc) : State :=
  ms.foldl (fun t m => match t.asidEntry (m.tile / 48) asid m.strands with
    | some (_, t) => t
    | none => t) s
/-- Those uses given back. -/
def State.dropAsids (s : State) (asid : BitVec 16) (ms : List MemberDesc) : State :=
  ms.foldl (fun t m => match (t.cluster (m.tile / 48)).asxOf asid with
    | some i => (List.range m.strands).foldl (fun t _ => t.asidDrop (m.tile / 48) i) t
    | none => t) s

/-- Steps 1 and 2 of R178 on this package, with the status words that await the signing's end; `away`: signed by another package, which
makes the join word's increment. -/
def State.openSigning (s : State) (d : Desc) (ms : List MemberDesc) (jp : Option (Option Nat × Nat × Bool)) (wait : List (Landing × Nat))
    (away : Bool) : State :=
  let c : Compact := ⟨.signing, d.asid, d.scope, if d.isOpen then none else some d.scnt, d.tdl,
    if d.wait && d.waitus != 0 then some d.waitus else none, d.join, jp, ms, 0, 0, 0, none, [], false, false, [], [],
    ((ms.map MemberDesc.pkg).eraseDups.filter fun p => p != s.fab.me).foldl (fun t p => Tbl.set t p (s.ueGroups p)) [], [], wait,
    s.time.ns, away, [], away⟩
  let cid := BitVec.ofNat 16 d.cid
  let s0 := s.setCompact d.cid c
  let loc := s0.locals c
  let s1 := s0.takeAsids d.asid (loc.map Prod.fst)
  let s2 := loc.foldl (fun s e => s.holdTile cid e.1.tile e.2) s1
  if c.entry.isNone then loc.foldl (fun s e => s.emptyTile e.1.tile) s2 else s2

/-- A signing accepted for the current slot's strand: its status word is awaited (R178). -/
def State.beginSigning (s : State) (d : Desc) (ms : List MemberDesc) (jp : Option (Option Nat × Nat × Bool)) (reg : Nat) : State :=
  (s.await reg).openSigning d ms jp [(s.sysLanding reg 0, s.time.ns)] false

/-- The members' strands by slot: core and slot within each local member tile (R180). -/
def memberSlots (m : MemberDesc) : List Nat :=
  (List.range 4).flatMap fun k => (List.range (m.ks.getD k 0)).map fun j => m.tile * 16 + k * 4 + j

/-- Every member strand's slot of a compact on this package. -/
def State.allMembers (s : State) (c : Compact) : List Nat := (s.locals c).flatMap fun e => memberSlots e.1

/-- The 4 KiB pages of role images, read as the issuing strand's loads (R174). -/
def State.imagePages (s : State) (va len : Nat) : VRead :=
  (List.range ((va + len - 1) / 4096 - va / 4096 + 1)).foldr (fun i r =>
    let a := va / 4096 * 4096 + 4096 * i
    if 2 ^ 48 ≤ a then .bad
    else match s.xlate s.cur a .load with
      | .fault k => .fault k a
      | .unbacked => .bad
      | .far _ _ => .far
      | .here pa _ _ =>
        match r with
        | .words l => .words (BitVec.ofNat 64 pa :: l)
        | r => r) (.words [])

/-- The members with the pages of their role images: those of this package; the first that cannot be read, by its index. -/
def State.withImages (s : State) (ms : List MemberDesc) : List MemberDesc × Option (Nat × VRead) :=
  ms.zipIdx.foldl (fun (acc : List MemberDesc × Option (Nat × VRead)) e =>
    let m := e.1
    if m.pkg ≠ s.fab.me then (acc.1 ++ [m], acc.2)
    else match s.imagePages m.entry.toNat m.len with
      | .words l => (acc.1 ++ [{ m with ipages := l.map BitVec.toNat }], acc.2)
      | r => (acc.1 ++ [m], match acc.2 with
        | some x => some x
        | none => some (e.2, r))) ([], none)

/-- A descriptor's or table's read that meets a fault: it parks, or, denied there, traps PROT (R255, R256). -/
def State.readFault (s : State) (kind va : Nat) (a : Acc) : Res :=
  if isTsc s.cur || s.slot.denied a va then .trap .prot (infoAddr (BitVec.ofNat 64 va))
  else .hold (s.parkAt s.cur kind a va)

/-- A STOPPED compact resumed (R194): every strand that was saved returns to its slot with its inbox words, and all restart in one
phase cycle. -/
def State.resumeCompact (s : State) (cid : Nat) (c : Compact) : State :=
  let s1 := (s.allMembers c).foldl (fun t n =>
    match (s.locals c).find? fun e => e.1.tile == tileOf n with
    | some e =>
      let a := e.1.mrec + 64 * (n % 16)
      if t.recState a = stPREEMPTED then
        let ctx := (t.recWord a 2).toNat
        let cnt := (t.mem8 (ctx + 0x7F8)).toNat
        let inbox := (List.range cnt).map fun i => t.mem8 (ctx + 0x800 + 8 * i)
        let k := Tbl.get c.leWords (coreOf n) 0
        let t1 := t.place n a
        if cnt = 0 then t1 else t1.setCore (coreOf n) { t1.core (coreOf n) with le := inbox.take k, lw := inbox.drop k }
      else t
    | none => t) s
  let cyc := (s1.allMembers c).foldl (fun a n => max a (s1.core (coreOf n)).cycle) 0
  let s2 := ((s1.allMembers c).map coreOf).eraseDups.foldl (fun t k => t.setCore k { t.core k with cycle := cyc, last := 3 }) s1
  let s3 := c.phaseEnded.foldl (fun t n => t.modSlot n fun x => { x with ended := true }) s2
  s3.setCompact cid { c with st := .running, phaseEnded := [] }

/-- A signing whose descriptor and members have passed R172 to R175: what R176 refuses it for, here or on a member's package, or its
beginning (R178). A release across packages first waits for the strand's own stores there (R231). -/
def State.trySigning (s : State) (d : Desc) (ms : List MemberDesc) (remote : Bool) (reg : Nat) (jp : Option (Option Nat × Nat × Bool)) : Res :=
  let here := s.signRefusal d ms (jp.bind Prod.fst)
  let (far, s) := s.farRefusal ms
  match firstRefusal here far with
  | some (st, mem) => .ok (s.put 1 (.s reg (csignStatus st mem 0 0)))
  | none =>
    if remote && s.relWaits 7 then .hold (s.sendMarks.waitFor .home)
    else .ok ((s.release (if remote then 7 else 6)).beginSigning d ms jp reg)

/-- The member of another package, if any, one of whose ranges is not translated there (R177): not given here, and free
(notes/assumptions 120). -/
def State.farUnmapped (s : State) (pkgs : List Nat) : Option Nat × State :=
  let far := (pkgs.zipIdx.filter fun e => e.1 != s.fab.me).map Prod.snd
  if far.isEmpty then (none, s)
  else
    let (v, t) := s.freeVal
    (far[v.toNat % (far.length + 1)]?, t)

/-- CSIGN on a descriptor whose tables have been read: the members by index with the failures of R172 to R177, then the join word. -/
def State.signMembers (s : State) (d : Desc) (mt rt xt : List Word64) (roles : List Nat) (reg : Nat) : Res :=
  let (away, s) := s.farUnmapped ((List.range (d.nmem + 1)).map fun i => fld (mt.getD (16 * i) 0) 63 55)
  let fin (mem why : Nat) : Res := .ok (s.put 1 (.s reg (csignStatus 1 mem why 0)))
  let parts := (List.range (d.nmem + 1)).map fun i =>
    let m := (mt.drop (16 * i)).take 16
    let r := (rt.drop (4 * roles.getD i 0)).take 4
    let x := (xt.drop (32 * i)).take 32
    let md := parseMember m r x
    let pg := if md.pkg = s.fab.me then s.rangePagesOf d.asid md.ranges else if away = some i then .bad else .words []
    (memberWhy m r x d.nmem pg, { md with pages := match pg with
      | .words l => l.map BitVec.toNat
      | _ => [] }, i, pg)
  let (ms, noImg) := s.withImages (parts.map fun p => p.2.1)
  let remote := ms.any fun m => m.pkg != s.fab.me
  match parts.find? fun p => p.1 != 0 with
  | some (_, _, _, .fault k va) => .hold (s.parkIn d.asid s.cur k .load va)
  | some (why, _, i, _) => fin i why
  | none =>
    match noImg with
    | some (_, .fault k va) => s.readFault k va .load
    | some (i, .far) => fin i 7
    | some (i, _) => .trap .prot (infoAddr (((ms[i]?).map fun m => m.entry.setWidth 64).getD 0))
    | none =>
      if d.scope < spanOf ms then fin 0 3
      else if d.tdl = 0 && remote then fin 0 9
      else if d.join = 0 then s.trySigning d ms remote reg none
      else match s.joinAt d.join with
        | .fault k => s.readFault k d.join.toNat .atomic
        | .bad => fin 0 1
        | .here pa mir => s.trySigning d ms remote reg (some (none, pa, mir))
        | .far p pa => s.trySigning d ms remote reg (some (some p, pa, false))

/-- CSIGN (R373, R176). -/
def csignBody (w : Ins) (s : State) : Res :=
  let ea := s.slot.ea w.a
  let reg := num w.d
  let fin (why : Nat) : Res := .ok (s.put 1 (.s reg (csignStatus 1 0 why 0)))
  let high (a : Nat) : Bool := decide (2 ^ 48 ≤ a)
  if s.compact then .trap .prot 0
  else if ea.toNat % 128 ≠ 0 then .trap .align (infoAddr ea)
  else match s.vread ea.toNat 16 with
    | .fault k va => s.readFault k va .load
    | .far => .trap .prot (infoAddr ea)
    | .bad => .trap .prot (infoAddr ea)
    | .words dw =>
      let d := parseDesc dw
      match (Tbl.get? s.compacts d.cid).bind fun c => if c.st = .stopped && c.asid == s.asidOf s.cur && d.cid ≠ 0 then some c else none with
      | some c => .ok ((s.resumeCompact d.cid c).put 1 (.s reg (csignStatus 8 0 0 0)))
      | none =>
        if !d.ok || d.mtab % 128 ≠ 0 || d.rtab % 32 ≠ 0 || d.xtab % 256 ≠ 0 || d.join.toNat % 8 ≠ 0 ||
            high d.mtab || high d.rtab || high d.xtab || high d.join.toNat then fin 1
        else if !d.isOpen && d.scnt = 0 then fin 2
        else
          match s.vread d.mtab (16 * (d.nmem + 1)), s.vread d.xtab (32 * (d.nmem + 1)) with
          | .fault k va, _ => s.readFault k va .load
          | _, .fault k va => s.readFault k va .load
          | .far, _ => fin 1
          | _, .far => fin 1
          | .bad, _ => .trap .prot (infoAddr (BitVec.ofNat 64 d.mtab))
          | _, .bad => .trap .prot (infoAddr (BitVec.ofNat 64 d.xtab))
          | .words mt, .words xt =>
            let roles := (List.range (d.nmem + 1)).map fun i => fld (mt.getD (16 * i) 0) 40 32
            match s.vread d.rtab (4 * (roles.foldl max 0 + 1)) with
            | .fault k va => s.readFault k va .load
            | .far => fin 1
            | .bad => .trap .prot (infoAddr (BitVec.ofNat 64 d.rtab))
            | .words rt => s.signMembers d mt rt xt roles reg

/-- The compact that holds the current slot's tile, with the member's place in it. -/
def State.myCompact (s : State) : Option (Member × Compact) :=
  (s.tile (tileOf s.cur)).held.bind fun m => (Tbl.get? s.compacts m.cid.toNat).map fun c => (m, c)

/-- CDISS (R374, R191). -/
def cdissBody (w : Ins) (s : State) : Res :=
  let v := (s.slot.opU w.a).toNat
  if s.compact then
    match s.myCompact with
    | some (m, c) =>
      if v = m.cid.toNat then .ok (s.setCompact v { c with diss := true }) else .trap .prot 0
    | none => .trap .prot 0
  else
    match (if v = 0 || 65535 < v then none else Tbl.get? s.compacts v) with
    | some c =>
      if c.asid == s.asidOf s.cur then
        .ok ((s.setCompact v { c with diss := true, wait := c.wait ++ [(s.sysLanding (num w.d) 0, s.time.ns)] }).await (num w.d))
      else .ok (s.put 1 (.s (num w.d) (csignStatus 9 0 0 0)))
    | none => .ok (s.put 1 (.s (num w.d) (csignStatus 9 0 0 0)))

/-- XFER (R375). -/
def xferBody (w : Ins) (s : State) : Res :=
  if !s.compact || !s.slot.ended then .trap .prot 0
  else match s.myCompact with
    | none => .trap .prot 0
    | some (m, c) =>
      -- one that the send buffer stalls goes on with what it read at issue
      let (dd, a, b) := s.slot.xargs.getD (s.slot.getS (num w.d), s.slot.opS w.a, s.slot.opS w.b)
      let n := b.toNat
      let so := a.toNat
      let dmem := fld dd 9 0
      let dof := fld dd 35 16
      if 16384 < n then .trap .countRange (n % 2 ^ 48)
      else if so % 64 ≠ 0 then .trap .align (so % 2 ^ 48)
      else if dof % 64 ≠ 0 then .trap .align dof
      else if 2 ^ 20 < so + 64 * n || 2 ^ 20 < dof + 64 * n || c.mems.length ≤ dmem then .trap .prot (so % 2 ^ 48)
      else
        let t := tileOf s.cur
        let sent := s.slot.sentUnits
        let k := min (32 - m.send.length) (n - sent)
        let from_ := max m.sendAt (s.core (coreOf s.cur)).cycle
        let units := (List.range k).map fun i =>
          let o := so + 64 * (sent + i)
          (⟨m.cid, m.idx, dmem, dof + 64 * (sent + i), BitVec.ofNat 512 (s.tsRead t o 64), s.tsPoison.contains (t * 2 ^ 14 + o / 64), from_ + i, c.step, (0, 0)⟩ : XferUnit)
        let s1 := s.setTile t { s.tile t with held := some { m with send := m.send ++ units, sendAt := if k = 0 then m.sendAt else from_ + k } }
        if sent + k = n then .ok (s1.modSlot s.cur fun x => { x with sentUnits := 0, xargs := none })
        else .hold ((s1.modSlot s.cur fun x => { x with sentUnits := sent + k, xargs := some (dd, a, b) }).waitFor .home)

/-- EXPECT (R376). -/
def expectBody (w : Ins) (s : State) : Res :=
  if !s.compact || !s.slot.ended then .trap .prot 0
  else match s.myCompact with
    | none => .trap .prot 0
    | some (m, c) =>
      let src := (s.slot.opS w.a).toNat
      let n := (s.slot.opS w.b).toNat
      let valid := ((c.mems[m.idx]?).map fun d => d.srcs.any fun e => e.1 == src).getD false
      let e := Tbl.get m.exp src 0
      if 63 < src then .trap .countRange (src % 2 ^ 48)
      else if 65535 < n || !valid || 65535 < e + n then .trap .countRange (n % 2 ^ 48)
      else .ok (s.setTile (tileOf s.cur) { s.tile (tileOf s.cur) with held := some { m with exp := Tbl.set m.exp src (e + n) } })

/-- COMPACT_TIMEOUT taken on a tile: TOUT of its CSTAT (R187). -/
def State.markTout (s : State) (t : Nat) : State :=
  match (s.tile t).held with
  | some h => s.setTile t { s.tile t with held := some { h with tout := true } }
  | none => s

/-- SSTEP (R377): the slot arrives; the release moves it on. -/
def sstepBody (w : Ins) (s : State) : Res :=
  if !s.compact then .trap .prot 0
  else match s.myCompact with
    | none => .trap .prot 0
    | some (_, c) =>
      if c.st = .stalled then .done ((s.markTout (tileOf s.cur)).trapAt w .compactTimeout (c.step % 2 ^ 32))
      else
        let s1 := (s.noteArrival s.cur).modSlot s.cur fun x => { x with ended := true, arrived := true, wait := .expect }
        -- with the last local arrival the packages of a compact tell one another (R188, R189, notes/assumptions 85)
        let ask := spanOf c.mems = 3 && c.tdl != 0 && (s1.allMembers c).all fun n => (s1.getSlot n).arrived || !(s1.getSlot n).occ
        .hold (if ask then { s1 with rounds := { s1.rounds with podWant := true } } else s1)

/-- LFWD (R378). -/
def lfwdBody (w : Ins) (s : State) : Res :=
  if !s.compact then .trap .prot 0
  else
    let east := num w.a == 0
    let c := s.core (coreOf s.cur)
    let empty := (if east then c.le else c.lw).isEmpty
    let (v, t) := s.popLink east
    let t := t.put 1 (.s (num w.d) v)
    .ok (if empty then t else t.put 1 (.link (!east) v))

/-- CSIGN (R373). -/
def execCsign (w : Ins) (s : State) : Host.Outcome State Fault Refusal := run (.csign w) w false false (csignBody w) s
/-- CDISS (R374). -/
def execCdiss (w : Ins) (s : State) : Host.Outcome State Fault Refusal := run (.cdiss w) w false false (cdissBody w) s
/-- XFER (R375). -/
def execXfer (w : Ins) (s : State) : Host.Outcome State Fault Refusal := run (.xfer w) w false false (xferBody w) s
/-- EXPECT (R376). -/
def execExpect (w : Ins) (s : State) : Host.Outcome State Fault Refusal := run (.expect w) w false false (expectBody w) s
/-- SSTEP (R377). -/
def execSstep (w : Ins) (s : State) : Host.Outcome State Fault Refusal := run (.sstep w) w false false (sstepBody w) s
/-- LFWD (R378). -/
def execLfwd (w : Ins) (s : State) : Host.Outcome State Fault Refusal := run (.lfwd w) w false false (lfwdBody w) s

/-! What the network and the halyard do for a compact. -/

/-- The physical line at tile-store offset `o` of a member, by its pages. -/
def MemberDesc.lineAt (m : MemberDesc) (o : Nat) : Nat := (m.pages.getD (o / 4096) 0 + o % 4096) / 64

/-- Is the pinned byte `o` in a zero-filled range (R173)? -/
def MemberDesc.zeroAt (m : MemberDesc) (o : Nat) : Bool :=
  (m.ranges.foldl (fun (a : Nat × Bool) r => (a.1 + r.size * 65536, a.2 || (decide (a.1 ≤ o) && decide (o < a.1 + r.size * 65536) && r.zero)))
    (0, false)).2

/-- A pinned line converted at signing (R179): its data moves into the member's tile store, every copy ends, its entry becomes C;
in unified mode the entry takes its place after every lease. -/
def State.pinLine (s : State) (cid : BitVec 16) (i : Nat) (m : MemberDesc) (o : Nat) : State :=
  let l := m.lineAt o
  let k := m.tile / 48
  let zero := m.zeroAt o
  let data := if zero then 0 else match (if s.coh.part then s.copy k l else none) with
    | some x => x.data
    | none => s.memLine l
  let bad := !zero && s.meetsPoison k l
  let s1 := ((if s.coh.part then s else s.orderWrite l).dropCopy k l).setDir k l (some ⟨.c, 0, m.tile % 48, [], false, []⟩)
  let s3 := s1.tsWrite m.tile o 64 data.toNat
  { s3 with clines := Tbl.set s3.clines l ⟨cid, i, m.tile, o⟩,
            tsPoison := if bad then insertNat (m.tile * 2 ^ 14 + o / 64) s3.tsPoison else s3.tsPoison }

/-- The bytes of a member's role image (R174, R178). -/
def State.imageOf (s : State) (m : MemberDesc) : List Byte :=
  (List.range m.len).map fun i =>
    let va := m.entry.toNat + i
    let pa := m.ipages.getD (va / 4096 - m.entry.toNat / 4096) 0 + va % 4096
    let line := lineOf pa
    match (if s.partLine line then s.copy (m.tile / 48) line else none) with
    | some x => BitVec.ofNat 8 (sliceBytes x.data (pa % 64) 1)
    | none => Mem.get s.mem pa

/-- A member tile made ready at steps 3 to 5 of R178: caches left, scratch zero-filled, semaphores and sticky bits cleared, the
pinned lines converted, EXP preset. -/
def State.signTile (s : State) (cid : BitVec 16) (m : MemberDesc) (i : Nat) : State :=
  let s1 := s.dropTile m.tile
  let s2 := { s1 with ts := s1.ts.filter fun e => e.1 / 2 ^ 20 != m.tile, tsPoison := s1.tsPoison.filter fun g => g / 2 ^ 14 != m.tile,
                      icache := s1.icache.filter fun e => e.1 / 2 ^ 46 != m.tile }
  let x := s2.tile m.tile
  let mem : Member := ⟨cid, i, m.srcs.map fun e => (e.1, e.2.2), [], false, false, false, [], [], 0, [], s2.imageOf m⟩
  let s3 := s2.setTile m.tile { x with sems := Vector.replicate 16 0, semAt := Vector.replicate 16 0, held := some mem, mxFree := 0, ceFree := 0, mxReady := 0 }
  let s4 := (List.range 4).foldl (fun s k => s.setCore (m.tile * 4 + k)
    { s.core (m.tile * 4 + k) with lnk := 0, le := [], lw := [], cycle := 0, vstart := [], ceAt := 0, ceSem := 0, last := 3 }) s3
  (List.range (m.pages.length * 64)).foldl (fun s j => s.pinLine cid i m (64 * j)) s4

/-- The records of a member's strands written and the strands placed (R178 step 6, R180), each charged the tile's loading time (R131). -/
def State.startMember (s : State) (cid : BitVec 16) (c : Compact) (m : MemberDesc) (i : Nat) (load : Nat := 0) : State :=
  (memberSlots m).foldl (fun s n =>
    let q := n % 16
    let a := m.mrec + 64 * q
    let k := clusterOf n
    match (s.cluster k).asxOf c.asid with
    | none => s
    | some asx =>
      let w1 := BitVec.ofNat 64 (2 ^ 10 + m.cls.toNat * 2 ^ 8 + 7 * 16 + stRUNNING)
      let s := (s.clearPoison (lineOf a)).putWords a [(0x00, m.entry.setWidth 64), (0x08, w1), (0x10, BitVec.ofNat 64 (m.mctx + 32768 * q)),
        (0x18, BitVec.ofNat 64 i), (0x20, BitVec.ofNat 64 q), (0x28, cid.setWidth 64), (0x30, c.join), (0x38, BitVec.ofNat 64 asx)]
      (s.setTile m.tile { s.tile m.tile with charge := load }).place n a) s

/-- The count of a compact's member strands. -/
def memberCount (c : Compact) : Nat := (c.mems.map fun m => m.ks.foldl (· + ·) 0).foldl (· + ·) 0

/-- Status words landed for the strands that wait on a compact. -/
def State.landCompact (s : State) (c : Compact) (st mem : Nat) : State :=
  c.wait.foldl (fun s e => s.landStatus e.1.slot e.1.reg e.1.recAddr e.1.ctx (csignStatus st mem 0 (s.time.ns - e.2))) s

/-- A signing ends with FAILED (R193): the uses of the address-space entries go back, the member tiles are free again, the status word
lands. No line has been converted before superstep 0. -/
def State.failSigning (s : State) (cid : Nat) (c : Compact) (mem : Nat) : State :=
  let s1 := s.dropAsids c.asid ((s.locals c).map Prod.fst)
  let s2 := (s.locals c).foldl (fun t e => t.setTile e.1.tile { t.tile e.1.tile with held := none }) s1
  { s2 with compacts := Tbl.erase s2.compacts cid }.landCompact c 10 mem

/-- An announced hold (R186): every member core is frozen for the same cycles, which the phase clock does not count; the wall
clock does. -/
def holdAnnounce (cid : BitVec 16) (cycles : Nat) (s : State) : State :=
  match Tbl.get? s.compacts cid.toNat with
  | some _ => { s with time := { s.time with cyc := s.time.cyc + cycles } }
  | none => s

/-! Throttle levels (R18, R186). -/

/-- A die's throttle level in force. -/
def State.level (s : State) (d : Nat) : Nat := Tbl.get s.therm.level d 0
/-- The level that a die itself needs. -/
def State.need (s : State) (d : Nat) : Nat := Tbl.get s.therm.need d 0

/-- The dies of a compact's members on this package. -/
def State.compactDies (s : State) (c : Compact) : List Nat := ((s.locals c).map fun e => e.1.tile / 192).eraseDups

/-- The dies that run at one level with those of `l`: compacts join them (R186). `n` bounds the search. -/
def State.levelGroup (s : State) (l : List Nat) : Nat → List Nat
  | 0 => l
  | n + 1 =>
    State.levelGroup s ((s.compacts.flatMap fun e => let ds := s.compactDies e.2; if ds.any fun d => l.contains d then ds else []) ++ l).eraseDups n

/-- Do the member dies of a compact run at one common level (R186)? -/
def State.oneLevel (s : State) (c : Compact) : Bool := ((s.compactDies c).map s.level).eraseDups.length ≤ 1

/-- Are a tile's vector, engine and matrix queues empty, with no unit load due (R131)? -/
def State.tileQuiet (s : State) (t : Nat) : Bool :=
  let x := s.tile t
  x.mxq.isEmpty && x.req.isEmpty && x.load.isNone && (List.range 4).all fun k =>
    (s.core (t * 4 + k)).vq.isEmpty && (s.core (t * 4 + k)).ceq.isEmpty && (s.core (t * 4 + k)).pushes.isEmpty

/-- Is some request for a use under way? -/
def State.asked (s : State) (u : FabUse) : Bool := s.fab.out.any fun q => q.use == u

/-- The page-table line of a compact's join word on this package whose invalidation round is in progress (R262). -/
def State.joinRound (s : State) (c : Compact) : Bool :=
  match c.joinPa with
  | some (none, pa, _) => s.ptBusy (lineOf pa)
  | _ => false

/-- Is a dissolution over but for its end: nothing of its join word is under way any more (R191, R262)? -/
def State.dissolved (s : State) (cid : Nat) (c : Compact) : Bool := c.st == .dissolving && !s.asked (.dissolve cid) && !s.joinRound c

/-- Signing ends (R178 steps 3-6): every member strand starts superstep 0. Nothing happens while a member tile still holds a free strand
or queued work of one, nor before the member dies have come to one throttle level (R186, notes/assumptions 112), nor before the
increment of a join word on another package has its RESP (R180), nor, in a compact of another package, before that package's start (R188,
notes/assumptions 120). -/
def superstepStart (cid : BitVec 16) (s : State) : State :=
  match Tbl.get? s.compacts cid.toNat with
  | none => s
  | some c =>
    let loc := s.locals c
    if c.st ≠ .signing || c.away || !s.oneLevel c || loc.any fun e => !(s.occupied e.1.tile).isEmpty || !s.tileQuiet e.1.tile then s
    else match (if c.joined then none else c.joinPa) with
    | some (some p, pa, _) =>
      if s.asked (.sign cid.toNat) then s
      else s.sendReq p (mkRequest 2 0 pa 8 1 (bytesOfNat 8 (memberCount c) ++ bytesOfNat 8 0)) (.sign cid.toNat)
    | j =>
      let s1 := match j with
        | some (none, pa, mir) => s.addDev pa (memberCount c) mir
        | _ => s
      if s1.joinRound c then (if c.joined then s else s1.setCompact cid.toNat { c with joined := true }) else
      let s2 := loc.foldl (fun s e => s.signTile cid e.1 e.2) s1
      -- the loading time of the role images, at most 100 µs (R131), is not given
      let s3 := loc.foldl (fun s e =>
        let (v, s) := s.freeVal
        s.startMember cid c e.1 e.2 (v.toNat % (min 100000 (s.time.ns - c.t0) + 1))) s2
      let s4 := s3.landCompact c 0 0
      s4.setCompact cid.toNat { c with st := .running, wait := [] }

/-- Are the pages of a member named from another package there: every page of its ranges mapped to ordinary memory of this package (R177),
and those of its image? -/
def MemberDesc.backed (m : MemberDesc) : Bool :=
  m.pages.length == (m.ranges.map fun r => 16 * r.size).foldl (· + ·) 0 && m.pages.all (fun p => isHbm p && p % 4096 == 0) &&
    m.ipages.length == (m.entry.toNat + m.len - 1) / 4096 - m.entry.toNat / 4096 + 1

/-- Another package's signing or dissolution of a compact with members here (R176, R178, R188, R191): its members here are checked and taken
in one step, or it is refused; then its start, its end, or a CDISS. -/
def farSigning (s : State) : State :=
  let on (t : State) (cid : Nat) (f : Compact → State) : State :=
    match Tbl.get? t.compacts cid with
    | some c => f c
    | none => t
  match s.signs with
  | [] => s
  | x :: r =>
    let t := { s with signs := r }
    match x with
    | .ask dw ms join =>
      let d := parseDesc dw
      let mine := ms.filter fun m => m.pkg == s.fab.me
      if mine.isEmpty || !mine.all MemberDesc.backed || (t.signChecks d ms none false none).isSome then t
      else t.openSigning d ms (join.map fun j => (if j.1 = s.fab.me then none else some j.1, j.2)) [] true
    | .start cid => on t cid fun c => t.setCompact cid { c with away := false }
    | .cancel cid => on t cid fun c => if c.away then t.failSigning cid c 0 else t
    | .diss cid => on t cid fun c => t.setCompact cid { c with diss := true }

/-- WAITUS passes under ENTRY WAIT: the remaining strands are stopped (R178 step 2). -/
def signingWaitExpiry (cid : BitVec 16) (s : State) : State :=
  match Tbl.get? s.compacts cid.toNat with
  | some c =>
    if c.st = .signing && decide (c.t0 + 1000 * c.entry.getD 0 ≤ s.time.ns) then (s.locals c).foldl (fun s e => s.emptyTile e.1.tile) s
    else s
  | none => s

/-- The source slot of a member that lists `smem` (R183). -/
def MemberDesc.srcOf (m : MemberDesc) (smem : Nat) : Option Nat := (m.srcs.find? fun e => e.2.1 == smem).map Prod.fst

/-- A unit arrives at a member's tile at phase cycle `at0`: its data lands and it is counted in the same step; one from a member that the
tile does not list is discarded and sets UNX (R183, R184, R179). -/
def State.landUnit (s : State) (c : Compact) (u : XferUnit) (at0 : Nat) : State :=
  match c.mems[u.dmem]? with
  | none => s
  | some d =>
    if d.pkg ≠ s.fab.me then s
    else match (s.tile d.tile).held, d.srcOf u.smem with
      | none, _ => s
      | some m, none => s.setTile d.tile { s.tile d.tile with held := some { m with unx := true } }
      | some m, some j =>
        let s1 := s.tsWrite d.tile u.off 64 u.data.toNat
        let g := d.tile * 2 ^ 14 + u.off / 64
        let s2 := { s1 with tsPoison := if u.bad then insertNat g s1.tsPoison else s1.tsPoison.filter (· != g) }
        let r := Tbl.get m.rcv j 0
        let m' : Member := if r = 65535 then { m with ovr := true } else { m with rcv := Tbl.set m.rcv j (r + 1), lands := m.lands ++ [(j, at0)] }
        s2.setTile d.tile { s2.tile d.tile with held := some m' }

/-- Stalled XFERs of a tile may go on. -/
def State.wakeXfer (s : State) (t : Nat) : State :=
  (s.occupied t).foldl (fun s n => s.modSlot n fun x => if x.xargs.isSome then { x with wait := .none } else x) s

/-- A unit for a member on another package goes out over the group of the set whose turn it is, or the next in ascending order that accepts it
(R69, R70), as a packet of one unit with the superstep of its XFER (notes/assumptions 55, 99), the next of this package's packets to that
package; with every group of the set gone it is discarded, with none that accepts it now it stays. -/
def State.sendUnit (s : State) (c : Compact) (u : XferUnit) (pkg : Nat) : Option State :=
  let set := (Tbl.get c.sets pkg []).filter fun g => !s.failed (.sds g)
  let turn := Tbl.get c.turn pkg 0
  match set, (set.filter (turn ≤ ·) ++ set.filter (· < turn)).find? fun g => (s.group g).takes 80 with
  | [], _ => some s
  | _, none => none
  | _, some g =>
    let x := s.group g
    let seq := Tbl.get s.fab.packets pkg 0
    let k : Packet := ⟨u.cid, BitVec.ofNat 32 u.step, u.smem, u.dmem, u.off, bytesOfNat 64 u.data.toNat, BitVec.ofNat 64 u.bad.toNat, 0, seq,
      if x.puem then 0 else x.sent % 2⟩
    let s1 := (s.setGroup g { x with out := x.out ++ [k], sent := x.sent + 1 }).setCompact u.cid.toNat { c with turn := Tbl.set c.turn pkg (g + 1) }
    some { s1 with fab := { s1.fab with packets := Tbl.set s1.fab.packets pkg (seq + 1) } }

/-- Landing and barrier latency of R184 by the span of the members. -/
def spanLat (ms : List MemberDesc) : Nat × Nat :=
  match spanOf ms with
  | 0 => (24, 20)
  | 1 => (60, 48)
  | _ => (150, 120)

/-- Does slot `n` still issue in its compact: not stopped, halted, gone or waiting at the superstep barrier? -/
def State.inPhase (s : State) (n : Nat) : Bool :=
  let x := s.getSlot n
  x.occ && !x.gone && x.stop == .none && x.wait != .expect && !(s.core (coreOf n)).halted

/-- The phase cycle that a compact has reached on this package: the earliest of its issuing cores; none when no core issues. -/
def State.phaseNow (s : State) (c : Compact) : Option Nat :=
  ((s.allMembers c).filter s.inPhase).foldl (fun b n =>
    let x := (s.core (coreOf n)).cycle
    match b with
    | none => some x
    | some y => some (min x y)) none

/-- Has every member strand of the compact on this package arrived (R185)? -/
def State.allArrived (s : State) (c : Compact) : Bool := (s.allMembers c).all fun n => (s.getSlot n).arrived || !(s.getSlot n).occ

/-- Are a member tile's counts met: RCV ≥ EXP in every slot (R185)? -/
def countsMet (m : Member) : Bool := m.exp.all fun e => decide (e.2 ≤ Tbl.get m.rcv e.1 0)

/-- Are the counts of every local member tile met? -/
def State.countsMet (s : State) (c : Compact) : Bool :=
  (s.locals c).all fun e => ((s.tile e.1.tile).held.map Sys2Proof.Machine.countsMet).getD true

/-- The `k`-th smallest of a list of cycles. -/
def nthLeast (l : List Nat) (k : Nat) : Nat :=
  ((l.filter fun x => decide (k ≤ (l.filter fun y => decide (y ≤ x)).length)).foldl (fun (b : Option Nat) x =>
    match b with
    | none => some x
    | some y => some (min x y)) none).getD 0

/-- The phase cycle at which a member tile reached RCV ≥ EXP in every slot (R185). -/
def Member.metAt (m : Member) : Nat :=
  (m.exp.map fun e => if e.2 = 0 then 0 else nthLeast ((m.lands.filter fun l => l.1 == e.1).map Prod.snd) e.2).foldl max 0

/-- The phase cycle of a barrier's release: max(a, d) + B in a compact of one package (R185); no timing relation holds across
packages (R188). -/
def State.releaseAtCycle (s : State) (c : Compact) : Nat :=
  let d := ((s.locals c).map fun e => ((s.tile e.1.tile).held.map Member.metAt).getD 0).foldl max 0
  if spanOf c.mems = 3 then (s.allMembers c).foldl (fun a n => max a (s.core (coreOf n)).cycle) 0
  else max c.arr d + (spanLat c.mems).2

/-- The phase cycles in which something a member tile has sent leaves its buffer or lands (R184). -/
def State.sendCycles (s : State) (t : Nat) : List Nat :=
  match (s.tile t).held with
  | some m => (m.send.head?.map fun u => u.left).toList ++ m.fly.map Prod.snd
  | none => []

/-- Has a compact passed phase cycle `x`? With all its strands at the barrier the clock runs on to the release, one cycle after another
(R184, R185). -/
def State.phasePast (s : State) (c : Compact) (x : Nat) : Bool :=
  match s.phaseNow c with
  | some y => decide (x < y)
  | none =>
    c.st != .running || !s.allArrived c || spanOf c.mems == 3 ||
      ((s.locals c).all (fun e => (s.sendCycles e.1.tile).all fun y => decide (x ≤ y)) &&
        (!s.countsMet c || decide (x ≤ s.releaseAtCycle c)))

/-- The oldest unit of a tile's send buffer leaves: for a tile of this package it will land within the landing latency, at a phase cycle
that the specification leaves open (a free value); or it goes to another package (R184, R69). -/
def sendOldest (t : Nat) (s : State) : State :=
  match (s.tile t).held with
  | none => s
  | some m =>
    match m.send, Tbl.get? s.compacts m.cid.toNat with
    | u :: r, some c =>
      let s1 := s.setTile t { s.tile t with held := some { m with send := r } }
      match c.mems[u.dmem]? with
      | none => s1.wakeXfer t
      | some d =>
        if d.pkg = s.fab.me then
          let (v, s2) := s1.freeVal
          let at0 := u.left + 1 + v.toNat % (spanLat c.mems).1
          (s2.setTile t { s2.tile t with held := some { m with send := r, fly := m.fly ++ [({ u with rnd := s.roundStamp (t / 192) }, at0)] } }).wakeXfer t
        else match s1.sendUnit c u d.pkg with
          | some s2 => s2.wakeXfer t
          | none => s
    | _, _ => s

/-- The first of the units in flight from a tile to land (R184). -/
def Member.firstFly (m : Member) : Option (XferUnit × Nat) :=
  m.fly.foldl (fun b u => match b with
    | none => some u
    | some v => if u.2 < v.2 then some u else some v) none

/-- A unit in flight from a tile lands: its data and its count in the same step (R184). -/
def landOne (t : Nat) (u : XferUnit × Nat) (s : State) : State :=
  match (s.tile t).held with
  | none => s
  | some m => match Tbl.get? s.compacts m.cid.toNat with
    | some c => (s.setTile t { s.tile t with held := some { m with fly := m.fly.erase u } }).landUnit c u.1 u.2
    | none => s

/-- Does the receiving tile's die accept a unit (R138)? -/
def State.unitReaches (s : State) (c : Compact) (u : XferUnit) : Bool :=
  s.reaches u.rnd (((c.mems[u.dmem]?).map fun d => d.tile / 192).getD 0)

/-- Every unit in flight from a tile lands (R133); `n` bounds them. -/
def State.landFly (t : Nat) (s : State) : Nat → State
  | 0 => s
  | n + 1 => match (s.tile t).held.bind Member.firstFly with
    | some u =>
      if ((Tbl.get? s.compacts u.1.cid.toNat).map fun c => s.unitReaches c u.1).getD true then State.landFly t (landOne t u s) n else s
    | none => s

/-- XFER_UNIT_LAND (R184): the oldest unit of a tile's send buffer leaves, or the first in flight from it lands, once its phase cycle is
over. -/
def xferUnitLand (t : Nat) (s : State) : State :=
  match (s.tile t).held with
  | none => s
  | some m =>
    match Tbl.get? s.compacts m.cid.toNat with
    | none => s
    | some c =>
      match m.firstFly with
      | some u => if s.phasePast c u.2 && s.unitReaches c u.1 then landOne t u s else if (m.send.head?.map fun v => s.phasePast c v.left).getD false then sendOldest t s else s
      | none => if (m.send.head?.map fun v => s.phasePast c v.left).getD false then sendOldest t s else s

/-- Does a member tile end the superstep in COUNT_RANGE: OVR or UNX set, or RCV above EXP (R185)? -/
def countFault (m : Member) : Bool := m.ovr || m.unx || m.rcv.any fun e => decide (Tbl.get m.exp e.1 0 < e.2)

/-- The CID free, the status words of a dissolution landed (R191, R192). -/
def State.endCompact (s : State) (cid : Nat) (c : Compact) : State := { s with compacts := Tbl.erase s.compacts cid }.landCompact c 0 0

/-- A pinned line of a lost die at dissolution (R191): its content is lost, its home poisoned. -/
def State.losePinned (s : State) (l : Nat) (c : CLine) : State :=
  let s1 := (s.setPoison l).setDir (c.tile / 48) l none
  { s1.note l with clines := Tbl.erase s1.clines l }

/-- A pinned line returns to the coherent world (R191): M, owned by the member tile, all bytes dirty; poison stays poison. -/
def State.unpinLine (s : State) (l : Nat) (c : CLine) : State :=
  let data := s.tsRead c.tile c.off 64
  let k := c.tile / 48
  let bad := s.tsPoison.contains (c.tile * 2 ^ 14 + c.off / 64)
  let s1 := ((s.orderWrite l).setDir k l (some ⟨.m, tileBit (c.tile % 48), c.tile % 48, [], false, []⟩)).fillTile c.tile l
  let s2 := if s1.coh.part then (if bad then s1 else s1.setCopy k l ⟨0, 0, BitVec.ofNat 512 data, BitVec.allOnes 64⟩)
    else
      { s1.setHome l { s1.home l with owner := some k } with mem := Mem.write s1.mem (64 * l) data 64 }
  let s3 := if bad then s2.setPoison l else s2.clearPoison l
  { s3 with clines := Tbl.erase s3.clines l }

/-- Dissolution (R191, R192): records DONE, the join word decremented once per record, the lines returned, the tiles free; the CID free and
the status words landed, once the decrements of a join word on another package have their RESP. -/
def dissolve (cid : BitVec 16) (c : Compact) (s : State) : State :=
  let members := (s.allMembers c).filter fun n => (s.getSlot n).occ
  let live := members.filter fun n => !(s.getSlot n).gone
  let stoppedRecs := (s.locals c).flatMap fun e => (memberSlots e.1).filterMap fun n =>
    let a := e.1.mrec + 64 * (n % 16)
    if !(s.getSlot n).occ && s.recState a == stPREEMPTED then some (n, a) else none
  let s1 := live.foldl (fun s n =>
    let x := s.getSlot n
    s.endRecord (clusterOf n) x.asx.toNat x.recAddr.toNat stDONE c.asid) s
  let s1 := stoppedRecs.foldl (fun s e => s.endRecord (clusterOf e.1) (fld (s.recWord e.2 7) 3 0) e.2 stDONE c.asid) s1
  let n := live.length + stoppedRecs.length
  let s3 := members.foldl (fun s n => s.freeSlot n) s1
  let mine := s3.clines.filter fun e => e.2.cid == cid
  let s4 := mine.foldl (fun s e => if s.ring.gone.contains (e.2.tile / 192) then s.losePinned e.1 e.2 else s.unpinLine e.1 e.2) s3
  let tiles := (s.locals c).map fun e => e.1.tile
  let s5 := tiles.foldl (fun s t => s.setTile t { s.tile t with held := none }) s4
  let s6 := { s5 with ts := s5.ts.filter fun e => !tiles.contains (e.1 / 2 ^ 20),
                      tsPoison := s5.tsPoison.filter fun g => !tiles.contains (g / 2 ^ 14) }
  -- JOIN's decrements, one for each record made DONE, with a release of the members' clusters
  let s6 := if c.joinPa.isSome then ((tiles.map clusterOfTile).eraseDups).foldl (fun t k => t.releaseAt k 6 fun _ => true) s6 else s6
  let s6 := match c.joinPa with
    | some (none, pa, mir) => (List.range n).foldl (fun (t : State) _ => t.addDev pa (2 ^ 64 - 1) mir) s6
    | some (some p, pa, _) => (List.range n).foldl (fun (t : State) _ =>
        t.sendReq p (mkRequest 2 0 pa 8 1 (bytesOfNat 8 (2 ^ 64 - 1) ++ bytesOfNat 8 0)) (.dissolve cid.toNat)) s6
    | none => s6
  if s6.asked (.dissolve cid.toNat) || s6.joinRound c then s6.setCompact cid.toNat { c with st := .dissolving } else s6.endCompact cid.toNat c

/-- Is a dissolution pending that the present boundary lets take effect: a STOPPED compact's, a STALLED one's whose strands have all
arrived or run their handlers (R191-R193)? A running one's boundary is its barrier's release (R185, R190). -/
def State.dissolvable (s : State) (c : Compact) : Bool :=
  c.diss && match c.st with
    | .stopped => true
    | .dissolving | .signing | .running => false
    | .stalled => (s.allMembers c).all fun n => let x := s.getSlot n; x.arrived || !x.occ || bit x.status 2

/-- COMPACT_DISSOLVE: a pending dissolution takes effect at a boundary (R191-R193). -/
def compactDissolve (cid : BitVec 16) (s : State) : State :=
  match Tbl.get? s.compacts cid.toNat with
  | some c => if s.dissolvable c then dissolve cid c s else s
  | none => s

/-- The next superstep of a member tile: EXP := PRESET, RCV := 0, OVR and UNX clear (R183, R187). -/
def State.nextStep (s : State) (m : MemberDesc) : State :=
  match (s.tile m.tile).held with
  | some h =>
    let h' : Member := { h with exp := m.srcs.map fun e => (e.1, e.2.2), rcv := [], ovr := false, unx := false, lands := [] }
    s.setTile m.tile { s.tile m.tile with held := some h' }
  | none => s

/-- Has everything that moves before the barrier's release moved (R184, R185)? -/
def State.sendsPast (s : State) (c : Compact) : Bool :=
  spanOf c.mems == 3 || (s.locals c).all fun e => (s.sendCycles e.1.tile).all fun y => decide (s.releaseAtCycle c < y)

/-- Across packages a barrier waits for the edge of a `.pod` round, which the state of R188 requests: the state that has asked,
or none once the edge is there. -/
def State.podWait (s : State) (cid : BitVec 16) (c : Compact) : Option State :=
  if spanOf c.mems ≠ 3 then none
  else if c.round.isSome then none
  else let _ := cid; some { s with rounds := { s.rounds with podWant := true } }

/-- A superstep barrier releases (R185, R188): every member strand goes on past its SSTEP, or takes COUNT_RANGE on a tile whose
counts are wrong; after SCNT supersteps, or with a CDISS pending, the compact dissolves. -/
def compactBarrierRelease (cid : BitVec 16) (s : State) : State :=
  match Tbl.get? s.compacts cid.toNat with
  | none => s
  | some c =>
    if c.st ≠ .running || !s.allArrived c || !s.countsMet c || !s.sendsPast c then s
    else
      let last := match c.scnt with
        | some k => decide (k ≤ c.step + 1)
        | none => false
      match s.podWait cid c with
      | some t => t
      | none =>
      if c.diss || last then dissolve cid { c with step := c.step + 1 } s
      else
        let cyc := s.releaseAtCycle c
        let s1 := (s.locals c).foldl (fun s e =>
          let bad := ((s.tile e.1.tile).held.map countFault).getD false
          let clock (s : State) (x : Nat) : State := (List.range 4).foldl (fun s k =>
            let core := s.core (e.1.tile * 4 + k)
            s.setCore (e.1.tile * 4 + k) { core with cycle := x, last := 3 }) s
          let s := clock s cyc
          let s := (memberSlots e.1).foldl (fun s n =>
            let x := s.getSlot n
            if !x.occ || x.gone then s
            else
              let s := s.putSlot n { x with pc := x.pc + 12, wait := .none, arrived := false, ended := false, stall := 0 }
              if bad then s.enterTrap n .countRange 0 false (x.pc + 12) else s) s
          (clock s (cyc + 1)).nextStep e.1) s
        s1.setCompact cid.toNat { c with step := c.step + 1, arr := 0, round := none, heard := [], there := [] }

/-- The other packages with members of a compact. -/
def State.farOf (s : State) (c : Compact) : List Nat := (c.mems.map MemberDesc.pkg).eraseDups.filter fun p => p != s.fab.me

/-- Has every member arrived with some member tile's counts still short (R189)? Another package's members count as its pennants have told
(notes/assumptions 85). -/
def State.countsShort (s : State) (c : Compact) : Bool :=
  s.allArrived c && (s.farOf c).all (fun p => c.there.contains p) && (!s.countsMet c || (s.farOf c).any fun p => !c.heard.contains p)

/-- TDL passes with counts short, or a member's die is lost (R189, R193): every member strand takes COMPACT_TIMEOUT at the
barrier, and the compact is STALLED. -/
def transferDeadlineExpiry (cid : BitVec 16) (s : State) : State :=
  match Tbl.get? s.compacts cid.toNat with
  | none => s
  | some c =>
    if c.st ≠ .running || !s.countsShort c || c.tdl = 0 || s.time.ns < c.arrNs + 1000 * c.tdl then s
    else
      let s1 := (s.locals c).foldl (fun s e =>
        (memberSlots e.1).foldl (fun s n =>
          let x := s.getSlot n
          if !x.occ || x.gone then s else (s.putSlot n { x with arrived := false }).enterTrap n .compactTimeout (c.step % 2 ^ 32) false x.pc)
          (s.markTout e.1.tile)) s
      s1.setCompact cid.toNat { c with st := .stalled }

end Sys2Proof.Machine
end

