-- ==== Sys2Proof/Machine/System.lean ====
section
/-! DEFINITION. System instructions, group E (19 R436-R457): traps, system registers, translation, gang-stop, context images,
L2 mode, halt, pennants, sensors, time, idle. -/

namespace Sys2Proof.Machine
open Sys2Proof

/-- TRAP (R442). -/
def execTrap (w : Ins) (s : State) : Host.Outcome State Fault Refusal :=
  run (.trap w) w false false (fun _ => .trap .trap (immU w.a)) s
/-- BRK (R442). -/
def execBrk (w : Ins) (s : State) : Host.Outcome State Fault Refusal :=
  run (.brk w) w false false (fun _ => .trap .brk (immU w.a)) s

/-- ERET (R441). -/
def eretBody (s : State) : Res :=
  if s.slot.epc.toNat % 12 ≠ 0 then .trap .align (infoAddr s.slot.epc)
  else .jump (s.modSlot s.cur Slot.trapReturn) s.slot.epc
/-- ERET (R441). -/
def execEret (w : Ins) (s : State) : Host.Outcome State Fault Refusal := run (.eret w) w true false eretBody s

/-! System registers (R305, R445). -/

/-- LNKST's value (R165). -/
def Core.lnkst (c : Core) : Word64 := BitVec.ofNat 64 (c.le.length % 8 * 2 ^ 13 + c.lw.length % 8 * 2 ^ 10 + c.lnk.toNat)

/-- The code of a compact's state in CSTAT (R187). -/
def CState.code : CState → Nat
  | .signing => 1 | .running => 2 | .stopped => 3 | .stalled => 4 | .dissolving => 5

/-- CSTAT's value for a slot; zero in free mode (R187). -/
def State.cstat (s : State) (n : Nat) : Word64 :=
  match (s.tile (tileOf n)).held with
  | some m =>
    if s.compactAt n then
      let c := Tbl.get? s.compacts m.cid.toNat
      let step := (c.map Compact.step).getD 0
      BitVec.ofNat 64 (m.cid.toNat * 2 ^ 48 + step % 2 ^ 32 * 2 ^ 16 + ((c.map fun c => c.st.code).getD 0) * 2 ^ 13 +
        m.ovr.toNat * 2 ^ 12 + m.unx.toNat * 2 ^ 11 + m.tout.toNat * 2 ^ 10 + m.idx)
    else 0
  | none => 0

/-- HANGREC's value for a slot's ASID (R136). -/
def State.hangrec (s : State) (n : Nat) : Word64 :=
  match Tbl.get? s.desig (s.asidOf n).toNat with
  | some a => BitVec.ofNat 64 (2 ^ 63 + a / 64 % 2 ^ 42 * 64)
  | none => 0

/-- A system register as slot `n` reads it (R305). -/
def State.readSys (s : State) (n k : Nat) : Word64 :=
  let x := s.getSlot n
  match k with
  | 0x00 => if isTsc n then x.status ||| 1 else x.status
  | 0x01 => x.cause
  | 0x02 => x.epc
  | 0x03 => x.tvec
  | 0x04 => x.fflags.setWidth 64
  | 0x05 => if s.coh.part then 0 else x.lclock
  | 0x06 => x.pfb
  | 0x07 => BitVec.ofNat 64 (x.recAddr.toNat / 64 * 64)
  | 0x08 => s.hangrec n
  | 0x10 => (s.core (coreOf n)).lnkst
  | 0x11 => s.cstat n
  | 0x12 => if s.compactAt n then BitVec.ofNat 64 (s.core (coreOf n)).cycle else 0
  | 0x20 => (s.tile (tileOf n)).vweight.setWidth 64
  | 0x21 => (s.tile (tileOf n)).scr.setWidth 64
  | 0x30 => (s.die (dieOf n)).sdctl.setWidth 64
  | 0x31 => (s.die (dieOf n)).sdtage.setWidth 64
  | 0x32 => (s.die (dieOf n)).sdquant.setWidth 64
  | 0x33 => (s.cluster (clusterOf n)).sdpool
  | 0x38 => s.coh.part.toNat
  | _ => 0

/-- Does MFS of a register trap PRIV in user state (R305)? -/
def sysReadPriv (k : Nat) : Bool := decide (0x30 ≤ k) && decide (k ≤ 0x33)
/-- Does MTS of a register trap PRIV in user state (R305)? -/
def sysWritePriv (k : Nat) : Bool := [0x00, 0x01, 0x02, 0x03, 0x05, 0x11, 0x12, 0x20, 0x21, 0x30, 0x31, 0x32, 0x33].contains k

/-- MFS (R445). -/
def execMfs (w : Ins) (s : State) : Host.Outcome State Fault Refusal :=
  run (.mfs w) w (sysReadPriv (num w.a)) false (fun s => .ok (s.put 1 (.s (num w.d) (s.readSys s.cur (num w.a))))) s

/-- Is a controller frozen for update: from FREEZE to COMMIT or the end of ROLLBACK (R100)? -/
def State.frozen (s : State) (ctl : Nat) : Bool :=
  s.nmc.uctl == ctl && (s.nmc.st == .freeze || s.nmc.st == .start || s.nmc.st == .commit || s.nmc.st == .rollback)

/-- The function of a controller (R24, R94): 0 the NMC, 1-4 the DCs, 5-20 the translation firmware, 21-24 the optical engine controllers,
25-40 the SerDes group controllers. -/
def ctlFunc (i : Nat) : Func :=
  if i = 0 then .nmc else if i < 5 then .dcr (i - 1) else if i < 21 then .tscf (i - 5) else if i < 25 then .oec (i - 21) else .sgc (i - 25)

/-- Does group 0 present the device to the host: its RDY bit is set (R71, R27, notes/assumptions 100)? -/
def State.hostLink (s : State) : Bool := s.ready (.sds 0)
/-- What the host does through group 0; without it nothing reaches the device. -/
def State.fromHost (s : State) (f : State → State) : State := if s.hostLink then f s else s

/-- The die of a controller, none for the NMC (R92). -/
def ctlDie (ctl : Nat) : Option Nat :=
  if ctl = 0 then none else if ctl < 5 then some (ctl - 1) else if ctl < 21 then some ((ctl - 5) / 4)
  else if ctl < 25 then some (ctl - 21) else some ((ctl - 25) / 4)

/-- Is a controller in service: ready, not failed, its die not lost (R24, R25, R27)? -/
def State.serves (s : State) (i : Nat) : Bool :=
  s.ready (ctlFunc i) && !s.failed (ctlFunc i) && !((ctlDie i).map s.ring.gone.contains).getD false

/-- Does a controller act: in service (R25, R27) and not frozen (R100)? -/
def State.acting (s : State) (i : Nat) : Bool := s.serves i && !s.frozen i

/-- MTS (R445): a dispatcher parameter written while its DC is frozen is held (R122, R100). FFLAGS is overwritten as it stands at issue, so
that flags which land later are ORed in, those of the next cycle too (R287). -/
def mtsBody (w : Ins) (s : State) : Res :=
  let k := num w.d
  let v := s.slot.opU w.a
  if 0x30 ≤ k && k ≤ 0x33 && s.frozen (1 + dieOf s.cur) then
    .ok { s with nmc := { s.nmc with held := s.nmc.held ++ [.sd s.cur k v] } }
  else .ok (if k = 4 then s.landWrite s.cur (.sys k v) else s.put 1 (.sys k v))
/-- MTS (R445). -/
def execMts (w : Ins) (s : State) : Host.Outcome State Fault Refusal :=
  run (.mts w) w (sysWritePriv (num w.d)) false (mtsBody w) s

/-! Translation (R446-R448). -/

/-- WHY of a refused TLBWR (R250, R444); 0: it is accepted. -/
def tlbRefusal (s : State) (e : TlbEnt) : Nat :=
  let z := e.size
  if fld e.e0 7 1 ≠ 0 || fld e.e1 53 52 ≠ 0 || fld e.e1 3 0 ≠ 0 || fld e.e2 63 52 ≠ 0 || fld e.e2 5 0 ≠ 0 ||
      2 ≤ fld e.e1 10 9 then 1
  else if fld e.e0 47 12 % 4 ^ z ≠ 0 || fld e.e1 51 12 % 4 ^ z ≠ 0 then 2
  else if (!bit e.e1 63 && fld e.e1 62 54 != 0) || (bit e.e1 63 && bit e.e1 11) then 3
  else if !isHbm (64 * e.ptLine) || s.failed (.hbm (64 * e.ptLine / stackSize)) then 4
  else 0

/-- Does a new entry displace an old one: their ranges overlap in an address space of both (R252)? -/
def TlbEnt.displaces (e old : TlbEnt) : Bool :=
  (old.asid == e.asid || old.glb || e.glb) &&
    decide (old.vbase < e.vbase + 2 ^ e.shift) && decide (e.vbase < old.vbase + 2 ^ old.shift)

/-- Entries a translation cache holds (R251). -/
def cacheSize (c : Nat) : Nat := if c < 768 then 1024 else 64

/-- The cache with a new entry (R251, R252): overlapping entries leave; a full tile cache loses an entry that the hardware
chooses, a full TSC cache its least recently written. -/
def State.installTlb (s : State) (c : Nat) (e : TlbEnt) : State :=
  let l := (s.cache c).filter fun o => !e.displaces o
  if l.length < cacheSize c then s.setCache c (l ++ [e])
  else if c < 768 then
    let (v, s) := s.freeVal
    s.setCache c (l.eraseIdx (v.toNat % l.length) ++ [e])
  else s.setCache c (l.drop 1 ++ [e])

/-- A line becomes a PT line (R260): every cached copy recalled and written back, no owner, no directory entry. -/
def State.makePt (s : State) (line : Nat) : State :=
  if s.isPt line then s
  else
    let s1 := (List.range 16).foldl (fun t c => ((t.writeBack c line).dropCopy c line).setDir c line none) s
    let h := s1.home line
    if h.owner.isNone then s1 else s1.setHome line { h with owner := none }

/-- A cache registered as a holder of a PT line (R260, R261). A round in progress, whose store completes after the registration, invalidates
its entry as well (R264). -/
def State.registerPt (s : State) (line c : Nat) : State :=
  let s1 := s.makePt line
  let p := Tbl.get s1.xl.ptl line PtLine.reset
  { s1 with xl := { s1.xl with ptl := Tbl.set s1.xl.ptl line { p with
    holders := insertNat c p.holders, waiting := if s.ptBusy line then insertNat c p.waiting else p.waiting } } }

/-- A PT line without holders and without a round is none (R260). -/
def State.dropPt (s : State) (line : Nat) : State :=
  match Tbl.get? s.xl.ptl line with
  | some p =>
    if p.holders.isEmpty && p.waiting.isEmpty && p.removed.isEmpty && p.storers.isEmpty then
      { s with xl := { s.xl with ptl := Tbl.erase s.xl.ptl line } }
    else s
  | none => s

/-- Caches left with no entry of a PT line leave its holder vector (R447); a round in progress awaits them no more. -/
def State.sweepPt (s : State) : State :=
  let ptl := s.xl.ptl.map fun e =>
    let keep (c : Nat) : Bool := (s.cache c).any fun t => t.valid && t.ptLine == e.1
    (e.1, { e.2 with holders := e.2.holders.filter keep })
  (ptl.map Prod.fst).foldl State.dropPt { s with xl := { s.xl with ptl := ptl } }

/-- TLBWR (R446, R250-R252, R261): the entry is installed and registered; the status lands with the acknowledgement. -/
def tlbwrBody (w : Ins) (s : State) : Res :=
  let a := num w.a
  let e : TlbEnt := ⟨s.slot.getS a, s.slot.getS (a + 1), s.slot.getS (a + 2)⟩
  let c := (s.slot.opU w.b).toNat
  let fin (st why : Nat) : Res := .ok (s.put 1 (.s (num w.d) (statusWord st why 0)))
  if (c < 768 && !s.ready (.clu (c / 48))) || (768 ≤ c && !s.ready (.tscf (c - 768))) then fin 2 0
  else
    let why := tlbRefusal s e
    if why ≠ 0 then fin 1 why
    else
      let s1 := (s.installTlb c e).registerPt e.ptLine c
      .ok ({ s1 with tlbRegs := s1.tlbRegs ++ [s.sysLanding (num w.d) (statusWord 0 0 0)] }.await (num w.d))
/-- TLBWR (R446). -/
def execTlbwr (w : Ins) (s : State) : Host.Outcome State Fault Refusal := 
  runValued (.tlbwr w) w true true (decide (783 < (s.slot.opU w.b).toNat)) (tlbwrBody w) s

/-- TLBRD (R446). The mapping of locations to entries is the model's: the order of writing. -/
def tlbrdBody (w : Ins) (s : State) : Res :=
  let c := (s.slot.opU w.b).toNat
  let i := (s.slot.opU w.a).toNat
  let d := num w.d
  let e := ((s.cache c)[i]?).getD ⟨0, 0, 0⟩
  .ok (s.puts 64 [.s d e.e0, .s (d + 1) e.e1, .s (d + 2) e.e2])
/-- TLBRD (R446). -/
def execTlbrd (w : Ins) (s : State) : Host.Outcome State Fault Refusal := 
  runValued (.tlbrd w) w true true (decide (783 < (s.slot.opU w.b).toNat) || decide (1023 < (s.slot.opU w.a).toNat)) (tlbrdBody w) s

/-- Does TLBINV of a form select an entry (R447)? -/
def tlbSelected (form asid : Nat) (a : Word64) (e : TlbEnt) : Bool :=
  match form with
  | 0 => (e.glb || e.asid == asid) && e.vbase >>> e.shift == a.toNat >>> e.shift
  | 1 => !e.glb && e.asid == asid
  | 2 => e.ptLine == a.toNat / 64
  | _ => true

/-- Is a request of some strand or engine to another package under way (R262 step 4: a fabric store is performed at `.acc`)? -/
def State.fabBusy (s : State) : Bool := s.fab.out.any fun q => match q.use with
  | .rst _ landed => !landed
  | .mark => false
  | _ => true

/-- Is an access under way that translation cache `c` has translated (R262 step 4): a request to another package, an atomic at an MSA, a
queued MLDB, whose pages were translated at issue, or the records of a creation? -/
def State.cacheBusy (s : State) (c : Nat) : Bool :=
  s.fabBusy || (s.msaq.any fun q => match q.who with
    | .slot n _ => cacheOf n == c
    | .remote _ => false) ||
    (decide (c < 768) && (s.tile c).mxq.any fun q => q.op == 0x2C1) || s.slots.any fun e => e.2.making.isSome && cacheOf e.1 == c

/-- TLBINV (R447): it removes its entries once every access through a translation has been performed. -/
def tlbinvBody (w : Ins) (s : State) : Res :=
  if s.fabBusy || s.xl.caches.any fun c => s.cacheBusy c.1 then .hold (s.waitFor .retry)
  else
    let form := Forms.oth2 (mods w.d)
    let sel := tlbSelected form (fld (s.slot.opU w.b) 15 0) (s.slot.getS (num w.a))
    let n := (s.xl.caches.map fun c => (c.2.filter fun e => e.valid && sel e).length).foldl (· + ·) 0
    let cut (t : Tbl (List TlbEnt)) : Tbl (List TlbEnt) := t.map fun c => (c.1, c.2.filter fun e => !sel e)
    let s1 : State := { s with xl := { s.xl with caches := cut s.xl.caches, l1 := cut s.xl.l1 } }
    .ok (s1.sweepPt.put 1 (.s (num w.d) (statusWord 0 0 (min n (2 ^ 48 - 1)))))
/-- TLBINV (R447). -/
def execTlbinv (w : Ins) (s : State) : Host.Outcome State Fault Refusal := run (.tlbinv w) w true true (tlbinvBody w) s

/-- MBXPOST (R448): the reply goes to the access named by SLOT and ENG of s[A]. -/
def mbxpostBody (w : Ins) (s : State) : Res :=
  let a := s.slot.getS (num w.a)
  .ok { s with xl := { s.xl with replies := s.xl.replies ++ [(fld a 47 34, (a >>> 30).setWidth 4, s.slot.getS (num w.b))] } }
/-- MBXPOST (R448). -/
def execMbxpost (w : Ins) (s : State) : Host.Outcome State Fault Refusal := run (.mbxpost w) w true true (mbxpostBody w) s

/-- MBXWAIT (R448). -/
def mbxwaitBody (w : Ins) (s : State) : Res :=
  let k := clusterOf s.cur
  let c := s.cluster k
  let d := num w.d
  match c.mailbox with
  | m :: r => .ok ((s.setCluster k { c with mailbox := r }).puts 1 [.s d m.w0, .s (d + 1) m.w1, .s (d + 2) m.w2, .s (d + 3) m.w3])
  | [] => if bit (mods w.d) 0 then .ok (s.put 1 (.s d 0)) else .hold (s.waitFor .mailbox)
/-- MBXWAIT (R448). -/
def execMbxwait (w : Ins) (s : State) : Host.Outcome State Fault Refusal := run (.mbxwait w) w true true (mbxwaitBody w) s

/-! Gang-stop (R449, R132, R133). -/

/-- Does slot `n` lie in the unit of slot `m` at scope code 4 to 6? -/
def sameUnit (sc n m : Nat) : Bool :=
  match sc with
  | 4 => clusterOf n == clusterOf m
  | 5 => dieOf n == dieOf m
  | _ => true

/-- The running members that a GSTOP names, the issuing strand excluded. -/
def State.gangSlots (s : State) (sc : Nat) (cid : Option Nat) (gid : BitVec 32) : List Nat :=
  (s.slots.filter fun e =>
    !isTsc e.1 && e.2.occ && !e.2.gone && e.1 != s.cur && sameUnit sc e.1 s.cur && s.asidOf e.1 == s.asidOf s.cur &&
      match cid with
      | some c => e.2.clsC && ((s.tile (tileOf e.1)).held.map fun m => m.cid.toNat == c).getD false
      | none => e.2.clsG && !e.2.clsC && e.2.gid == gid).map Prod.fst

/-- The queued members: READY or PREEMPTED records of the gang in the scope's clusters. -/
def State.gangQueued (s : State) (sc : Nat) (gid : BitVec 32) : Nat :=
  let cs := (List.range 16).filter fun c => sameUnit sc (c * 768) (clusterOf s.cur * 768)
  (cs.map fun c => ((List.range 8).map fun q => ((s.queue c q).map fun e =>
    (e.recs.filter fun a =>
      bit (s.recWord a 1) 11 && (s.recWord a 1 >>> 32).setWidth 32 == gid &&
        (match (s.cluster c).asids[fld (s.recWord a 7) 3 0]? with
         | some (some en) => en.asid == s.asidOf s.cur
         | _ => false)).length).foldl (· + ·) 0).foldl (· + ·) 0).foldl (· + ·) 0

/-- The members that can be stopped, as long as their clusters' pools have free, unreserved blocks for those with `ctx` 0 (R132). -/
def State.gangStoppable (s : State) (l : List Nat) : List Nat :=
  (l.foldl (fun (acc : List Nat × List Nat) n =>
    let c := clusterOf n
    if (s.getSlot n).ctx != 0 then (acc.1 ++ [n], acc.2)
    else if (acc.2.filter (· == c)).length < s.poolRoom c then (acc.1 ++ [n], c :: acc.2)
    else acc) ([], [])).1

/-- The stop broadcast to members (R132): each stops at its next instruction boundary. -/
def State.askStop (s : State) (l : List Nat) : State := l.foldl (fun t n => t.modSlot n fun x => { x with stop := .gang }) s

/-- GSTOP (R449). -/
def gstopBody (w : Ins) (s : State) : Res :=
  let m := mods w.d
  let sc := fld m 4 2
  let v := s.slot.opU w.a
  let cid := if bit m 0 then some (fld v 15 0) else none
  let land := s.sysLanding (num w.d) 0
  let signing := (cid.bind fun c => Tbl.get? s.compacts c).map fun c => c.st == .signing && c.asid == s.asidOf s.cur
  match cid, signing with
  | some c, some true =>
    -- held, applied at the start of superstep 0 (R193)
    match Tbl.get? s.compacts c with
    | some x =>
      let g : GangStop := ⟨land, sc, some c, [], 0, false⟩
      .ok ({ (s.setCompact c { x with stopPending := true }) with gstops := s.gstops ++ [g] }.await (num w.d))
    | none => .ok s
  | _, _ =>
    -- a compact leaves RUNNING only for STOPPED (R192)
    let runs := ((cid.bind fun c => Tbl.get? s.compacts c).map fun c => c.st == .running).getD true
    let run := if runs then s.gangSlots sc cid (v.setWidth 32) else []
    let q := if cid.isNone then s.gangQueued sc (v.setWidth 32) else 0
    if run.isEmpty && q = 0 then .ok (s.put 1 (.s (num w.d) (statusWord 1 0 0)))
    else
      let go := s.gangStoppable run
      let g : GangStop := ⟨land, sc, cid, go, q, go.length != run.length⟩
      .ok ({ (s.askStop go) with gstops := s.gstops ++ [g] }.await (num w.d))
/-- GSTOP (R449). -/
def execGstop (w : Ins) (s : State) : Host.Outcome State Fault Refusal := run (.gstop w) w true true (gstopBody w) s

/-! Context images (R450, R451). -/

/-- Has every vector and matrix operation of a slot completed, and every status word that it awaits landed? -/
def State.quietSlot (s : State) (n : Nat) : Bool :=
  let x := s.getSlot n
  x.busyS == 0 && x.busyV == 0 && x.busyT == 0 && !(s.core (coreOf n)).vq.contains n &&
    !(s.tile (tileOf n)).mxq.any fun c => c.slot == n && c.recAddr == x.recAddr

/-- The address rules of a context block (R450). -/
def ctxAddr (a : Word64) (ok : Nat → Res) : Res :=
  if a.toNat % 4096 ≠ 0 then .trap .align (infoAddr a)
  else if !isHbm a.toNat then .trap .prot (infoAddr a)
  else ok a.toNat

/-- CTXSV (R450). -/
def ctxsvBody (w : Ins) (s : State) : Res :=
  let m := mods w.d
  let a := s.slot.getS (num w.a)
  ctxAddr a fun c =>
    if (bit m 0 && !s.slot.clsV) || (bit m 1 && !s.slot.clsT) then .trap .prot (infoAddr a)
    else if !s.quietSlot s.cur then .hold (s.waitFor .status)
    else .ok (s.saveFull s.cur c (s.slot.pc + 12) false (bit m 0) (bit m 1) [] 0)
/-- CTXSV (R450). -/
def execCtxsv (w : Ins) (s : State) : Host.Outcome State Fault Refusal := run (.ctxsv w) w true true (ctxsvBody w) s

/-- Are the reserved words of a context block zero (R115, R451)? -/
def State.ctxZeros (s : State) (c : Nat) (vp : Bool) : Bool :=
  let h := s.mem8 c
  !bit h 39 && fld h 31 12 == 0 && s.memRead (c + 0x50) 176 == 0 && s.memRead (c + 0x3AA) 6 == 0 &&
    s.memRead (c + 0x3C0) 1080 == 0 && (!vp || s.memRead (c + 0x2100) 12032 == 0)

/-- The v-registers untagged, their bits kept. -/
def untagV (v : Vector VReg 16) : Vector VReg 16 := v.map fun r => { r with tag := none }
/-- The t-registers untagged, their bits kept; no MMACR is recorded in them (R405). -/
def untagT (t : Vector TReg 2) : Vector TReg 2 := t.map fun r => { r with tag := none, prog := 0 }

/-- CTXLD (R451): refused whole, or every register of the block but those of R451's exceptions. A part that is not valid untags its
registers, whose bits stay (DEDUCED, notes/assumptions 52). -/
def ctxldBody (w : Ins) (s : State) : Res :=
  let a := s.slot.getS (num w.a)
  ctxAddr a fun c =>
    let h := s.mem8 c
    let x := s.slot
    if fld h 47 40 ≠ 1 || (h >>> 48).setWidth 16 != s.asidOf s.cur || s.mem8 (c + 0x48) != 0 || s.mem8 (c + 0x7F8) != 0 ||
        (bit h 33 && !x.clsV) || (bit h 34 && !x.clsT) || !s.ctxZeros c (bit h 33) then .trap .prot (infoAddr a)
    else if !s.quietSlot s.cur then .hold (s.waitFor .status)
    else
      let z := s.loadVT c (s.loadRegs c x) (bit h 33) (bit h 34)
      let y := { z with v := if bit h 33 then z.v else untagV x.v, t := if bit h 34 then z.t else untagT x.t }
      let y := { y with lclock := if s.coh.part then 0 else tmax x.lclock y.lclock, lh := x.lh, lm := x.lm, wake := x.wake }
      let t := s.setSlot y
      if y.pc.toNat % 12 ≠ 0 then
        .done ((t.modSlot t.cur fun z => { z with wait := .none }).enterTrap t.cur .align (infoAddr y.pc) false y.pc)
      else .jump t y.pc
/-- CTXLD (R451). -/
def execCtxld (w : Ins) (s : State) : Host.Outcome State Fault Refusal := run (.ctxld w) w true true (ctxldBody w) s

/-! L2 mode, halt, pennants, sensors, time, idle (R452-R456). -/

/-- The mode that the last L2MODE request leaves (R452). -/
def State.modeToBe (s : State) : Bool := (s.l2sw.getLast?.map L2Switch.part).getD s.coh.part

/-- L2MODE (R452): the switch is asked of the barrier network; it runs before anything else is accessed (R201). -/
def l2modeBody (w : Ins) (s : State) : Res :=
  let v := (s.slot.opU w.a).toNat
  let fin (st : Nat) : Res := .ok (s.put 1 (.s (num w.d) (statusWord st 0 0)))
  if 1 < v then fin 3
  else if s.modeToBe = (v == 1) then fin 1
  else if !s.compacts.isEmpty then fin 2
  else
    let q : L2Switch := ⟨v == 1, s.sysLanding (num w.d) 0, s.time.ns⟩
    .ok ({ s with l2sw := s.l2sw ++ [q] }.await (num w.d))
/-- L2MODE (R452). -/
def execL2mode (w : Ins) (s : State) : Host.Outcome State Fault Refusal := run (.l2mode w) w true true (l2modeBody w) s

/-- HALT (R453). -/
def haltBody (s : State) : Res := .ok (let c := s.core (coreOf s.cur); s.setCore (coreOf s.cur) { c with halted := true })
/-- HALT (R453). -/
def execHalt (w : Ins) (s : State) : Host.Outcome State Fault Refusal := run (.halt w) w true true haltBody s

/-- PENNANT (R454): it joins the next round of its scope to start, the one after the running one if there is one; its status lands at
that round's edge. -/
def pennantBody (w : Ins) (s : State) : Res :=
  let pod := fld (mods w.d) 4 2 == 7
  let r := s.rounds
  let run := if pod then r.podRun else r.devRun
  let k := (if pod then r.pod else r.dev) + (if run then 2 else 1)
  let r1 := { r with waits := r.waits ++ [(pod, k, s.sysLanding (num w.d) (statusWord 0 0 k.toNat))] }
  let r2 := if pod then { r1 with podWant := true } else { r1 with devWant := true }
  .ok ({ s with rounds := r2 }.await (num w.d))
/-- PENNANT (R454). -/
def execPennant (w : Ins) (s : State) : Host.Outcome State Fault Refusal := run (.pennant w) w true true (pennantBody w) s

/-- SENSE (R455, R74). -/
def execSense (w : Ins) (s : State) : Host.Outcome State Fault Refusal :=
  run (.sense w) w false false
    (fun s =>
      let k := (s.slot.opU w.a).toNat
      .ok (s.put 64 (.s (num w.d) (if k ≤ 6191 then (Tbl.get s.therm.words k 0).setWidth 64 else 0)))) s

/-- TIME (R455). -/
def execTime (w : Ins) (s : State) : Host.Outcome State Fault Refusal :=
  run (.time w) w false false
    (fun s => .ok (s.put 1 (.s (num w.d) (BitVec.ofNat 64 (if bit (mods w.d) 0 then s.time.cyc else s.time.ns))))) s

/-- IDLE (R456): past it, the slot stops issuing. -/
def idleBody (w : Ins) (s : State) : Res := .done ((s.advance w).waitFor (.idle (s.time.cyc + 4096)))
/-- IDLE (R456). -/
def execIdle (w : Ins) (s : State) : Host.Outcome State Fault Refusal := run (.idle w) w false true (idleBody w) s

end Sys2Proof.Machine
end

