-- ==== Sys2Proof/Machine/EventQueue.lean ====
section
/-! DEFINITION. Event records and the event queue (04_host R88-R90), the readiness map's updates (01 R24-R28). -/

namespace Sys2Proof.Machine
open Sys2Proof

/-- The device physical address of a host physical address: bit 51 set (R73). -/
def hostPa (a : Nat) : Nat := hostBase + a % 2 ^ 51

/-- A record written into the queue's next slot (R89): PHASE in bit 0 of byte 0x3F, then EQTAIL; MSI-X becomes due with INT set. -/
def State.writeRec (s : State) (r : EvRec) : State :=
  let q := s.evq
  let i := q.tail.toNat
  let a := hostPa (fld q.base 51 12 * 4096 + 64 * (i % 2 ^ q.log2n.toNat))
  let phase := 1 - (i >>> q.log2n.toNat) % 2
  let s1 := s.putWords a ((List.range 8).map fun k =>
    (8 * k, if k = 7 then setFld (r.getD 7 0) 56 8 phase else r.getD k 0))
  { s1 with evq := { q with tail := q.tail + 1, due := q.due || q.int } }

/-- Has the queue a free slot (R89)? With EQHEAD written past EQTAIL it counts as full (notes/assumptions 104). -/
def EvQ.room (q : EvQ) : Bool := q.en && decide ((q.tail - q.head).toNat < 2 ^ q.log2n.toNat)

/-- A record raised: written, held, or discarded (R88, R89). -/
def State.raise (s : State) (r : EvRec) : State :=
  if s.evq.held.isEmpty && s.evq.room then s.writeRec r
  else if s.evq.held.length < 1024 then { s with evq := { s.evq with held := s.evq.held ++ [r] } }
  else { s with evq := { s.evq with lost := if s.evq.lost = 0xFFFFFFFF then s.evq.lost else s.evq.lost + 1 } }

/-- Held records written while there is room, oldest first, at most `n`. -/
def State.drainHeld (s : State) : Nat → State
  | 0 => s
  | n + 1 =>
    match s.evq.held with
    | r :: l => if s.evq.room then State.drainHeld ({ s with evq := { s.evq with held := l } }.writeRec r) n else s
    | [] => s

/-- The first word of a record: TYPE, VER 1 and its other fields (R90). -/
def recHead (type : Nat) (rest : Nat) : Word64 := BitVec.ofNat 64 (type * 2 ^ 56 + 2 ^ 48 + rest)

/-- EQCTL_WRITE (R88): LOG2N only while EN is 0; setting EN clears both pointers and writes the held records. A write of EN 1 over EN 1
clears nothing (notes/assumptions 104). -/
def eqctlWrite (v : Word32) (s : State) : State :=
  let q := s.evq
  let log := if q.en then q.log2n else v.setWidth 5
  let en := bit v 31 && decide (6 ≤ log.toNat) && decide (log.toNat ≤ 16)
  let s1 := { s with evq := { q with log2n := log, en := en, int := bit v 30,
                                     tail := if en && !q.en then 0 else q.tail, head := if en && !q.en then 0 else q.head } }
  if en && !q.en then s1.drainHeld 1024 else s1
/-- EQHEAD_WRITE (R89). -/
def eqheadWrite (v : Word32) (s : State) : State := { s with evq := { s.evq with head := v } }.drainHeld 1024
/-- MSIX_INTERRUPT (R89): at most once per µs. -/
def msixInterrupt (s : State) : State :=
  let q := s.evq
  if q.due && q.int && (q.sent == 0 || decide (q.sentAt + 1000 ≤ s.time.ns)) then
    { s with evq := { q with due := false, sentAt := s.time.ns, sent := q.sent + 1 } }
  else s

/-- EQCTL_WRITE (R88). -/
def execEqctlWrite (v : Word32) (s : State) : Host.Outcome State Fault Refusal := event s fun s => s.fromHost (eqctlWrite v)
/-- EQHEAD_WRITE (R89). -/
def execEqheadWrite (v : Word32) (s : State) : Host.Outcome State Fault Refusal := event s fun s => s.fromHost (eqheadWrite v)
/-- MSIX_INTERRUPT (R89). -/
def execMsixInterrupt (s : State) : Host.Outcome State Fault Refusal := event s msixInterrupt

/-- New RDY and FAIL words: a change counts in RDYGEN and raises a readiness record (R28, R90). -/
def State.setMap (s : State) (rdy fail : BitVec 128) : State :=
  if rdy = s.rdy && fail = s.fail then s
  else
    let g := s.rdygen + 1
    let s1 := { s with rdy := rdy, fail := fail, rdygen := g }
    s1.raise [recHead 0x01 g.toNat, rdy.setWidth 64, (rdy >>> 64).setWidth 64, fail.setWidth 64, (fail >>> 64).setWidth 64]

/-- A function's RDY bit set or cleared. -/
def State.setRdy (s : State) (f : Func) (b : Bool) : State := s.setMap (setBit s.rdy (rdyIndex f) b) s.fail
/-- Functions failed in one update: RDY cleared, FAIL set (R27). -/
def State.setFail (s : State) (l : List Func) : State :=
  s.setMap (l.foldl (fun r f => setBit r (rdyIndex f) false) s.rdy) (l.foldl (fun r f => setBit r (rdyIndex f) true) s.fail)

end Sys2Proof.Machine
end

