-- ==== Sys2Proof/Machine/Rounds.lean ====
section
/-! DEFINITION. Pennant rounds (06 R138, R139, 19 R454, 16 R367, 08 R188, 05 R107). A round is begun by its injector or by the first
pennant that comes from another package. The units of a die then send their pennants, and enter the next round once every input has
delivered its own (notes/assumptions 85). -/

namespace Sys2Proof.Machine
open Sys2Proof

/-- A die's links in the ring 0, 1, 3, 2 (R12): link and die at its other end, forward first. -/
def dieLinks : Nat → List (Nat × Nat)
  | 0 => [(0, 1), (3, 2)]
  | 1 => [(1, 3), (0, 0)]
  | 3 => [(2, 2), (1, 1)]
  | _ => [(3, 0), (2, 3)]

/-- Is link `i` of die `d` in use: not failed, its other die in service? -/
def State.linkInUse (s : State) (e : Nat × Nat) : Bool := !s.ring.down.contains e.1 && !s.ring.gone.contains e.2

/-- Does port `p` carry flits in both directions? -/
def State.joined (s : State) (p : Nat) : Bool :=
  let up (t : PortSt) : Bool := t != .down && t != .train && t != .failed
  up (s.port p).tx && up (s.port p).rx

/-- The inputs of the units of die `d` in a scope: 0 and 1 the links, 2 the loops, 3 to 6 the ports for `.pod` (R138). -/
def State.dieInputs (s : State) (pod : Bool) (d : Nat) : List Nat :=
  2 :: ((dieLinks d).zipIdx.filter fun e => s.linkInUse e.1).map Prod.snd ++
    (if pod then (List.range 4).filterMap fun i => if s.joined (4 * d + i) then some (3 + i) else none else [])

/-- The round that the units of die `d` have entered. -/
def Rounds.entered (r : Rounds) (pod : Bool) (d : Nat) : Word64 :=
  let u := (r.units[d]?).getD (0, 0)
  if pod then u.2 else u.1
/-- The number of a scope's last complete edge. -/
def Rounds.edge (r : Rounds) (pod : Bool) : Word64 := if pod then r.pod else r.dev
/-- Does a round of the scope run? -/
def Rounds.running (r : Rounds) (pod : Bool) : Bool := if pod then r.podRun else r.devRun

/-- The dies in service. -/
def State.diesUp (s : State) : List Nat := (List.range 4).filter fun d => !s.ring.gone.contains d

/-- The compacts across packages whose members here have all arrived, with the superstep, and whether their counts are met
(R188, R189). -/
def State.waitingCompacts (s : State) : List (Nat × Nat × Bool) :=
  (s.compacts.filter fun e => e.2.st == .running && spanOf e.2.mems == 3 && s.allArrived e.2).map fun e => (e.1, e.2.step, s.countsMet e.2)

/-- The payload of this package's `.pod` pennants: the round, the arrivals at the 16 barriers since the last ones with the target in
force, and up to ten compacts that wait for the edge (notes/assumptions 85). -/
def State.podPay (s : State) : List Byte :=
  let arr (b : Nat) : Nat := Tbl.get s.rounds.news b 0 % 2 ^ 20 + (s.barrier (7 * 4096 * 16 + b)).n % 2 ^ 20 * 2 ^ 20
  bytesOfNat 8 s.rounds.pod.toNat ++ (List.range 16).flatMap (fun b => bytesOfNat 5 (arr b)) ++
    (s.waitingCompacts.take 10).flatMap fun e => bytesOfNat 4 (e.1 % 2 ^ 16 + e.2.1 % 2 ^ 14 * 2 ^ 16 + e.2.2.toNat * 2 ^ 30 + 2 ^ 31)

/-- A round begins at this package. -/
def State.beginRound (s : State) (pod : Bool) : State :=
  let r := s.rounds
  let keep (e : Bool × Nat) : Bool := e.1 != pod
  let r1 : Rounds := { r with told := r.told.filter keep, seen := r.seen.filter keep, fly := r.fly.filter fun e => e.1 != pod }
  if pod then
    { s with rounds := { r1 with podRun := true, podWant := false, pay := s.podPay, news := [], heard := [],
                                 ready := ((s.waitingCompacts.take 10).filter fun e => e.2.2).map fun e => (e.1, e.2.1) } }
  else { s with rounds := { r1 with devRun := true, devWant := false, dump := s.nmc.fatal.isSome && s.nmc.cut.isNone } }

/-- The units of die `d` send the running round's pennants on every output (R138). -/
def State.tellRound (s : State) (pod : Bool) (d : Nat) : State :=
  let out := (pod, d, 2) :: ((dieLinks d).filter s.linkInUse).map fun e =>
    (pod, e.2, ((dieLinks e.2).zipIdx.find? fun f => f.1.1 == e.1).elim 0 Prod.snd)
  let r := s.rounds
  let s1 := { s with rounds := { r with told := (pod, d) :: r.told, fly := r.fly ++ out } }
  if !pod then s1
  else
    let ports := ((List.range 4).map fun i => 4 * d + i).filter s1.joined
    ports.foldl (fun t p => t.enqueue p
      [⟨5, BitVec.ofNat 9 (t.port p).peer, BitVec.ofNat 9 t.fab.me, BitVec.ofNat 4 p, 0, 0, t.rounds.pay, none⟩]) s1

/-- Is this package the injector of the scope's rounds, and able to inject: the NMC injects `.dev` rounds, and `.pod` rounds when its
package has the lowest number of the group (R139); a frozen NMC injects nothing (R100), a failed one the DUMP round alone (R107). -/
def State.injects (s : State) (pod : Bool) : Bool :=
  (s.acting 0 || (!pod && s.nmc.fatal.isSome && !s.frozen 0)) && !(pod && s.fab.group.any fun p => decide (p < s.fab.me))

/-- ROUND_INJECT (R139): the injector starts a round. A request of a DC is this move itself. -/
def roundInject (pod : Bool) (s : State) : State :=
  if s.rounds.running pod || !s.injects pod then s
  else match s.diesUp with
    | d :: _ => (s.beginRound pod).tellRound pod d
    | [] => s

/-- The `.pod` barriers whose N-th arrival has come complete at a round edge (R367). Arrivals beyond the N-th, which the round's pennants may
bring from several packages at once, count towards the next generation (notes/assumptions 85). -/
def State.podBarriers (s : State) : State :=
  (s.barriers.filter fun e => e.1 / 16 / 4096 == 7 && decide (0 < e.2.cnt) && decide (e.2.n ≤ e.2.cnt)).foldl (fun t e =>
    let b : Barrier := { e.2 with cnt := e.2.cnt - e.2.n, gen := e.2.gen + 1 }
    { t with barriers := Tbl.set t.barriers e.1 b, rounds := { t.rounds with podWant := t.rounds.podWant || decide (0 < b.cnt) } }.wakeBarrier e.1) s

/-- The compacts across packages that every member's package has told as waiting may release at edge `k` (R188). -/
def State.podCompacts (s : State) (k : Word64) : State :=
  let f (e : Nat × Compact) : Nat × Compact :=
    let far := ((e.2.mems.map MemberDesc.pkg).eraseDups.filter fun p => p != s.fab.me)
    let go := s.rounds.ready.contains (e.1, e.2.step) && far.all fun p => e.2.heard.contains p
    (e.1, if go then { e.2 with round := some k } else e.2)
  { s with compacts := s.compacts.map f }

/-- A round's edge is complete: the status words of its PENNANTs land, `.pod` barriers and compact barriers release, a DUMP round stops
every unit. -/
def State.edge (s : State) (pod : Bool) : State :=
  let r := s.rounds
  let k := r.edge pod + 1
  let due (w : Bool × Word64 × Landing) : Bool := w.1 == pod && decide (w.2.1.toNat ≤ k.toNat)
  let rest : List (Bool × Word64 × Landing) := r.waits.filter fun w => !due w
  let r1 : Rounds := { r with waits := rest, dev := if pod then r.dev else k, pod := if pod then k else r.pod,
                              devRun := if pod then r.devRun else false, podRun := if pod then false else r.podRun,
                              devWant := r.devWant || (!pod && rest.any fun w => !w.1),
                              podWant := r.podWant || (pod && rest.any Prod.fst),
                              dump := if pod then r.dump else false }
  let s1 := { s with rounds := r1 }
  let s2 := if !pod && r.dump then { s1 with nmc := { s1.nmc with cut := some k } } else s1
  let s3 := (r.waits.filter due).foldl (fun t w => let l := w.2.2; t.landStatus l.slot l.reg l.recAddr l.ctx l.val) s2
  if pod then s3.podBarriers.podCompacts k else s3

/-- The units of die `d` enter the next round of the scope; with the last die's entry the edge is complete (R138). -/
def State.enterRound (s : State) (pod : Bool) (d : Nat) : State :=
  let r := s.rounds
  let u := (r.units[d]?).getD (0, 0)
  let r1 : Rounds := { r with units := r.units.setIfInBounds d (if pod then (u.1, u.2 + 1) else (u.1 + 1, u.2)) }
  let s1 := { s with rounds := r1 }
  if s1.diesUp.all fun e => r1.entered pod e == r1.edge pod + 1 then s1.edge pod else s1

/-- A pennant of round `k` on input `i` of die `d` (R138): the first one of a `.pod` round begun elsewhere begins it here. -/
def State.pennantAt (s : State) (pod : Bool) (d i : Nat) (k : Word64) : State :=
  if s.rounds.entered pod d ≠ k || s.rounds.seen.contains (pod, d * 16 + i) || s.ring.gone.contains d then s
  else
    let s1 := if s.rounds.running pod then s else s.beginRound pod
    let s2 := if s1.rounds.told.contains (pod, d) then s1 else s1.tellRound pod d
    let s3 := { s2 with rounds := { s2.rounds with seen := (pod, d * 16 + i) :: s2.rounds.seen } }
    if (s3.dieInputs pod d).all fun j => s3.rounds.seen.contains (pod, d * 16 + j) then s3.enterRound pod d else s3

/-- What a `.pod` pennant of package `src` tells: its arrivals at the barriers, and the compacts that wait there (R367, R188). -/
def State.hearPennant (s : State) (src : Nat) (pay : List Byte) : State :=
  if s.rounds.heard.contains src then s
  else
    let s1 := { s with rounds := { s.rounds with heard := src :: s.rounds.heard } }
    let s2 := (List.range 16).foldl (fun t b =>
      let v := natOfBytes ((pay.drop (8 + 5 * b)).take 5)
      let k := 7 * 4096 * 16 + b
      let x := t.barrier k
      if v % 2 ^ 20 = 0 then t
      else
        let y : Barrier := { x with n := if x.cnt = 0 then v / 2 ^ 20 else x.n, cnt := x.cnt + v % 2 ^ 20 }
        { t with barriers := Tbl.set t.barriers k y }) s1
    (List.range 10).foldl (fun t i =>
      let v := natOfBytes ((pay.drop (88 + 4 * i)).take 4)
      match (if v < 2 ^ 31 then none else Tbl.get? t.compacts (v % 2 ^ 16)) with
      | some c =>
        if c.step % 2 ^ 14 ≠ v / 2 ^ 16 % 2 ^ 14 then t
        else
          let first := !c.there.contains src
          t.setCompact (v % 2 ^ 16) { c with there := insertNat src c.there, arrNs := if first then t.time.ns else c.arrNs,
                                             heard := if v.testBit 30 then insertNat src c.heard else c.heard }
      | none => t) s2

/-- Has a pennant of the running `.pod` round come on this port, with the units behind it not yet in the next round (R138)? -/
def State.gated (s : State) (p : Nat) : Bool := s.rounds.podRun && s.rounds.seen.contains (true, p / 4 * 16 + 3 + p % 4) &&
  s.rounds.entered true (p / 4) == s.rounds.pod

/-- Has the last input that a die's units wait for gone out of use since its other pennants came (R138, R141)? -/
def State.roundCaught (s : State) (pod : Bool) (d : Nat) : Bool :=
  s.rounds.running pod && s.rounds.told.contains (pod, d) && s.rounds.entered pod d == s.rounds.edge pod &&
    (s.dieInputs pod d).all fun j => s.rounds.seen.contains (pod, d * 16 + j)

/-- The units of a die that waits for no input any more enter the next round. -/
def catchRound (pod : Bool) (d : Nat) (s : State) : State := if s.roundCaught pod d then s.enterRound pod d else s

/-- A pennant on an on-package input (R138). -/
def pennantOn (d i : Nat) (pod : Bool) (s : State) : State :=
  if s.rounds.fly.contains (pod, d, i) then
    { s with rounds := { s.rounds with fly := s.rounds.fly.erase (pod, d, i) } }.pennantAt pod d i (s.rounds.entered pod d)
  else s

/-- ROUND_INJECT (R139). -/
def execRoundInject (p : Bool) (s : State) : Host.Outcome State Fault Refusal := event s (roundInject p)

end Sys2Proof.Machine
end

