-- ==== Sys2Proof/Machine/Optical.lean ====
section
/-! DEFINITION. The optical fabric (02_optical_fabric R29-R55): stripes and bounds, link acknowledgement and replay, requests that
arrive, responses, markers, loss of light, route configurations. -/

namespace Sys2Proof
open Sys2Proof.Machine

/-- Is a request malformed (R42)? DESIGN CHOICE: for an atomic of another length than 4 or 8 bytes, misaligned, with an unassigned AOP, or
AFADD or AAMAX of 8 bytes, no rule gives an answer; it is malformed too (notes/assumptions 119). -/
def Request.malformed (r : Request) : Bool :=
  decide (2 < r.op) || r.ackl == 3 || fld r.w0 57 52 != 0 || fld r.w1 43 0 != 0 || (r.op != 2 && r.aop != 0) ||
    decide (4096 < r.pa % 4096 + r.len) ||
    (r.op == 2 && ((r.len != 4 && r.len != 8) || r.pa % r.len != 0 || r.aop == 0 || decide (12 < r.aop) ||
      (r.len == 8 && (r.aop == 2 || r.aop == 7))))

/-- The bytes of data that a request brings: a store's, or an atomic's operand and comparand. -/
def Request.dataLen (r : Request) : Nat := if r.op = 1 then r.len else if r.op = 2 then 2 * r.len else 0

end Sys2Proof

namespace Sys2Proof.Machine
open Sys2Proof

/-! Bounds (R50-R52). -/

/-- Sum of what is reserved over port `p`: RES of every destination routed over it and its transit reservation (R52). -/
def State.portLoadOf (s : State) (p : Nat) : Nat :=
  ((s.optic.routes.filter fun e => bit e.ports p).map RouteEntry.res).foldl (· + ·) 0 +
    ((s.optic.transit.filter fun e => e.1 == p).map Prod.snd).foldl (· + ·) 0

/-- DBT_d for a route entry (R51, R52); with no usable path all of it is zero, HOPS too (notes/assumptions 89). -/
def State.dbtOf (s : State) (e : RouteEntry) : Word64 :=
  let usable := (List.range 16).filter fun p => bit e.ports p && (s.port p).open_ && (s.crossed e p).all fun g => decide (0 < g)
  if usable.isEmpty then 0
  else
    let gmin := (usable.flatMap (s.crossed e)).foldl min 65535
    let scaled := usable.map fun p =>
      let sum := s.portLoadOf p
      let g := (s.port p).g
      if g < sum then e.res * g / sum else e.res
    let g := scaled.foldl min e.res
    BitVec.ofNat 64 (2 ^ 63 + e.hops % 4 * 2 ^ 61 + g % 65536 * 2 ^ 32 + (e.hops * 600 + 2000 + cdiv 4096000 gmin))

/-- Is a port's bound still to be published, or does it drain: destinations routed over it refuse new work until then (R38, R49, R52)? -/
def OPort.unsettled (x : OPort) : Bool := x.drain || x.fresh

/-- Every destination entry written anew (R51), but for those over an unsettled port: they keep V 0. -/
def State.publishDbt (s : State) : State :=
  let entry (e : RouteEntry) : Word64 :=
    if (List.range 16).any fun p => bit e.ports p && (s.port p).unsettled then setBit (Tbl.get s.fab.dbt e.dst 0) 63 false else s.dbtOf e
  { s with fab := { s.fab with dbt := s.optic.routes.foldl (fun t e => Tbl.set t e.dst (entry e)) [] } }

/-- New work over port `p` is refused: every destination routed over it loses V (R38, R49, R52). -/
def State.closePort (s : State) (p : Nat) : State :=
  let s1 := s.setPort p { s.port p with open_ := false }
  let hit := (s1.optic.routes.filter fun e => bit e.ports p).map RouteEntry.dst
  { s1 with fab := { s1.fab with dbt := s1.fab.dbt.map fun e => if hit.contains e.1 then (e.1, setBit e.2 63 false) else e } }

/-- The OE controller of die `d` tells its four ports' bounds in one BOUND flit (R37, R51) on every port that carries flits
(notes/assumptions 86). -/
def State.tellBounds (s : State) (d : Nat) : State :=
  let values := (List.range 4).flatMap fun i => let x := s.port (4 * d + i); bytesOfNat 8 (boundWord x.g x.l)
  let pay := [BitVec.ofNat 8 (4 * d), 4, 0, 0, 0, 0, 0] ++ values
  (List.range 16).foldl (fun t p => if (t.port p).linked then t.setPort p ((t.port p).emitLink t.time.ns 4 pay) else t) s

/-! The OPT_LOS record (R54). -/

/-- The live masks of a direction: of this end's receiver or of its transmitter. -/
def OPort.masks (x : OPort) (recv : Bool) : Word64 := if recv then x.rxLive else x.txLive

/-- The requests on a path that a double fault strikes (R55). -/
def State.strike (s : State) (p : Nat) : State :=
  { s with fab := { s.fab with out := s.fab.out.map fun q => if q.path = p then { q with struck := true } else q } }

/-- A record opened at entry to HOLD from UP, or DBL set in the open one (R54, R55). -/
def State.openLos (s : State) (p : Nat) (recv : Bool) (cause : Nat) : State :=
  let x := s.port p
  let m := x.masks recv
  let g := boundRate m
  match x.los with
  | some r => (s.setPort p { x with los := some { r with dbl := true } }).strike p
  | none => s.setPort p { x with los := some ⟨cause, recv, false, (stripeOf m).1, s.time.ns, m, g, boundLat g, 0⟩ }

/-- The open record raised (R54). -/
def State.raiseLos (s : State) (p : Nat) (failed : Bool) : State :=
  let x := s.port p
  match x.los with
  | none => s
  | some r =>
    let m := x.masks r.recv
    let (f, n) := stripeOf m
    let (f, n) := if failed then (0, 0) else (f, n)
    let g := if failed then 0 else boundRate m
    let w0 := recHead 0x21 (p * 2 ^ 44 + r.cause * 2 ^ 40 + r.recv.toNat * 2 ^ 39 + r.dbl.toNat * 2 ^ 38 + failed.toNat * 2 ^ 37 +
      x.peer % 512 * 2 ^ 28 + x.pport % 16 * 2 ^ 24 + r.fOld.toNat * 2 ^ 20 + f.toNat * 2 ^ 16 + n * 2 ^ 11)
    (s.setPort p { x with los := none }).raise [w0, BitVec.ofNat 64 r.tdet, r.lvOld, m,
      BitVec.ofNat 64 (r.nrep % 4096 * 2 ^ 48 + r.gOld * 2 ^ 32 + g * 2 ^ 16), BitVec.ofNat 64 (r.lOld * 2 ^ 32 + boundLat g)]

/-! A request's end at its source (R41, R53). -/

/-- A RESP's data as a register of `bytes` bytes takes it. -/
def respWord (bytes : Nat) (uns : Bool) (data : List Byte) : Word64 :=
  let v := BitVec.ofNat 64 (natOfBytes (data.take bytes))
  if uns then zext v (8 * bytes) else sext v (8 * bytes)

/-- The first word of a LAUNCH_BAD record (R90). -/
def launchBad (p why : Nat) (seq : Word32) : Word64 := recHead 0x11 (p * 2 ^ 42 + why * 2 ^ 32 + seq.toNat)

/-- A launch port. -/
def State.lp (s : State) (p : Nat) : Port := Tbl.get s.ports p Port.reset
/-- A launch port replaced. -/
def State.setLp (s : State) (p : Nat) (x : Port) : State := { s with ports := Tbl.set s.ports p x }

/-- LPHEAD after a change: the number of the first entry not placed; entries with nothing left to do leave (R76, R81). -/
def Port.settle (x : Port) : Port :=
  let ents := x.ents.filter fun e => !(e.placed && e.joined)
  { x with head := ((x.ents.find? fun e => !e.placed).map PortEnt.seq).getD x.acc, ents := ents }

/-- The DC's access for an entry has ended (R495): an empty launch counts as placed, the members of another may issue. -/
def State.entryDone (s : State) (p : Nat) (k : Word32) : State :=
  let x := s.lp p
  let ents : List PortEnt := x.ents.map fun e => if e.seq = k then { e with joined := true, placed := e.placed || e.m == 0, park := none } else e
  let mine (a : Nat) : Bool := x.live.any fun l => l.2.seq == k && decide (l.2.base ≤ a) && decide (a < l.2.base + 64 * l.2.m)
  let wake (e : Nat × Slot) : Nat × Slot :=
    if e.2.wait = .launch && mine e.2.recAddr.toNat then (e.1, { e.2 with wait := .none }) else e
  { s.setLp p { x with ents := ents }.settle with slots := s.slots.map wake }

/-- Was a request delivered after the bound in force at its acceptance, which only a double fault allows (R53, R55)? -/
def State.isLate (s : State) (q : FabReq) : Bool := q.struck && decide (q.due < s.time.ns)
/-- The status word of a fabric request (R418). -/
def State.reqStatus (s : State) (q : FabReq) (st : Nat) : Word64 := setBit (engStatus st 0) 55 (s.isLate q)

/-- The strand of a request goes on, if it waits at home. -/
def State.wakeFor (s : State) (q : FabReq) (f : Slot → Slot) : State :=
  match s.slotOf q.slot q.recAddr with
  | some n => s.modSlot n fun x => let y := f x; if y.wait == .home then { y with wait := .none } else y
  | none => s

/-- What names a strand's stores to a package: its record, its slot when it has none, the package. -/
def FabReq.accKey (q : FabReq) : BitVec 48 × Nat × Nat := (q.recAddr, if q.recAddr = 0 then q.slot else 0, q.pkg)

/-- The markers of a release have been gathered at package `d` (R45): the strand's earlier stores there stand at the level asked for,
one without acknowledgement ends here. At the `.acc` level they are still not known at `.sys`. -/
def State.markDone (s : State) (q : FabReq) : State :=
  let mine (r : FabReq) : Bool := r.strand q.slot q.recAddr && r.pkg == q.pkg && decide (r.id < q.id) &&
    (match r.use with | .rst _ _ => true | _ => false) && !r.answered
  let key := q.accKey
  let rest := s.fab.accs.filter (· != key)
  let accs := if q.req.ackl = 2 then rest else if s.fab.out.any mine then rest ++ [key] else s.fab.accs
  { s with fab := { s.fab with out := s.fab.out.filter fun r => !mine r, accs := accs } }

/-- A store acknowledged at `.acc` alone is remembered until a release at `.pod` (R44). -/
def State.noteAcc (s : State) (q : FabReq) (st : Nat) : State :=
  let key := q.accKey
  if q.req.op = 1 && q.req.ackl = 1 && st = 0 then
    { s with fab := { s.fab with accs := s.fab.accs.filter (· != key) ++ [key] } }
  else s

/-- A request answered: what it was for receives the status and the data (R432, R434, R45, R421). -/
def State.completeReq (s : State) (q : FabReq) (st : Nat) (data : List Byte) : State :=
  let s := { s with fab := { s.fab with out := s.fab.out.filter fun r => r.id != q.id } }.noteAcc q st
  match q.use with
  | .scalar =>
    match s.slotOf q.slot q.recAddr with
    | some _ => s.wakeFor q fun x => { x with reply := some (BitVec.ofNat 8 (st + (s.isLate q).toNat * 128), BitVec.ofNat 64 (natOfBytes (data.take 8))) }
    | none => s
  | .rld r n u =>
    (s.landStatus q.slot r q.recAddr q.ctx (s.reqStatus q st)).landStatus q.slot (r + 1) q.recAddr q.ctx
      (if st = 0 then respWord n u data else 0)
  | .ratom r n =>
    let s1 := s.landStatus q.slot r q.recAddr q.ctx (s.reqStatus q st)
    -- on a failure s(2n + 1) is unchanged
    if st = 0 then s1.landStatus q.slot (r + 1) q.recAddr q.ctx (respWord n true data)
    else s1.dropStatus q.slot (r + 1) q.recAddr q.ctx
  | .rst r landed =>
    let s1 := if landed then s else s.landStatus q.slot r q.recAddr q.ctx (s.reqStatus q st)
    s1.wakeFor q id
  | .mark => (if st = 0 then s.markDone q else s).wakeFor q id
  | .engMark k =>
    -- a release whose marker fails ends its command with that status (R45, R418)
    match s.queueOf k with
    | c :: r => if st = 0 then s else s.setQueueOf k ({ c with fin := c.fin.map fun f => if f.1 = 0 then (st, c.pos) else f } :: r)
    | [] => s
  | .join _ => s
  | .sign cid =>
    match Tbl.get? s.compacts cid with
    | some c => if st = 0 then s.setCompact cid { c with joined := true } else s.failSigning cid c 0
    | none => s
  | .dissolve cid =>
    match Tbl.get? s.compacts cid with
    | some c => if s.dissolved cid c then s.endCompact cid c else s
    | none => s
  | .port p k => (if st = 0 then s else s.raise [launchBad p 8 k]).entryDone p k
  | .engine k =>
    match s.queueOf k with
    | c :: r => s.setQueueOf k ({ c with got := c.got ++ [(BitVec.ofNat 8 st, data)], late := c.late || s.isLate q } :: r)
    | [] => s

/-- The request that a response from package `d` with a tag answers. -/
def State.reqOf (s : State) (d : Nat) (tag : BitVec 12) : Option FabReq :=
  s.fab.out.find? fun q => q.pkg == d && q.answered && BitVec.ofNat 12 q.id == tag

/-! Route configurations (R38, R39, R52). -/

/-- Is a configuration rejected: a group of more than 64 packages (R38), a route longer than three hops, or reservations past a port's
rate (R39, R52)? -/
def State.badRoute (s : State) (c : RouteConf) : Bool :=
  decide (63 < ((c.entries.map RouteEntry.dst).eraseDups.filter fun d => d != s.fab.me).length) ||
  c.entries.any (fun e => e.hops == 0 || decide (3 < e.hops)) ||
  (List.range 16).any fun p =>
    let sum := ((c.entries.filter fun e => bit e.ports p).map RouteEntry.res).foldl (· + ·) 0 +
      ((c.transit.filter fun e => e.1 == p).map Prod.snd).foldl (· + ·) 0
    decide ((s.port p).g < sum)

/-- The dies whose ports a configuration names. -/
def RouteConf.dies (c : RouteConf) : List Nat :=
  (List.range 4).filter fun d => (List.range 4).any fun i =>
    bit c.drain (4 * d + i) || c.entries.any (fun e => bit e.ports (4 * d + i)) || c.transit.any fun e => e.1 == 4 * d + i

/-- A configuration comes into force: routes, reservations, the connected group. The entries over ports that have still to train are
published with their bounds (R38). -/
def State.applyRoute (s : State) (c : RouteConf) : State :=
  { s with optic := { s.optic with routes := c.entries, transit := c.transit, pending := none },
           fab := { s.fab with group := c.entries.map RouteEntry.dst } }.publishDbt

/-- With the last port drained, or FAILED on its drain, the configuration asked for comes into force (R38): held while a controller
concerned is frozen (R100), never while one is out of service (R25, R27). -/
def State.routesDrained (s : State) : State :=
  match s.optic.pending with
  | none => s
  | some c =>
    if (s.optic.ports.any fun e => e.2.drain) || c.dies.any fun d => !s.serves (21 + d) then s
    else if c.dies.any fun d => s.frozen (21 + d) then
      { s with optic := { s.optic with pending := none }, nmc := { s.nmc with held := s.nmc.held ++ [.route c] } }
    else s.applyRoute c

/-- A port enters FAILED (R47): its FAIL bit, its record, LINKDOWN for every accepted request with a flit unacknowledged on it. A
controller that acts publishes what is left and tells the other packages (R51). Until then every destination routed over the port
refuses new work (R52): `fresh` says that its loss is still to be told. -/
def State.failPort (s : State) (p : Nat) : State :=
  let x := s.port p
  if x.tx = .failed then s
  else
    let mine := (x.buf.map Prod.snd ++ x.queue).filterMap OFlit.own
    let s1 := s.raiseLos p true
    let y := { s1.port p with tx := .failed, rx := .failed, buf := [], queue := [], open_ := false, drain := false, fresh := false,
                              reqDue := false, behind := [], fset := 0, n := 0, g := 0, l := 0 }
    let s2 := s1.setPort p { y with fresh := !s.acting (21 + p / 4) }
    let s3 := (s2.fab.out.filter fun q => mine.contains q.id).foldl (fun t q => t.completeReq q sLINKDOWN []) s2
    let s4 := (s3.setFail [.opt p]).routesDrained
    if s4.acting (21 + p / 4) then s4.publishDbt.tellBounds (p / 4) else s4.closePort p

/-- A controller that acts again tells of the ports that have failed meanwhile (R51, R100). -/
def State.tellFailed (s : State) (d : Nat) : State :=
  let l := (List.range 4).filter fun i => (s.port (4 * d + i)).tx == .failed && (s.port (4 * d + i)).fresh
  if l.isEmpty || !s.acting (21 + d) then s
  else (l.foldl (fun t i => t.setPort (4 * d + i) { t.port (4 * d + i) with fresh := false }) s).tellBounds d

/-! The link (R33, R34, R36, R37). -/

/-- A loss of the oldest unacknowledged flit, on a port that sends sequenced flits, new or replayed (R47): everything unacknowledged is
sent again; the eighth loss of one SEQ in succession fails the port (R36). -/
def State.replay (s : State) (p : Nat) : State :=
  let x := s.port p
  match x.buf with
  | [] => s
  | (q, _) :: _ =>
    if x.tx ≠ .up && x.tx ≠ .replay then s
    else
      let n := if x.lost = q then x.losses + 1 else 1
      let los := x.los.map fun r => if r.recv then r else { r with nrep := r.nrep + x.buf.length }
      let y := { x with lost := q, losses := n, advAt := s.time.ns, los := los }
      if 8 ≤ n then (if x.los.isNone then (s.setPort p y).openLos p false 5 else s.setPort p y).failPort p
      else s.setPort p (y.resend s.time.ns)

/-- REPLAY_TIMEOUT (R36): 2 µs without an advance of ACK while flits are outstanding. -/
def replayTimeout (p : Nat) (s : State) : State :=
  if !(s.port p).buf.isEmpty && decide ((s.port p).advAt + 2000 ≤ s.time.ns) then s.replay p else s
/-- ACK_TIMER (R36): a LINK ACK flit when 256 ns have passed without a flit that carried one. -/
def ackTimer (p : Nat) (s : State) : State :=
  let x := s.port p
  if x.linked && decide (x.ackAt + 256 ≤ s.time.ns) then s.setPort p (x.emitWord s.time.ns 0 0) else s

/-- A lost flit: the receiver asks for the SEQ that it expects by a LINK NAK, once until that SEQ arrives (R36); with that NAK lost, or what it
brings, the sender's own timer replays. -/
def OPort.askFor (x : OPort) (now : Nat) : OPort :=
  if x.nak then x else { x with nak := true }.emitWord now 1 (x.want.setWidth 64)

/-- Is the payload that of a BOUND flit with N = 0 or P + N > 16 (R37)? -/
def badBound (pay : List Byte) : Bool :=
  let first := natOfBytes ((pay.drop 1).take 1)
  let count := natOfBytes ((pay.drop 2).take 1)
  linkSub pay == 4 && (count == 0 || decide (16 < first + count))

/-- A flit that fails its CRC or whose TYPE is reserved is discarded and counts as lost (R33); a LINK or IDLE flit's acknowledgement
counts (R36); `sub` tells what a LINK flit of each subtype does. A port that is not trained receives nothing. -/
def State.arriveLink (s : State) (p : Nat) (b : List Byte) (act : State → Nat → List Byte → State) : State :=
  let x := s.port p
  if !x.rx.live then s
  else if !flitOk b then s.setPort p (x.askFor s.time.ns)
  else
    let h := flitHead b
    if h.typ ≠ 6 && h.typ ≠ 0 then s
    else if h.typ = 6 && (4 < linkSub (flitPay b) || badBound (flitPay b)) then s
    else
      let s1 := s.setPort p (x.acked s.time.ns h.ack)
      if h.typ = 6 then act s1 (linkSub (flitPay b)) (flitPay b) else s1

/-- A response to a request that arrived (R41): down a path that accepts new work, or else any eligible one that still carries
accepted traffic. -/
def State.respond (s : State) (h : Flit) (st : Nat) (data : List Byte) : State :=
  let d := h.src.toNat
  let go (p : Nat) (s : State) : State := s.enqueue p (respFlits s.fab.me d p h.tag st data)
  if (s.pathsTo d).isEmpty then
    match s.livePaths d with
    | p :: _ => go p s
    | [] => s
  else let (p, s) := s.choosePath d; go p s

/-! Requests that arrive (R41-R46, R190, R222, R242, R254, R65). -/

/-- The lines of a byte range. -/
def linesIn (pa len : Nat) : List Nat := (List.range (lineOf (pa + len - 1) - lineOf pa + 1)).map fun i => lineOf pa + i

/-- The status that a request's range ends with before it executes: REFUSED in a withdrawn window (R65), MALFORMED when unbacked
(R254); 0 otherwise. -/
def State.rangeStatus (s : State) (pa len : Nat) : Nat :=
  match s.winOf pa with
  | some w => if w.drawn then (if (s.group w.group).st = .failed then sMALFORMED else sREFUSED) else 0
  | none => if (linesIn pa len).all fun l => s.backed (64 * l) then 0 else sMALFORMED

/-- The bytes of a range from the device image, a line in state C from its member's tile store (R190). -/
def State.rangeBytes (s : State) (pa len : Nat) : List Byte :=
  (List.range len).map fun i =>
    match Tbl.get? s.clines (lineOf (pa + i)) with
    | some c => BitVec.ofNat 8 (s.tsRead c.tile (c.off + (pa + i) % 64) 1)
    | none => Mem.get s.mem (pa + i)

/-- Is some line of the range poisoned, in memory or in a member's tile store (R222, R179)? -/
def State.rangeBad (s : State) (pa len : Nat) : Bool :=
  (linesIn pa len).any fun l =>
    match Tbl.get? s.clines l with
    | some c => s.tsPoison.contains (c.tile * 2 ^ 14 + c.off / 64)
    | none => s.poisoned l

/-- Does some line of the range lie in state C? -/
def State.rangeHeld (s : State) (pa len : Nat) : Bool := (linesIn pa len).any fun l => (Tbl.get? s.clines l).isSome

/-- A response to a store or an atomic on these lines: once the invalidation rounds that it has started are over (R262). -/
def State.respondPt (s : State) (ls : List Nat) (h : Flit) (st : Nat) (data : List Byte) : State :=
  let busy := ls.filter s.ptBusy
  if busy.isEmpty then s.respond h st data
  else { s with xl := { s.xl with acks := s.xl.acks ++ [⟨busy, h, BitVec.ofNat 8 st, data⟩] } }

/-- Bytes stored by the fabric or the host, line by line; a whole line clears its poison (R222). -/
def State.storeRange (s : State) (pa : Nat) (data : List Byte) : Nat → State
  | 0 => s
  | n + 1 =>
    if data.isEmpty then s
    else
      let k := min data.length (64 - pa % 64)
      let l := lineOf pa
      State.storeRange ((s.memWrite pa k (natOfBytes (data.take k))).ptTouched l) (pa + k) (data.drop k) n

/-- Does a store of the range write only part of a poisoned line (R222)? -/
def State.partialBad (s : State) (pa len : Nat) : Bool :=
  (linesIn pa len).any fun l => s.poisoned l && (decide (64 * l < pa) || decide (pa + len < 64 * l + 64))

/-- A load served: its data, or POISON. -/
def State.serveLoad (s : State) (h : Flit) (r : Request) : State :=
  if s.rangeBad r.pa r.len then s.respond h sPOISON [] else s.respond h 0 (s.rangeBytes r.pa r.len)

/-- Has an atomic reached its unit: not one behind a pennant that the unit's die has still to follow (R138)? -/
def State.msaHere (s : State) (q : MsaReq) : Bool := s.reaches q.rnd (q.pa / stackSize / 2)

/-- Must the `i`-th queued atomic wait: for its own arrival, for an earlier one on its line, or behind 32 of its unit in flight on other lines
(R221)? -/
def State.msaWaits (s : State) (i : Nat) (q : MsaReq) : Bool :=
  let before := (s.msaq.take i).filter s.msaHere
  !s.msaHere q ||
  before.any (fun e => lineOf e.pa == lineOf q.pa) ||
    decide (32 ≤ ((before.filter fun e => e.pa / stackSize == q.pa / stackSize).map fun e => lineOf e.pa).eraseDups.length)

/-- MSA_ATOMIC (R221, R46, R238): the `i`-th queued atomic, unless an earlier one waits for its line; a strand's result returns to
its slot, a remote one's in a RESP. An uncorrectable error raises MEM_ERR (R90). -/
def msaAtomic (i : Nat) (err : Bool) (s : State) : State :=
  match s.msaq[i]? with
  | none => s
  | some q =>
    if s.msaWaits i q then s
    else
      let (st, old, s1) := { s with msaq := s.msaq.eraseIdx i }.msaRun q err
      let struck := err && st == 3 && !s.poisoned (lineOf q.pa)
      let (slot, pkg) := match q.who with
        | .slot n _ => (n, s.fab.me)
        | .remote h => (0x3FFF, h.src.toNat)
      let s2 := if struck then s1.raise [recHead 0x40 (2 ^ 40 + q.pa / stackSize % 8 * 2 ^ 32 + slot), BitVec.ofNat 64 (q.pa / 64 * 64),
          BitVec.ofNat 64 pkg, BitVec.ofNat 64 s.time.ns] else s1
      match q.who with
      | .slot n a =>
        let x := s2.getSlot n
        if x.occ && x.recAddr == a then
          s2.putSlot n { x with reply := some (BitVec.ofNat 8 st, BitVec.ofNat 64 old), wait := .none }
        else s2
      | .remote h => (s2.ptTouched (lineOf q.pa)).respondPt [lineOf q.pa] h st (if st = 0 then bytesOfNat q.k old else [])

/-- The atomics that arrived earlier for one of these lines are performed before what follows them at the ordering point, each when those
ahead of it at its unit are (R43, R221). -/
def State.settleMsa (s : State) (ls : List Nat) : Nat → State
  | 0 => s
  | n + 1 =>
    let due (q : MsaReq) : Bool := s.msaHere q && ls.contains (lineOf q.pa)
    match s.msaq.find? due with
    | none => s
    | some q => match s.msaq.findIdx? fun e => s.msaHere e && e.pa / stackSize == q.pa / stackSize with
      | some i => State.settleMsa (msaAtomic i false s) ls n
      | none => s

/-- A whole request at this package's ordering point (R43). DESIGN CHOICE: R41 places a store's data alone; an atomic's operand stands at
byte 16 of its payload and the comparand behind it, LEN + 1 bytes each (notes/assumptions 119). -/
def State.serveReq (s : State) (h : Flit) (r : Request) : State :=
  if r.malformed then s.respond h sMALFORMED []
  else
    let st := s.rangeStatus r.pa r.len
    let ack (s : State) (st : Nat) : State := if r.ackl = 0 && r.op = 1 then s else s.respond h st []
    if st ≠ 0 then ack s st
    else match r.op with
      | 0 =>
        let s := s.settleMsa (linesIn r.pa r.len) s.msaq.length
        if s.rangeHeld r.pa r.len then { s with optic := { s.optic with parked := s.optic.parked ++ [⟨h, r⟩] } }
        else s.serveLoad h r
      | 1 =>
        let s := s.settleMsa (linesIn r.pa r.len) s.msaq.length
        if s.rangeHeld r.pa r.len then ack s sHELD
        else if s.partialBad r.pa r.len then ack s sPOISON
        else
          let s1 := s.storeRange r.pa (r.data.take r.len) 66
          if r.ackl = 0 then s1 else s1.respondPt (linesIn r.pa r.len) h 0 []
      | _ =>
        let v := r.data.take r.len
        let c := (r.data.drop r.len).take r.len
        { s with msaq := s.msaq ++ [⟨r.pa, r.len, r.aop, natOfBytes v, natOfBytes c, .remote h, (0, 0)⟩] }

/-- A request's first flit: served when its data is whole, otherwise its DATA flits are awaited. -/
def State.takeReq (s : State) (h : Flit) (pay : List Byte) : State :=
  let r : Request := ⟨BitVec.ofNat 64 (payWord pay 0), BitVec.ofNat 64 (payWord pay 1), []⟩
  let r := { r with data := (pay.drop 16).take (min 112 r.dataLen) }
  if r.malformed || r.dataLen ≤ r.data.length then s.serveReq h r
  else { s with optic := { s.optic with asm := s.optic.asm ++ [⟨h, some r, 0, r.dataLen, r.data⟩] } }

/-- The bytes of data that a request's RESP brings. -/
def FabReq.respLen (q : FabReq) : Nat :=
  match q.use with
  | .mark | .engMark _ => 0
  | _ => if q.req.op = 0 || q.req.op = 2 then q.req.len else 0

/-- A RESP flit (R41): it completes its request, once its DATA flits have come. -/
def State.takeResp (s : State) (h : Flit) (pay : List Byte) : State :=
  let st := payWord pay 0
  match s.reqOf h.src.toNat h.tag with
  | none => s
  | some q =>
    let want := if st = 0 then q.respLen else 0
    let d := (pay.drop 8).take 120
    if want ≤ d.length then s.completeReq q st (d.take want)
    else { s with optic := { s.optic with asm := s.optic.asm ++ [⟨h, none, BitVec.ofNat 8 st, want, d⟩] } }

/-- A DATA flit (R41): up to 128 bytes for the request or response of its source, path and tag that still awaits data. -/
def State.takeData (s : State) (h : Flit) (pay : List Byte) : State :=
  let same (a : Asm) : Bool := a.h.src == h.src && a.h.path == h.path && a.h.tag == h.tag
  match s.optic.asm.find? same with
  | none => s
  | some a =>
    let d := (a.data ++ pay).take a.want
    let rest := s.optic.asm.erase a
    if d.length < a.want then { s with optic := { s.optic with asm := rest ++ [{ a with data := d }] } }
    else
      let s1 := { s with optic := { s.optic with asm := rest } }
      match a.req with
      | some r => s1.serveReq a.h { r with data := d }
      | none =>
        match s1.reqOf a.h.src.toNat a.h.tag with
        | some q => s1.completeReq q a.status.toNat d
        | none => s1

/-- A MARK flit (R45): the destination gathers one per path and answers. What is in front of it on its path stands then, and so is
visible at system scope too. -/
def State.takeMark (s : State) (h : Flit) (pay : List Byte) : State :=
  let same (e : BitVec 9 × BitVec 12 × BitVec 16) : Bool := e.1 == h.src && e.2.1 == h.tag
  let old : BitVec 16 := ((s.optic.marks.find? same).map fun e => e.2.2).getD 0
  let seen := setBit old h.path.toNat true
  let rest := s.optic.marks.filter fun e => !same e
  if popCount seen 16 < natOfBytes (pay.take 1) then { s with optic := { s.optic with marks := rest ++ [(h.src, h.tag, seen)] } }
  else { s with optic := { s.optic with marks := rest } }.respond h 0 []

/-- A PENNANT flit (R138): the pennant of a `.pod` round on this port's input. -/
def State.takePennant (s : State) (p : Nat) (h : Flit) (pay : List Byte) : State :=
  let k := BitVec.ofNat 64 (payWord pay 0)
  let d := p / 4
  if s.rounds.entered true d ≠ k then s
  else ((if s.rounds.podRun then s else s.beginRound true).hearPennant h.src.toNat pay).pennantAt true d (3 + p % 4) k

/-- A sequenced flit of this package reaches what it is for. -/
def State.takeFlit (s : State) (p : Nat) (h : Flit) (pay : List Byte) : State :=
  match h.typ.toNat with
  | 1 => s.takeReq h pay
  | 2 => s.takeData h pay
  | 3 => s.takeResp h pay
  | 4 => s.takeMark h pay
  | _ => s.takePennant p h pay

/-- A replayed flit counts in the open record of the direction that received it (R54, R490). -/
def OPort.counted (x : OPort) : OPort :=
  if x.rx = .replay then { x with los := x.los.map fun r => if r.recv then { r with nrep := r.nrep + 1 } else r } else x

/-- An intact sequenced flit at its port: in order it is taken, with its acknowledgement; ahead of the one expected it is discarded,
and that one asked for; one taken before is discarded (R36, R492). SEQ tells the two apart by the nearer side (notes/assumptions 90).
One for another package goes on by the port that its path names; without such an entry, or on a port that accepts no work (R47), it is
acknowledged and dropped (R39, notes/assumptions 91). -/
def State.inOrder (s : State) (p : Nat) (b : List Byte) : State :=
  let x := (s.port p).counted
  let h := flitHead b
  let now := s.time.ns
  if h.seq ≠ x.want then
    let y := x.acked now h.ack
    s.setPort p (if decide ((x.want - h.seq).toNat ≤ 2048) then y else y.askFor now)
  else
    let s1 := s.setPort p ({ x with want := x.want + 1, nak := false, ackDue := true }.acked now h.ack)
    if h.dst.toNat = s.fab.me then s1.takeFlit p h (flitPay b)
    else match (s1.route h.dst.toNat).bind fun e => e.via.find? fun v => v.1 == h.path.toNat with
      | some (_, q) =>
        if (s1.port q).linked then s1.enqueue q [⟨h.typ.toNat, h.dst, h.src, h.path, h.hop + 1, h.tag, flitPay b, none⟩] else s1
      | none => s1

/-- Does a sequenced flit wait behind a pennant on its input: one has come there and the units have not yet entered the next round, or
earlier flits wait (R138)? -/
def State.waitsBehind (s : State) (p : Nat) (b : List Byte) : Bool :=
  s.gated p || (s.rounds.podRun && (flitHead b).typ == 5 && BitVec.ofNat 64 (payWord (flitPay b) 0) == s.rounds.pod + 1)

/-- A sequenced flit's arrival (R33, R34, R36, R138). -/
def State.arriveFlit (s : State) (p : Nat) (b : List Byte) : State :=
  let x := s.port p
  if !x.rx.live then s
  else if !flitOk b then s.setPort p (x.askFor s.time.ns)
  else if !x.behind.isEmpty || s.waitsBehind p b then s.setPort p { x with behind := x.behind ++ [b] }
  else s.inOrder p b

/-- The oldest flit that waits behind a pennant is taken, once the units have entered the next round (R138). -/
def takeBehind (p : Nat) (s : State) : State :=
  match (s.port p).behind with
  | b :: r => if s.waitsBehind p b then s else (s.setPort p { s.port p with behind := r }).inOrder p b
  | [] => s

/-- Is this a flit of the kind, or a damaged one? -/
def flitIs (b : List Byte) (kind : Flit → List Byte → Bool) : Bool := !flitOk b || kind (flitHead b) (flitPay b)
/-- Is it a REQ flit of an operation, or of a reserved one? -/
def isReq (op : Nat) (b : List Byte) : Bool :=
  flitIs b fun h p => h.typ == 1 && (payWord p 0 / 2 ^ 60 == op || decide (2 < payWord p 0 / 2 ^ 60))
/-- Is it a sequenced flit of a TYPE? -/
def isType (t : BitVec 4) (b : List Byte) : Bool := flitIs b fun h _ => h.typ == t
/-- Is it a LINK flit of a subtype? ACK stands for the unassigned subtypes and for IDLE flits too. -/
def isLink (sub : Nat) (b : List Byte) : Bool :=
  flitIs b fun h p => (h.typ == 6 && (linkSub p == sub || (sub == 0 && decide (4 < linkSub p)))) || (sub == 0 && h.typ == 0)

/-- A move that a flit of a kind brings. -/
def onFlit (s : State) (is : Bool) (go : State → State) : State := if is then go s else s

/-- REQ_LOAD (R41). -/
def reqLoad (p : Nat) (b : List Byte) (s : State) : State := onFlit s (isReq 0 b) fun s => s.arriveFlit p b
/-- REQ_STORE (R41, R44). -/
def reqStore (p : Nat) (b : List Byte) (s : State) : State := onFlit s (isReq 1 b) fun s => s.arriveFlit p b
/-- REQ_ATOMIC (R46). -/
def reqAtomic (p : Nat) (b : List Byte) (s : State) : State := onFlit s (isReq 2 b) fun s => s.arriveFlit p b
/-- DATA_FLIT (R41). -/
def dataFlit (p : Nat) (b : List Byte) (s : State) : State := onFlit s (isType 2 b) fun s => s.arriveFlit p b
/-- RESP_FLIT (R41). -/
def respFlit (p : Nat) (b : List Byte) (s : State) : State := onFlit s (isType 3 b) fun s => s.arriveFlit p b
/-- MARK_FLIT (R45). -/
def markFlit (p : Nat) (b : List Byte) (s : State) : State := onFlit s (isType 4 b) fun s => s.arriveFlit p b
/-- PENNANT_FLIT (R138): on a link or loop of a die, or as a flit on one of its ports. -/
def pennantFlit (d i : Nat) (pod : Bool) (b : List Byte) (s : State) : State :=
  if i < 3 then pennantOn d i pod s else onFlit s (isType 5 b) fun s => s.arriveFlit (4 * d + (i - 3)) b

/-- Does a boundary of compact `cid` serve a parked read of the range (R190): it awaits a line of that compact, or none any more? -/
def State.servedBy (s : State) (cid : BitVec 16) (pa len : Nat) : Bool :=
  (linesIn pa len).any (fun l => ((Tbl.get? s.clines l).map fun c => c.cid == cid).getD false) || !s.rangeHeld pa len

/-- Remote reads parked at lines in state C served at a boundary of their compact (R190). -/
def State.serveRemote (s : State) (cid : BitVec 16) : State :=
  let l := s.optic.parked.filter fun q => s.servedBy cid q.req.pa q.req.len
  let rest := s.optic.parked.filter fun q => !s.servedBy cid q.req.pa q.req.len
  l.foldl (fun t q => t.serveLoad q.h q.req) { s with optic := { s.optic with parked := rest } }

/-! Loss of light, restriping, training (R47-R49, R54, R55). -/

/-- A direction enters HOLD: the record is opened or DBL set, new work refused until the bound is published (R47, R49). -/
def State.enterHold (s : State) (p : Nat) (recv : Bool) (cause : Nat) : State :=
  let s1 := (s.openLos p recv cause).closePort p
  let x := { s1.port p with fresh := true }
  s1.setPort p (if recv then { x with rx := .hold } else { x with tx := .hold })

/-- STRIPE_REQ sent with the receiver's live masks (R37, R49). It waits while the transmit direction awaits its own restripe; of two
ends that would wait for each other the package of the lower number goes first (notes/assumptions 92). -/
def State.askStripe (s : State) (p : Nat) : State :=
  let x := s.port p
  if x.tx = .hold && !(x.rx == .hold && decide (s.fab.me < x.peer)) then s.setPort p { x with reqDue := true }
  else s.setPort p ({ x with reqDue := false }.emitWord s.time.ns 2 x.rxLive)

/-- LOSS_OF_LIGHT (R49): the receiver sends STRIPE_REQ with its live masks; the transmitter switches off what its monitors report bad and,
where that darkens a wavelength of the masks that it still counts as live, sends nothing until the receiver asks (R48). -/
def lossOfLight (p : Nat) (recv : Bool) (masks : Word64) (cause : BitVec 4) (s : State) : State :=
  let x := s.port p
  if recv then
    if !x.rx.live || masks = x.rxLive then s
    else
      let s1 := s.enterHold p true cause.toNat
      let s2 := s1.setPort p { s1.port p with rxLive := masks }
      if (stripeOf masks).2 = 0 then s2.failPort p else s2.askStripe p
  else if x.lit &&& masks = x.lit then s
  else
    let s1 := if x.tx.live && x.txLive &&& masks != x.txLive then s.enterHold p false cause.toNat else s
    s1.setPort p { s1.port p with lit := x.lit &&& masks }

/-- STRIPE_REQ (R47, R48): HOLD, RESTRIPE over the masks, STRIPE_ACK in the new stripe, REPLAY of everything unacknowledged; then what
waited for the restripe goes out. -/
def restripe (p : Nat) (masks : Word64) (s : State) : State :=
  let x := s.port p
  if !x.tx.live then s
  else
    let s1 := if x.tx = .hold then s else s.enterHold p false (darkCause x.txLive masks)
    let (f, n) := stripeOf masks
    let y := { s1.port p with txLive := masks }
    if n = 0 then (s1.setPort p y).failPort p
    else
      let los := y.los.map fun r => if r.recv then r else { r with nrep := r.nrep + y.buf.length }
      let z := { y with fset := f, n := n, tx := .replay, los := los, advAt := s.time.ns }
      let s2 := s1.setPort p ((z.emitWord s.time.ns 3 masks).resend s.time.ns)
      if (s2.port p).reqDue then s2.askStripe p else s2

/-- STRIPE_ACK (R47): the replay of the other end follows. -/
def restriped (p : Nat) (masks : Word64) (s : State) : State :=
  let x := s.port p
  if x.rx = .hold && masks = x.rxLive then s.setPort p { x with rx := .replay } else s

/-- BOUND (R37, R51): other packages' bounds, which the controller uses unless it is frozen. -/
def learnBounds (p : Nat) (pay : List Byte) (s : State) : State :=
  let first := natOfBytes ((pay.drop 1).take 1)
  let count := natOfBytes ((pay.drop 2).take 1)
  let b := (List.range count).foldl (fun t i => Tbl.set t (p * 16 + first + i) (BitVec.ofNat 64 (payWord pay (1 + i)))) s.optic.bounds
  let s1 := { s with optic := { s.optic with bounds := b } }
  if s.acting (21 + p / 4) then s1.publishDbt else s1

/-- What a LINK flit of each subtype does beside its acknowledgement (R36, R37): a NAK brings a replay. -/
def linkAct (p : Nat) (s : State) (sub : Nat) (pay : List Byte) : State :=
  match sub with
  | 0 => s
  | 1 => s.replay p
  | 2 => restripe p (BitVec.ofNat 64 (payWord pay 1)) s
  | 3 => restriped p (BitVec.ofNat 64 (payWord pay 1)) s
  | _ => learnBounds p pay s

/-- LINK_ACK (R37). -/
def linkAck (p : Nat) (b : List Byte) (s : State) : State := onFlit s (isLink 0 b) fun s => s.arriveLink p b (linkAct p)
/-- LINK_NAK (R36, R37). -/
def linkNak (p : Nat) (b : List Byte) (s : State) : State := onFlit s (isLink 1 b) fun s => s.arriveLink p b (linkAct p)
/-- STRIPE_REQ (R47). -/
def stripeReq (p : Nat) (b : List Byte) (s : State) : State := onFlit s (isLink 2 b) fun s => s.arriveLink p b (linkAct p)
/-- STRIPE_ACK (R47). -/
def stripeAck (p : Nat) (b : List Byte) (s : State) : State := onFlit s (isLink 3 b) fun s => s.arriveLink p b (linkAct p)
/-- BOUND (R37). -/
def boundFlit (p : Nat) (b : List Byte) (s : State) : State := onFlit s (isLink 4 b) fun s => s.arriveLink p b (linkAct p)

/-- REPLAY_END (R47): a direction in REPLAY returns to UP, the transmit direction with new flits. -/
def replayEnd (p : Nat) (recv : Bool) (s : State) : State :=
  let x := s.port p
  if recv then (if x.rx = .replay then s.setPort p { x with rx := .up } else s)
  else if x.tx = .replay then s.setPort p ({ x with tx := .up }.pump s.time.ns x.queue.length)
  else s

/-- LIGHT_DETECT (R47): a DOWN port trains. -/
def lightDetect (p : Nat) (s : State) : State :=
  let x := s.port p
  if x.tx = .down && s.ready (.opt p) then s.setPort p { x with tx := .train, rx := .train } else s

/-- TRAIN_COMPLETE (R47, R48): both directions UP, each with the stripe of its masks, or FAILED. DESIGN CHOICE: R34 gives no first SEQ; both
directions begin at 0 (notes/assumptions 119). -/
def trainComplete (p : Nat) (rxMasks txMasks : Word64) (peer pport : Nat) (s : State) : State :=
  let x := s.port p
  let live := txMasks &&& x.lit
  if x.tx ≠ .train then s
  else
    let (f, n) := stripeOf live
    if n = 0 || (stripeOf rxMasks).2 = 0 then s.failPort p
    else
      let y := { x with tx := .up, rx := .up, txLive := live, rxLive := rxMasks, fset := f, n := n, peer := peer, pport := pport,
                        seq := 0, want := 0, nak := false, buf := [], losses := 0, fresh := true, ackAt := s.time.ns, behind := [] }
      s.setPort p (y.pump s.time.ns y.queue.length)

/-- BOUND_PUBLISH (R49-R52): a controller in service and not frozen publishes the port's bound, writes the destination entries, sends
BOUND and raises the open record, once both directions are UP. -/
def boundPublish (p : Nat) (s : State) : State :=
  let x := s.port p
  if !s.acting (21 + p / 4) || x.tx ≠ .up || x.rx ≠ .up then s
  else
    let g := boundRate x.txLive
    let s1 := s.setPort p { x with g := g, l := boundLat g, open_ := decide (0 < g) && !x.drain, fresh := false }
    (s1.publishDbt.tellBounds (p / 4)).raiseLos p false

/-- A configuration asked for: rejected, or refused by a controller that is not in service (R25, R27), or its ports refuse new work and
drain (R38). -/
def State.reroute (s : State) (c : RouteConf) : State :=
  if s.badRoute c || c.dies.any fun d => !s.serves (21 + d) then s
  else
    let ports := (List.range 16).filter fun p => bit c.drain p && (s.port p).tx != .down && (s.port p).tx != .failed
    if ports.isEmpty then s.applyRoute c
    else
      let s1 := ports.foldl (fun t p => (t.setPort p { t.port p with drain := true }).closePort p) s
      { s1 with optic := { s1.optic with pending := some c } }

/-- ROUTE_RECONFIGURE (R38, R39): held while a controller concerned is frozen (R100). -/
def routeReconfigure (l : List RouteEntry) (transit : List (Nat × Nat)) (drain : BitVec 16) (s : State) : State :=
  let c : RouteConf := ⟨l, transit, drain⟩
  if c.dies.any fun d => s.frozen (21 + d) then { s with nmc := { s.nmc with held := s.nmc.held ++ [.route c] } }
  else s.reroute c

/-- PORT_DRAIN_COMPLETE (R38): every accepted flit acknowledged, the port is DOWN; with the last port the new routes stand. -/
def portDrainComplete (p : Nat) (s : State) : State :=
  let x := s.port p
  if x.drain && x.buf.isEmpty && x.queue.isEmpty && x.tx = .up && x.rx = .up then
    (s.setPort p { x with tx := .down, rx := .down, drain := false, fresh := true, open_ := false }).routesDrained
  else s

/-- REQ_LOAD (R41). -/
def execReqLoad (p : Nat) (b : List Byte) (s : State) : Host.Outcome State Fault Refusal := event s (reqLoad p b)
/-- REQ_STORE (R41). -/
def execReqStore (p : Nat) (b : List Byte) (s : State) : Host.Outcome State Fault Refusal := event s (reqStore p b)
/-- REQ_ATOMIC (R46). -/
def execReqAtomic (p : Nat) (b : List Byte) (s : State) : Host.Outcome State Fault Refusal := event s (reqAtomic p b)
/-- DATA_FLIT (R41). -/
def execDataFlit (p : Nat) (b : List Byte) (s : State) : Host.Outcome State Fault Refusal := event s (dataFlit p b)
/-- RESP_FLIT (R41). -/
def execRespFlit (p : Nat) (h b : List Byte) (s : State) : Host.Outcome State Fault Refusal := event s (respFlit p (h ++ b))
/-- MARK_FLIT (R45). -/
def execMarkFlit (p : Nat) (b : List Byte) (s : State) : Host.Outcome State Fault Refusal := event s (markFlit p b)
/-- PENNANT_FLIT (R138). -/
def execPennantFlit (d i : Nat) (pod : Bool) (b : List Byte) (s : State) : Host.Outcome State Fault Refusal := event s (pennantFlit d i pod b)
/-- LINK_ACK (R37). -/
def execLinkAck (p : Nat) (b : List Byte) (s : State) : Host.Outcome State Fault Refusal := event s (linkAck p b)
/-- LINK_NAK (R36). -/
def execLinkNak (p : Nat) (b : List Byte) (s : State) : Host.Outcome State Fault Refusal := event s (linkNak p b)
/-- STRIPE_REQ (R47). -/
def execStripeReq (p : Nat) (b : List Byte) (s : State) : Host.Outcome State Fault Refusal := event s (stripeReq p b)
/-- STRIPE_ACK (R47). -/
def execStripeAck (p : Nat) (b : List Byte) (s : State) : Host.Outcome State Fault Refusal := event s (stripeAck p b)
/-- BOUND (R37). -/
def execBound (p : Nat) (h b c : List Byte) (s : State) : Host.Outcome State Fault Refusal := event s (boundFlit p (h ++ b ++ c))
/-- ACK_TIMER (R36). -/
def execAckTimer (p : Nat) (s : State) : Host.Outcome State Fault Refusal := event s (ackTimer p)
/-- REPLAY_TIMEOUT (R36). -/
def execReplayTimeout (p : Nat) (s : State) : Host.Outcome State Fault Refusal := event s (replayTimeout p)
/-- LOSS_OF_LIGHT (R49). -/
def execLossOfLight (p : Nat) (r : Bool) (m : Word64) (c : BitVec 4) (s : State) : Host.Outcome State Fault Refusal :=
  event s (lossOfLight p r m c)
/-- LIGHT_DETECT (R47). -/
def execLightDetect (p : Nat) (s : State) : Host.Outcome State Fault Refusal := event s (lightDetect p)
/-- TRAIN_COMPLETE (R47). -/
def execTrainComplete (p : Nat) (m : Word64 × Word64) (a b : Nat) (s : State) : Host.Outcome State Fault Refusal :=
  event s (trainComplete p m.1 m.2 a b)
/-- REPLAY_END (R47). -/
def execReplayEnd (e : Nat × Bool) (s : State) : Host.Outcome State Fault Refusal := event s (replayEnd e.1 e.2)
/-- BOUND_PUBLISH (R50). -/
def execBoundPublish (p : Nat) (s : State) : Host.Outcome State Fault Refusal := event s (boundPublish p)
/-- ROUTE_RECONFIGURE (R38). -/
def execRouteReconfigure (l : List RouteEntry) (t : List (Nat × Nat)) (d : BitVec 16) (s : State) : Host.Outcome State Fault Refusal :=
  event s (routeReconfigure l t d)
/-- PORT_DRAIN_COMPLETE (R38). -/
def execPortDrainComplete (p : Nat) (s : State) : Host.Outcome State Fault Refusal := event s (portDrainComplete p)
/-- MSA_ATOMIC (R221). -/
def execMsaAtomic (i : Nat) (e : Bool) (s : State) : Host.Outcome State Fault Refusal := event s (msaAtomic i e)

end Sys2Proof.Machine
end

