-- ==== Sys2Proof/Machine/Serdes.lean ====
section
/-! DEFINITION. The SerDes groups: the switch of a personality, windows, link failures, inbound requests and the packets of compact
transfers (03_serdes_personalities R56-R70). -/

namespace Sys2Proof.Machine
open Sys2Proof

/-- A group's personality with ROLE or UEM, as far as the personality uses them (R61). -/
def persKey (p : Nat) (role uem : Bool) : Nat := p * 2 + (if p = 0 then role.toNat else if p = 2 then uem.toNat else 0)

/-- Does the group carry transfers of a signed compact: is it in a set fixed at a signing (R61, R70)? -/
def State.carriesCompact (s : State) (g : Nat) : Bool := s.compacts.any fun e => e.2.sets.any fun p => p.2.contains g

/-- TARGET, ROLE and UEM of a GSWC word (R59). -/
def goTarget (w : Word32) : Nat × Bool × Bool := (fld w 27 26, bit w 25, bit w 24)

/-- The fate of a GO, LASTREF's code (R59, R61): the first condition that holds; with its controller out of service the group is BUSY
(R27, notes/assumptions 95). DESIGN CHOICE: a group whose bring-up has not begun is BUSY too, though GSTAT.STATE reads its reset value 0
(notes/assumptions 119). -/
def State.switchFate (s : State) (g : Nat) (x : Group) (w : Word32) : Nat :=
  let (target, role, uem) := goTarget w
  if x.st ≠ .ready || !s.ready (.sgc g) then 1
  else if g = 0 then 2
  else if s.carriesCompact g then 3
  else if target = 3 then 4
  else if persKey target role uem = persKey x.pers x.prole x.puem then 5
  else 0

/-- The windows of a group withdrawn (R65). -/
def State.drawWindows (s : State) (g : Nat) : State :=
  let ws : List SerWin := s.windows.map fun w => if w.group = g then { w with drawn := true } else w
  { s with windows := ws }

/-- GSWC.GO resolved for the word that was written (R61, R66); an accepted switch enters DRAIN (R62). -/
def State.resolveGo (s : State) (g : Nat) (w : Word32) : State :=
  let x := s.group g
  let fate := s.switchFate g x w
  let (target, role, uem) := goTarget w
  if fate ≠ 0 then s.setGroup g { x with lastref := fate }
  else
    let y : Group := { x with lastref := 0, st := .drain, pend := target, pdrole := role, pduem := uem, fb := false, sw := true,
                              gbnd := setBit x.gbnd 63 false }
    ((s.setGroup g y).drawWindows g).setRdy (.sds g) false

/-- SWITCH_GO: a write of GSWC (R59, R61). While the group's controller is frozen the GO waits unresolved (R66, R100). -/
def switchGo (g : Nat) (w : Word32) (s : State) : State :=
  let x := s.group g
  let (target, role, uem) := goTarget w
  let s1 := s.setGroup g { x with target := target, role := role, uem := uem }
  if !bit w 31 then s1
  else if s.frozen (25 + g) then { s1 with nmc := { s1.nmc with held := s1.nmc.held ++ [.go g w] } }
  else s1.resolveGo g w

/-- An inbound read of a group waits at a line in state C (R190): accepted work not yet answered (R63). -/
def State.inboundWaits (s : State) (g : Nat) : Bool := s.host.parked.any fun q => q.1 == g

/-- The accepted accesses of engine commands through a group's windows end with LINKDOWN (R66). -/
def State.dropWork (s : State) (g : Nat) : State :=
  let x := s.group g
  x.work.foldl (fun t r => t.answerCmd r.1 sLINKDOWN) (s.setGroup g { x with work := [] })

/-- DRAIN_COMPLETE (R62): no accepted work remains. -/
def drainComplete (g : Nat) (s : State) : State :=
  let x := s.group g
  if x.st = .drain && x.out.isEmpty && x.work.isEmpty && !s.inboundWaits g then s.setGroup g { x with st := .unbind } else s

/-- UNBIND_COMPLETE (R62): V of every window is 0. -/
def unbindComplete (g : Nat) (s : State) : State :=
  let x := s.group g
  if x.st = .unbind then
    s.setGroup g { x with st := .retrain, tries := 2, wins := x.wins.map fun w => (setBit w.1 63 false, w.2) }
  else s

/-- A group FAILED: its FAIL bit (R62); what it had accepted ends LINKDOWN. -/
def State.failGroup (s : State) (g : Nat) : State :=
  let s := s.dropWork g
  let x := s.group g
  let s1 := s.setGroup g { x with st := .failed, gbnd := setBit x.gbnd 63 false, out := [],
                                  wins := x.wins.map fun w => (setBit w.1 63 false, w.2) }
  (s1.drawWindows g).setFail [.sds g]

/-- RETRAIN_COMPLETE (R62, R66): LOAD; or a second attempt with PEND set to PERS and FB; or FAILED. -/
def retrainComplete (g : Nat) (ok : Bool) (s : State) : State :=
  let x := s.group g
  if x.st ≠ .retrain then s
  else if ok then s.setGroup g { x with st := .load }
  else if 1 < x.tries then
    s.setGroup g { x with tries := 1, pend := x.pers, pdrole := x.prole, pduem := x.puem, fb := true }
  else s.failGroup g

/-- Can the controller of group `g` go on with LOAD and BIND: neither frozen (R100) nor FAILED (R27)? -/
def State.loads (s : State) (g : Nat) : Bool := !s.frozen (25 + g) && !s.failed (.sgc g)

/-- LOAD_COMPLETE (R62). -/
def loadComplete (g : Nat) (s : State) : State :=
  let x := s.group g
  if x.st = .load && s.loads g then s.setGroup g { x with st := .bind } else s

/-- KIND, base and size in bytes of a window entry (R59). -/
def winKind (w : Word64 × Word64) : Nat := fld w.1 62 60
/-- BASE. -/
def winBase (w : Word64 × Word64) : Nat := fld w.1 51 24 * 2 ^ 24
/-- SIZE. -/
def winSize (w : Word64 × Word64) : Nat := fld w.2 63 32 * 2 ^ 24

/-- Do two ranges share an address? -/
def rangesMeet (a n b m : Nat) : Bool := decide (a < b + m) && decide (b < a + n)

/-- May window `i` of a group be bound at this BIND (R60)? It may not overlap another usable entry of its group, nor a window that another
group has bound or withdrawn (notes/assumptions 96). -/
def State.bindable (s : State) (g : Nat) (x : Group) (i : Nat) : Bool :=
  let w := x.wins.getD i (0, 0)
  let kind := if x.pend = 0 && x.pdrole then 1 else if x.pend = 1 then 2 else 0
  winSize w != 0 && kind != 0 && winKind w == kind && decide (hbmEnd ≤ winBase w) &&
    !((List.range 8).any fun j => let v := x.wins.getD j (0, 0); j != i && winSize v != 0 && rangesMeet (winBase w) (winSize w) (winBase v) (winSize v)) &&
    !(s.windows.any fun v => v.group != g && rangesMeet (winBase w) (winSize w) v.base v.size)

/-- GBND of a READY group (R59, R64). -/
def gbndOf (pers : Nat) : Word64 :=
  let (r, l) := match pers with
    | 0 => (56, 2400)
    | 1 => (180, 1600)
    | _ => (180, 6000)
  BitVec.ofNat 64 (2 ^ 63 + r * 2 ^ 32 + l)

/-- The inbound reads of a group that wait are lost with its link. DESIGN CHOICE: R66 speaks of accepted outbound work alone; they get no
answer (notes/assumptions 119). -/
def State.dropInbound (s : State) (g : Nat) : State :=
  let rest := s.host.parked.filter fun q => q.1 != g
  { s with host := { s.host with parked := rest } }

/-- A link failure of a group that carries traffic (R66, R69, R70): accepted work ends LINKDOWN, the group retrains and leaves
every set. -/
def State.linkLost (s : State) (g : Nat) : State :=
  let s := s.dropWork g
  let x := s.group g
  let y : Group := { x with st := .retrain, tries := 1, pend := x.pers, pdrole := x.prole, pduem := x.puem, gbnd := setBit x.gbnd 63 false,
                            out := [], broken := false }
  let s1 := (((s.setGroup g y).dropInbound g).drawWindows g).setRdy (.sds g) false
  let cs : Tbl Compact := s1.compacts.map fun e =>
    let sets : Tbl (List Nat) := e.2.sets.map fun p => (p.1, p.2.filter (· != g))
    (e.1, { e.2 with sets := sets })
  { s1 with compacts := cs }

/-- BIND_COMPLETE (R60, R62): the windows that keep R60, PERS := PEND, READY with GBND; SWGEN counts an accepted switch. A link
failure of LOAD or BIND acts now (R66). -/
def bindComplete (g : Nat) (s : State) : State :=
  let x := s.group g
  if x.st ≠ .bind || !s.loads g then s
  else
    let ok := (List.range 8).filter fun i => s.bindable g x i
    let wins := x.wins.zipIdx.map fun e => (setBit e.1.1 63 (ok.contains e.2), e.1.2)
    let new : List SerWin := ok.map fun i => let w := x.wins.getD i (0, 0); ⟨g, winBase w, winSize w, false⟩
    let y : Group := { x with st := .ready, pers := x.pend, prole := x.pdrole, puem := x.pduem, wins := wins, gbnd := gbndOf x.pend,
                              swgen := if x.sw then x.swgen + 1 else x.swgen, sw := false }
    let others := s.windows.filter fun w : SerWin => w.group != g
    let s1 := { s.setGroup g y with windows := others ++ new, hostUp := s.hostUp || g == 0 }
    let s2 := s1.setRdy (.sds g) true
    if x.broken then s2.linkLost g else s2

/-- SERDES_LINK_FAILURE (R66). -/
def serdesLinkFailure (g : Nat) (s : State) : State :=
  let x := s.group g
  match x.st with
  | .ready => s.linkLost g
  | .drain =>
    let s1 := s.dropWork g
    (s1.setGroup g { s1.group g with out := [], st := .unbind }).dropInbound g
  | .retrain => retrainComplete g false s
  | .load | .bind => s.setGroup g { x with broken := true }
  | .unbind | .failed | .off => s

/-- A read of the device image from outside (R73, R190, R222): the bytes and a poison status; none while some line is in state
C. -/
def State.outerRead (s : State) (pa len : Nat) : Nat × List Byte :=
  if s.rangeBad pa len then (sPOISON, List.replicate len 0xFF) else (0, s.rangeBytes pa len)

/-- A store of the device image from outside (R73, R190, R222): lines in state C keep their bytes, HELD; a partial store to a
poisoned line is dropped, POISON. -/
def State.outerWrite (s : State) (pa : Nat) (data : List Byte) : Nat × State :=
  if s.rangeHeld pa data.length then (sHELD, s)
  else if s.partialBad pa data.length then (sPOISON, s)
  else (0, s.storeRange pa data 66)

/-! The refusal response of a personality (R63): CXL.io Unsupported Request, or Configuration Request Retry Status to a configuration
request; UALink not accepted; UE a NACK (notes/assumptions 97). -/

/-- Unsupported Request. -/
def sUR : Nat := 0x101
/-- UALink: a response with status not accepted (R63). -/
def sNOTACCEPTED : Nat := 0x102
/-- UE: a NACK of the packet delivery sublayer, which the sender retries (R63). -/
def sNACK : Nat := 0x103
/-- CXL.io's Configuration Request Retry Status (R63). -/
def sCRS : Nat := 0x104
/-- The refusal response of personality `p` to a request of a kind. -/
def refusalOf (p kind : Nat) : Nat :=
  if p = 0 then (if kind = 3 then sCRS else sUR) else if p = 1 then sNOTACCEPTED else sNACK

/-- The response to a group's last inbound request. -/
def State.answerInbound (s : State) (g st : Nat) (d : List Byte) : State := s.setGroup g { s.group g with resp := (st, d) }

/-- The largest request of a personality in bytes: UALink 256 (R57), CXL.io 4,096. -/
def inboundMax (p : Nat) : Nat := if p = 1 then 256 else 4096

/-- The words of an inbound atomic: of 8 bytes where the length allows it, else of 4 (notes/assumptions 97). -/
def atomWidth (n : Nat) : Nat := if n % 8 = 0 then 8 else 4

/-- An inbound atomic's new bytes from the old ones: every word in turn with its operand and comparand (notes/assumptions 97). -/
def atomWords (aop n old : Nat) (data : List Byte) : List Byte :=
  let k := atomWidth n
  let word (l : List Byte) (i : Nat) : Nat := natOfBytes ((l.drop (k * i)).take k)
  (List.range (n / k)).flatMap fun i =>
    let o := (old >>> (8 * k * i)) % 2 ^ (8 * k)
    bytesOfNat k ((atomicOp aop (8 * k) o (word (data.take n) i) (word ((data.drop n).take n) i)).getD o)

/-- SERDES_INBOUND_REQUEST (R63, R57): `kind` 0 a read, 1 a write, 2 an atomic with its operands and comparands, 3 a configuration request.
Executed by a READY group of personality 0 or 1, atomics by 1 alone; else the personality's refusal response, which a configuration
request always gets: the specification gives the device no configuration space. An address that is no backed memory of this package is
refused. An atomic takes the codes of R41 and answers the old value (notes/assumptions 97). -/
def serdesInboundRequest (g kind : Nat) (pa : BitVec 52) (len aop : Nat) (data : List Byte) (s : State) : State :=
  let x := s.group g
  let n := if kind = 1 then data.length else len
  let k := atomWidth n
  if x.st ≠ .ready || x.pers = 2 then s.answerInbound g (refusalOf x.pers kind) []
  else if (kind = 2 && x.pers ≠ 1) || kind = 3 then s.answerInbound g (refusalOf x.pers 0) []
  else if n = 0 || inboundMax x.pers < n || s.rangeStatus pa.toNat n ≠ 0 then s.answerInbound g sMALFORMED []
  else if kind = 1 then let (st, s1) := s.outerWrite pa.toNat data; s1.answerInbound g st []
  else if kind = 2 then
    if n % k ≠ 0 || 4096 < pa.toNat % 4096 + n || (mkRequest 2 2 pa.toNat k aop data).malformed then s.answerInbound g sMALFORMED []
    else if s.rangeHeld pa.toNat n then s.answerInbound g sHELD []
    else if s.rangeBad pa.toNat n then s.answerInbound g sPOISON []
    else
      let t := s.settleMsa (linesIn pa.toNat n) s.msaq.length
      let old := t.memRead pa.toNat n
      (t.storeRange pa.toNat (atomWords aop n old data) 6).answerInbound g 0 (bytesOfNat n old)
  else if s.rangeHeld pa.toNat n then { s with host := { s.host with parked := s.host.parked ++ [(g, pa.toNat, n)] } }
  else let (st, d) := s.outerRead pa.toNat n; s.answerInbound g st d

/-- The reads from outside parked at lines in state C served at a boundary (R190). -/
def State.serveOuter (s : State) (cid : BitVec 16) : State :=
  let l := s.host.parked.filter fun q => s.servedBy cid q.2.1 q.2.2
  let rest := s.host.parked.filter fun q => !s.servedBy cid q.2.1 q.2.2
  l.foldl (fun t q =>
    let (st, d) := t.outerRead q.2.1 q.2.2
    if q.1 = 16 then { t with host := { t.host with answer := d, bad := st != 0 } }
    else t.answerInbound q.1 st d) { s with host := { s.host with parked := rest } }

/-- A packet handed over to the receiving member, unit by unit (R68). -/
def State.handPacket (s : State) (c : Compact) (k : Packet) : State :=
  (List.range (k.data.length / 64)).foldl (fun t i =>
    let u : XferUnit := ⟨k.cid, k.smem, k.dmem, k.off + 64 * i, BitVec.ofNat 512 (natOfBytes ((k.data.drop (64 * i)).take 64)), bit k.bad i, 0, k.sstep.toNat, (0, 0)⟩
    t.landUnit c u 0) s

/-- COMPACT_PACKET_RECEIVE (R67, R68): packet `seq` of package `src`, with its units' poison flags (R179): a duplicate is discarded; else it is
handed over, held for the next superstep, or discarded and counted. A packet whose header does not fit its payload or names no
member here is discarded and counted, one of superstep 0 is held through SIGNING. DESIGN CHOICE: R67's header numbers no packet; the
delivery sublayer's own number, kept per receiving group and source package, tells a duplicate (notes/assumptions 98). A group that is not READY in
personality 2 answers with a NACK and the sender retries (R63). -/
def compactPacketReceive (g src seq : Nat) (w0 w1 : Word64) (payload : List Byte) (bad : Word64) (s : State) : State :=
  let x := s.group g
  if x.st ≠ .ready || x.pers ≠ 2 then s.answerInbound g sNACK []
  else if x.got.contains (src, seq) then s
  else
    let k : Packet := ⟨(w0 >>> 48).setWidth 16, (w0 >>> 16).setWidth 32, fld w1 63 54, fld w1 53 44, fld w1 43 0, payload, bad, 0, seq, 0⟩
    let wrong := payload.length != 64 * fld w0 15 0 || payload.isEmpty || decide (4096 < payload.length) || k.off % 64 != 0
    let y : Group := { x with got := (src, seq) :: x.got }
    let s1 := s.setGroup g y
    let drop := s.setGroup g { y with errs := x.errs + 1 }
    match Tbl.get? s.compacts k.cid.toNat with
    | none => drop
    | some c =>
      let mine := ((c.mems[k.dmem]?).map fun d => d.pkg == s.fab.me && decide (k.off + payload.length ≤ 2 ^ 20)).getD false
      if wrong || !mine then drop
      else if c.st ≠ .signing && k.sstep = BitVec.ofNat 32 c.step then s1.handPacket c k
      else if k.sstep = BitVec.ofNat 32 (if c.st = .signing then 0 else c.step + 1) then s.setGroup g { y with held := x.held ++ [k] }
      else drop

/-- The packets held for the superstep that a compact has entered handed over; those of a compact no longer held discarded
(R68). -/
def State.handHeld (s : State) (cid : BitVec 16) : State :=
  (List.range 16).foldl (fun t g =>
    let x := t.group g
    if x.held.isEmpty then t
    else match Tbl.get? t.compacts cid.toNat with
      | none => t.setGroup g { x with held := x.held.filter fun k => k.cid != cid, errs := x.errs + (x.held.filter fun k => k.cid == cid).length }
      | some c =>
        let now (k : Packet) : Bool := k.cid == cid && k.sstep == BitVec.ofNat 32 c.step
        (x.held.filter now).foldl (fun u k => u.handPacket c k) (t.setGroup g { x with held := x.held.filter fun k => !now k })) s

/-- RUD_RETRANSMIT (R69): a packet not acknowledged is sent again. -/
def rudRetransmit (g i : Nat) (s : State) : State :=
  let x := s.group g
  let out : List Packet := x.out.zipIdx.map fun e => if e.2 = i then { e.1 with tries := e.1.tries + 1 } else e.1
  s.setGroup g { x with out := out }

/-- SERDES_RESPONSE (R63, R66, R69): the oldest access of an engine command through a window is answered, or ends LINKDOWN; with none, one of
the packets accepted is acknowledged, in any order (a free value), or ends LINKDOWN, and the receiver's count alone tells the
difference. -/
def serdesResponse (g : Nat) (ok : Bool) (s : State) : State :=
  let x := s.group g
  match x.work with
  | (q, _) :: r => (s.setGroup g { x with work := r }).answerCmd q (if ok then 0 else sLINKDOWN)
  | [] =>
    let (v, s1) := if 1 < x.out.length then s.freeVal else (0, s)
    s1.setGroup g { x with out := x.out.eraseIdx (v.toNat % max x.out.length 1) }

/-- SWITCH_GO (R61). -/
def execSwitchGo (g : Nat) (w : Word32) (s : State) : Host.Outcome State Fault Refusal := event s (switchGo g w)
/-- DRAIN_COMPLETE (R62). -/
def execDrainComplete (g : Nat) (s : State) : Host.Outcome State Fault Refusal := event s (drainComplete g)
/-- UNBIND_COMPLETE (R62). -/
def execUnbindComplete (g : Nat) (s : State) : Host.Outcome State Fault Refusal := event s (unbindComplete g)
/-- RETRAIN_COMPLETE (R62). -/
def execRetrainComplete (g : Nat) (ok : Bool) (s : State) : Host.Outcome State Fault Refusal := event s (retrainComplete g ok)
/-- LOAD_COMPLETE (R62). -/
def execLoadComplete (g : Nat) (s : State) : Host.Outcome State Fault Refusal := event s (loadComplete g)
/-- BIND_COMPLETE (R62). -/
def execBindComplete (g : Nat) (s : State) : Host.Outcome State Fault Refusal := event s (bindComplete g)
/-- SERDES_LINK_FAILURE (R66). -/
def execSerdesLinkFailure (g : Nat) (s : State) : Host.Outcome State Fault Refusal := event s (serdesLinkFailure g)
/-- SERDES_INBOUND_REQUEST (R63). -/
def execSerdesInboundRequest (g : Nat) (o : Nat × Nat) (pa : BitVec 52) (n : Nat) (d : List Byte) (s : State) :
    Host.Outcome State Fault Refusal := event s (serdesInboundRequest g o.1 pa n o.2 d)
/-- COMPACT_PACKET_RECEIVE (R68). -/
def execCompactPacketReceive (g : Nat) (p : Nat × Nat) (w : Word64 × Word64) (d : List Byte × Word64) (s : State) :
    Host.Outcome State Fault Refusal := event s (compactPacketReceive g p.1 p.2 w.1 w.2 d.1 d.2)
/-- RUD_RETRANSMIT (R69). -/
def execRudRetransmit (g k : Nat) (s : State) : Host.Outcome State Fault Refusal := event s (rudRetransmit g k)
/-- SERDES_RESPONSE (R63). -/
def execSerdesResponse (g : Nat) (ok : Bool) (s : State) : Host.Outcome State Fault Refusal := event s (serdesResponse g ok)

end Sys2Proof.Machine
end

