-- ==== Sys2Proof/Machine/Ports.lean ====
section
/-! DEFINITION. The launch ports: configuration, bounds, admission, the translated accesses of a launch, and the host's accesses to
device memory (04_host_command_interface R71-R91, R495). -/

namespace Sys2Proof.Machine
open Sys2Proof

/-- EN. -/
def Port.en (x : Port) : Bool := bit x.cfg 63
/-- PRIO. -/
def Port.prio (x : Port) : Nat := fld x.cfg 62 60
/-- RES. -/
def Port.res (x : Port) : Nat := fld x.cfg 59 48
/-- The clusters of CLMASK. -/
def Port.mask (x : Port) : List Nat := (List.range 16).filter fun c => bit x.cfg (32 + c)
/-- DCLS. -/
def Port.dcls (x : Port) : Nat := fld x.cfg 31 24
/-- ASID. -/
def Port.asid (x : Port) : BitVec 16 := (x.cfg >>> 8).setWidth 16
/-- U: members accepted and not yet placed (R80). -/
def Port.waiting (x : Port) : Nat := ((x.ents.filter fun e => !e.placed).map PortEnt.m).foldl (· + ·) 0

/-- A refusal recorded: LASTREF and REFCNT, which saturates (R76, R77). -/
def Port.refuse (x : Port) (why : Nat) : Port :=
  { x with stat := BitVec.ofNat 32 (why * 2 ^ 24 + min (fld x.stat 23 0 + 1) 0xFFFFFF) }

/-- The ready clusters among some. -/
def State.readyOf (s : State) (l : List Nat) : List Nat := l.filter fun c => s.ready (.clu c)

/-- LAT for the parameters in force (R78). -/
def State.latOf (s : State) (x : Port) : Nat :=
  let cs := if (s.readyOf x.mask).isEmpty then x.mask else s.readyOf x.mask
  let ds := cs.map fun c => s.die (c / 4)
  (ds.map fun d => d.sdtage.toNat).foldl max 0 + (ds.map fun d => d.sdquant.toNat).foldl max 0 + 100000

/-- LPBND.V of port `p` (R78): it holds while LAT is the value for the parameters in force, and its DC is in service (R27). -/
def State.portV (s : State) (p : Nat) (x : Port) : Bool :=
  s.ready (.dcr (p / 16)) && x.en && x.res != 0 && !(s.readyOf x.mask).isEmpty && fld x.bnd 31 0 == s.latOf x

/-- LPBND as it reads. -/
def State.lpbnd (s : State) (p : Nat) (x : Port) : Word64 := setBit (x.bnd &&& 0xFFFFFFFF) 63 (s.portV p x)

/-- LPBND_UPDATE: the owning DC writes LPBND (R78), unless it is frozen (R100) or out of service (R27). -/
def lpbndUpdate (p : Nat) (s : State) : State :=
  let x := s.lp p
  if !s.acting (1 + p / 16) then s
  else
    let y := { x with bnd := BitVec.ofNat 64 (s.latOf x) }
    s.setLp p { y with bnd := s.lpbnd p y }

/-- Is a write that sets EN refused (R77)? -/
def State.overbooked (s : State) (p : Nat) (x : Port) : Bool :=
  let on := x :: (s.ports.filter fun e => e.1 != p && e.2.en).map Prod.snd
  let all := (List.range 16).filter fun c => on.any fun y => bit y.cfg (32 + c)
  decide (768 * (s.readyOf x.mask).length < x.res) ||
    decide (768 * (s.readyOf all).length < (on.map Port.res).foldl (· + ·) 0)

/-- LPCFG written (R77); EN is refused while the owning DC is out of service (R25, R27, notes/assumptions 95). -/
def State.writeLpcfg (s : State) (p : Nat) (v : Word64) : State :=
  let x := s.lp p
  if 1024 < fld v 59 48 then s
  else
    let y := if !x.en && x.head = x.acc then { x with cfg := setBit (v &&& 0xFFFFFFFFFFFFFF00) 63 false } else x
    if !bit v 63 then s.setLp p { y with cfg := setBit y.cfg 63 false }
    else if x.en then s
    else if s.overbooked p y || !s.serves (1 + p / 16) then s.setLp p (y.refuse 6)
    else s.setLp p { y with cfg := setBit y.cfg 63 true }

/-- LPCFG_WRITE (R77); one that sets EN waits while the owning DC is frozen (R100). -/
def lpcfgWrite (p : Nat) (v : Word64) (s : State) : State :=
  if bit v 63 && s.frozen (1 + p / 16) && s.serves (1 + p / 16) then { s with nmc := { s.nmc with held := s.nmc.held ++ [.lpcfg p v] } }
  else s.writeLpcfg p v

/-! Admission (R79, R80, R83). -/

/-- Does the member area of slot `j` hold a live member (R80)? -/
def Port.slotLive (x : Port) (j : Nat) : Bool :=
  x.ents.any (fun e => !e.placed && e.m != 0 && e.seq.toNat % 256 == j) || ((Tbl.get? x.live j).map fun l => !l.live.isEmpty).getD false

/-- Is cluster `c` an assignment for `m` members of ASID `a` (R80)? -/
def State.assignable (s : State) (a : BitVec 16) (m c : Nat) : Bool :=
  let k := s.cluster c
  s.ready (.clu c) && bit k.sdpool 63 && decide (s.portLoad c + m ≤ s.freeSlots c) && decide (m ≤ s.poolRoom c) &&
    ((k.asxOf a).isSome || k.asxFree.isSome)

/-- The lowest-numbered assignment. -/
def State.assignment (s : State) (x : Port) (m : Nat) : Option Nat := x.mask.find? (s.assignable x.asid m)

/-- The fate of one entry: accepted with the state after, or refused with LASTREF's code (R80). -/
def State.admitOne (s : State) (p : Nat) : State × Bool :=
  let x := s.lp p
  let i := x.acc
  let j := i.toNat % 256
  let ws := (List.range 8).map fun k => s.mem8 (fld x.base 51 14 * 2 ^ 14 + 64 * j + 8 * k)
  let w (k : Nat) : Word64 := ws.getD k 0
  let gang := bit (w 1) 11
  let m := if gang then (if w 0 = 0 then 0 else fld (w 1) 31 16 + 1) else 1
  let why := badRec (w 0) (w 1) (w 2) (w 7)
  let no (c : Nat) : State × Bool := (s.setLp p (x.refuse c), false)
  let take (s : State) (e : PortEnt) : State × Bool := (s.setLp p { x with acc := i + 1, ents := x.ents ++ [e] }.settle, true)
  let lat := fld x.bnd 31 0
  if !x.en then no 1
  else if (s.readyOf x.mask).isEmpty then no 5
  else if !s.portV p x then no 8
  else if why ≠ 0 then ((s.setLp p { x with acc := i + 1 }.settle).raise [launchBad p why i], true)
  else if x.res < x.waiting + m then no 2
  else if x.slotLive j then no 3
  else if m = 0 then take s ⟨i, ws, 0, (x.mask.find? fun c => s.ready (.clu c)).getD 0, 0, none, s.time.ns, s.time.ns + lat, false, false, false, none, []⟩
  else match s.assignment x m with
    | none => no 7
    | some c =>
      match s.asidEntry c x.asid 1 with
      | none => no 7
      | some (a, s1) => take s1 ⟨i, ws, m, c, m, some a, s.time.ns, s.time.ns + lat, false, w 6 == 0, false, none, []⟩

/-- Admission over the entries offered, until one is refused; `n` bounds them. -/
def State.admitAll (s : State) (p : Nat) : Nat → State
  | 0 => s
  | n + 1 => let (t, ok) := s.admitOne p; if ok then State.admitAll t p n else t

/-- LPTAIL_WRITE (R79). -/
def lptailWrite (p : Nat) (v : Word32) (s : State) : State :=
  let x := s.lp p
  if 256 < (v - x.acc).toNat || 256 < (v - x.tail).toNat then s.setLp p (x.refuse 4)
  else (s.setLp p { x with tail := v }).admitAll p (v - x.acc).toNat

/-! The DC's translated accesses (R495). -/

/-- An address translated through the caches of a cluster: the first that hits, else a miss. -/
def State.lookupIn (s : State) (c asid va : Nat) (a : Acc) : Xl :=
  let caches := (List.range 48).map (fun t => 48 * c + t) ++ [768 + c]
  let hit := caches.find? fun k => (s.cache k).any fun e => e.hits asid va
  s.lookup (hit.getD (768 + c)) asid false va a

/-- An entry replaced. -/
def State.setEnt (s : State) (p : Nat) (e : PortEnt) : State :=
  let x := s.lp p
  let ents : List PortEnt := x.ents.map fun f => if f.seq = e.seq then e else f
  s.setLp p { x with ents := ents }

/-- A DC's access parked, or failed again (R495, R255, R257), with ENG 4 and the reset CEXP. -/
def State.parkPort (s : State) (p kind : Nat) (a : Acc) (va : Nat) (e : PortEnt) : State :=
  let old := e.park.filter fun p => p.isFor a va
  let tries := (old.map Park.tries).getD 0 + 1
  let out := (old.map Park.out).getD false
  let tag := s.xl.tag
  let m := faultMsg kind a.code true va (s.lp p).asid.toNat p 4 tag.toNat (e.words.getD 0 0)
  let (s1, took) := if out then (s, false) else { s with xl := { s.xl with tag := tag + 1 } }.postMsg e.cluster m
  let k : Park := ⟨kind, a.code, BitVec.ofNat 48 va, if took then tag else (old.map Park.tag).getD tag, tries, s.time.cyc + backoff tries 20,
    out || took, false, 4⟩
  s1.setEnt p { e with park := some k }

/-- An access that ends without a usable translation: LAUNCH_BAD with WHY 8, and the launch goes on (R495). -/
def State.portBad (s : State) (p : Nat) (e : PortEnt) : State := (s.raise [launchBad p 8 e.seq]).entryDone p e.seq

/-- A fabric request of a launch, answered by its RESP. -/
def State.portReq (s : State) (p pkg : Nat) (e : PortEnt) (r : Request) : State :=
  if s.fab.out.any fun q => q.use == .port p e.seq then s
  else if s.acceptsReq pkg r 0x3FFF 0 then s.acceptReq pkg r (.port p e.seq) 0x3FFF 0 0
  else s.portBad p e

/-- The DC's access of an entry tried (R495): the join increment by `m`, or the empty launch's store, translated in the port's present
ASID; a store address that is misaligned, poisoned or held by a compact ends as a join word there does (notes/assumptions 62). One to
host memory first takes back what the clusters hold of the line (R237). -/
def State.portAccess (s : State) (p : Nat) (e : PortEnt) : State :=
  let w (k : Nat) : Word64 := e.words.getD k 0
  let join := e.m != 0
  let va := if join then w 6 else w 3
  let a : Acc := if join then .atomic else .store
  if e.joined || va = 0 then s.entryDone p e.seq
  else if !e.pts.isEmpty then (if e.pts.any s.ptBusy then s else s.entryDone p e.seq)
  else if deniedBy e.park a va.toNat || va.toNat % 8 ≠ 0 || 2 ^ 48 ≤ va.toNat then s.portBad p e
  else match s.lookupIn e.cluster (s.lp p).asid.toNat va.toNat a with
    | .fault k => s.parkPort p k a va.toNat e
    | .unbacked => s.portBad p e
    | .far pkg pa =>
      s.portReq p pkg e (if join then mkRequest 2 0 pa 8 1 (bytesOfNat 8 e.m ++ bytesOfNat 8 0)
        else mkRequest 1 2 pa 8 0 (bytesOfNat 8 (w 4).toNat))
    | .here pa _ mir =>
      let s := if hostBase ≤ pa then s.surrender (lineOf pa) else s
      if s.rangeHeld pa 8 || s.poisoned (lineOf pa) then s.portBad p e
      else
        let v := if join then s.mem8 pa + BitVec.ofNat 64 e.m else w 4
        let t := (s.storeRange pa (bytesOfNat 8 v.toNat) 2).mirrored e.cluster (lineOf pa) mir
        if t.ptBusy (lineOf pa) then t.setEnt p { e with pts := [lineOf pa], park := none } else t.entryDone p e.seq

/-- LAUNCH_JOIN_INCREMENT (R495). -/
def launchJoinIncrement (p : Nat) (k : Word32) (s : State) : State :=
  match (s.lp p).ents.find? fun e => e.seq == k && e.m != 0 && !e.joined && e.park.isNone with
  | some e => s.portAccess p e
  | none => s

/-- EMPTY_LAUNCH_COMPLETE (R85, R495): the port's first unplaced entry is an empty launch. -/
def emptyLaunchComplete (p : Nat) (s : State) : State :=
  match (s.lp p).ents.find? fun e => !e.placed with
  | some e => if e.m = 0 && e.park.isNone then s.portAccess p e else s
  | none => s

/-- PORT_ENTRY_AGED (R127). -/
def portEntryAged (p : Nat) (k : Word32) (s : State) : State :=
  match (s.lp p).ents.find? fun e => e.seq == k && !e.placed && e.m != 0 with
  | some e => if e.at0 + (s.die (e.cluster / 4)).ageFor e.at0 ≤ s.time.ns then s.setEnt p { e with aged := true } else s
  | none => s

/-! Host accesses to device memory (R73, R190). -/

/-- Does some byte of the range lie in a stack that is not in service: failed (R73), or not yet ready (notes/assumptions 102)? -/
def State.stackLost (s : State) (pa len : Nat) : Bool := (linesIn pa len).any fun l => !s.ready (.hbm (64 * l / stackSize))

/-- HOST_BAR2_READ (R73): the answer, marked poisoned for a stack out of service or a poisoned line; one that meets a line in
state C is parked. -/
def hostBar2Read (pa : BitVec 52) (len : Nat) (s : State) : State :=
  if s.stackLost pa.toNat len then { s with host := { s.host with answer := List.replicate len 0xFF, bad := true } }
  else if s.rangeHeld pa.toNat len then { s with host := { s.host with parked := s.host.parked ++ [(16, pa.toNat, len)] } }
  else let (st, d) := s.outerRead pa.toNat len; { s with host := { s.host with answer := d, bad := st != 0 } }

/-- Does a host store to these bytes of one line take effect: not at a stack out of service, a line in state C or, in part, a poisoned
line (R73, R190, R222)? -/
def State.hostStores (s : State) (pa len : Nat) : Bool :=
  decide (hostBase ≤ pa) || !(s.stackLost pa len || s.rangeHeld pa len || s.partialBad pa len)

/-- A host store, line by line. One to the host's own memory first takes back what the clusters hold of the line (R73); one to HBM takes its
place in the order that a later launch's members see (R84). -/
def State.hostStore (s : State) (pa : Nat) (data : List Byte) : Nat → State
  | 0 => s
  | n + 1 =>
    if data.isEmpty then s
    else
      let k := min data.length (64 - pa % 64)
      let d := data.take k
      let l := lineOf pa
      let s1 := if !s.hostStores pa k then s
        else if hostBase ≤ pa then (s.surrender l).storeRange pa d 2
        else
          let t := s.storeRange pa d 2
          { t with host := { t.host with clock := tmax t.host.clock (t.home l).wts } }
      State.hostStore s1 (pa + k) (data.drop k) n

/-- HOST_BAR2_WRITE (R73); at an address with bit 51 set, the host's store to its own memory (notes/assumptions 100). -/
def hostBar2Write (pa : BitVec 52) (data : List Byte) (s : State) : State := s.hostStore pa.toNat data (data.length + 1)

/-- LPBND_UPDATE (R78). -/
def execLpbndUpdate (p : Nat) (s : State) : Host.Outcome State Fault Refusal := event s (lpbndUpdate p)
/-- LPCFG_WRITE (R77). -/
def execLpcfgWrite (p : Nat) (v : Word64) (s : State) : Host.Outcome State Fault Refusal := event s fun s => s.fromHost (lpcfgWrite p v)
/-- LPTAIL_WRITE (R79). -/
def execLptailWrite (p : Nat) (v : Word32) (s : State) : Host.Outcome State Fault Refusal := event s fun s => s.fromHost (lptailWrite p v)
/-- LAUNCH_JOIN_INCREMENT (R495). -/
def execLaunchJoinIncrement (p : Nat) (k : Word32) (s : State) : Host.Outcome State Fault Refusal := event s (launchJoinIncrement p k)
/-- EMPTY_LAUNCH_COMPLETE (R85). -/
def execEmptyLaunchComplete (p : Nat) (s : State) : Host.Outcome State Fault Refusal := event s (emptyLaunchComplete p)
/-- PORT_ENTRY_AGED (R127). -/
def execPortEntryAged (p : Nat) (k : Word32) (s : State) : Host.Outcome State Fault Refusal := event s (portEntryAged p k)
/-- HOST_BAR2_READ (R73). -/
def execHostBar2Read (pa : BitVec 52) (n : Nat) (s : State) : Host.Outcome State Fault Refusal := event s fun s => s.fromHost (hostBar2Read pa n)
/-- HOST_BAR2_WRITE (R73). -/
def execHostBar2Write (pa : BitVec 52) (d : List Byte) (s : State) : Host.Outcome State Fault Refusal := event s fun s => s.fromHost (hostBar2Write pa d)

end Sys2Proof.Machine
end

