-- ==== Sys2Proof/Machine/Package.lean ====
section
/-! DEFINITION. Bring-up and readiness, temperatures, throttling, droops and power samples (01_package_power_bringup R12-R28, 04
R87). -/

namespace Sys2Proof.Machine
open Sys2Proof

/-- What a cold reset keeps: memory and its poison flags, the non-volatile images, floors and active slots, the kept dump header,
this package's number, and the model's own fields (notes/assumptions 10). -/
def State.cold (s : State) : State :=
  let n : Nmc := { Nmc.reset with act := s.nmc.act, images := s.nmc.images, floors := s.nmc.floors, kept := s.nmc.kept }
  let t : Time := { Time.reset with steps := s.time.steps, free := s.time.free }
  { State.reset with
    agenda := s.agenda, mem := s.mem, coh := { Coh.reset with poison := s.coh.poison }, fab := { State.reset.fab with me := s.fab.me },
    nmc := n, time := t, power := s.power }

/-- COLD_RESET (R26). -/
def coldReset (s : State) : State := s.cold

/-- POWER_LOSS (R108): the always-on island loses its supply; only the non-volatile store keeps its contents. -/
def powerLoss (s : State) : State :=
  let c := s.cold
  { c with mem := [], coh := Coh.reset, nmc := { c.nmc with kept := [] }, power := false }

/-- STANDBY_POWER_GOOD (R26): bring-up begins. -/
def standbyPowerGood (s : State) : State := { s with power := true }

/-- May the function's bit be set now: the NMC first, each DC next, then the others (R26)? -/
def State.bringUpOk (s : State) (f : Func) : Bool :=
  match f with
  | .nmc => true
  | .dcr _ => s.ready .nmc
  | _ => s.ready .nmc && (List.range 4).all fun d => s.ready (.dcr d) || s.failed (.dcr d)

/-- The translation firmware of cluster `c` starts on its TSC in supervisor state (R436), where its image lies being its own
(notes/assumptions 9). -/
def State.startTsc (s : State) (c : Nat) : State :=
  let (v, s1) := s.freeVal
  let x : Slot := { Slot.reset with occ := true, pc := BitVec.ofNat 64 (v.toNat % 2 ^ 44 * 12), status := 1 }
  s1.putSlot (slotCount + c) x

/-- A SerDes group's bring-up begins (R58): RETRAIN, whose LOAD and BIND end in READY with its RDY bit, or in FAILED (R62). -/
def State.bringUpGroup (s : State) (g : Nat) : State :=
  if (s.group g).st = .off then s.setGroup g { s.group g with st := .retrain } else s

/-- FUNCTION_READY (R24, R26): the bit of a SerDes group is set at the end of the bring-up that starts here (R58, notes/assumptions 119). -/
def functionReady (f : Func) (s : State) : State :=
  if s.ready f || s.failed f || !s.bringUpOk f then s
  else match f with
    | .sds g => s.bringUpGroup g
    | .tscf c => (s.setRdy f true).startTsc c
    | _ => s.setRdy f true

/-- A LAUNCH_END record (R90). -/
def launchEnd (p status : Nat) (seq : Word32) (first last nret ns : Nat) : EvRec :=
  [recHead 0x12 (p * 2 ^ 42 + status * 2 ^ 32 + seq.toNat), BitVec.ofNat 64 (first * 2 ^ 48 + last * 2 ^ 32 + nret * 2 ^ 16), BitVec.ofNat 64 ns]

/-- An accepted entry whose cluster has failed (R87): reassigned with its reservations, or ended with CLUSTER_LOST. -/
def State.reassign (s : State) (p : Nat) (e : PortEnt) : State :=
  let x := s.lp p
  let s1 := match e.asx with
    | some a => s.asidDrop e.cluster a
    | none => s
  let gone : List PortEnt := x.ents.filter fun f => f.seq != e.seq
  match (x.mask.filter (· != e.cluster)).find? (s1.assignable x.asid e.m) with
  | some c =>
    match s1.asidEntry c x.asid 1 with
    | some (a, s2) => s2.setEnt p { e with cluster := c, asx := some a, aged := false, park := none }
    | none => s1
  | none => (s1.setLp p { s1.lp p with ents := gone }.settle).raise (launchEnd p 3 e.seq 0 (e.m - 1) 0 s.time.ns)

/-- The unplaced entries of a failed cluster (R87). -/
def State.reassignAll (s : State) (c : Nat) : State :=
  (s.ports.flatMap fun x => (x.2.ents.filter fun e => !e.placed && e.m != 0 && e.cluster == c).map fun e => (x.1, e)).foldl
    (fun t e => t.reassign e.1 e.2) s

/-- FUNCTION_FAILURE (R27); before the NMC's and the DCs' bits no other function's self-test has an outcome (R26). -/
def functionFailure (f : Func) (s : State) : State :=
  if s.failed f || !s.bringUpOk f then s
  else match f with
    | .sds g => s.failGroup g
    | .opt p => let t := s.failPort p; if t.failed f then t else t.setFail [f]
    | .clu c => (s.setFail [f]).reassignAll c
    | _ => s.setFail [f]

/-! Fatal errors are declared here; their dump follows in Update (R107). -/

/-- The key of a controller's slot: A or B (R93). -/
def slotKey (ctl : Nat) (b : Bool) : Nat := ctl * 2 + b.toNat

/-- The image that a controller runs: its active slot's (R93); none: the one that a part leaves the factory with, of which the
specification gives no header: here VER, FMTMIN, FMTMAX, FMTOUT, FLOOR and the body's digest are 0 (notes/assumptions 8). -/
def State.running (s : State) (ctl : Nat) : Image := Tbl.get s.nmc.images (slotKey ctl (bit s.nmc.act ctl)) ⟨0, 0, 0, 0, 0, 0⟩
/-- The image in the inactive slot. -/
def State.staged (s : State) (ctl : Nat) : Image := Tbl.get s.nmc.images (slotKey ctl (!bit s.nmc.act ctl)) ⟨0, 0, 0, 0, 0, 0⟩

/-- Eight bytes of an image at an offset. -/
def imgWord (l : List Byte) (o : Nat) : Word64 := BitVec.ofNat 64 (natOfBytes ((l.drop o).take 8))

/-- NEWVER of the update under way (R105): the header's at UPADDR while it is staged, 0 for one that cannot be read; then the inactive
slot's. -/
def State.newVer (s : State) : Word64 :=
  let pa := s.nmc.upaddr.toNat
  if s.nmc.st ≠ .stage then (s.staged s.nmc.uctl).ver
  else if s.rangeStatus pa 128 ≠ 0 || s.rangeBad pa 128 then 0
  else imgWord (s.rangeBytes pa 128) 8

/-- A fatal error declared (R107, R110): a DUMP round is asked for; an update in STAGE or WAITHP ends with FAILED and leaves its
inactive slot empty. -/
def State.declareFatal (s : State) (cause : Nat) : State :=
  if s.nmc.fatal.isSome then s
  else
    let n := s.nmc
    let early := n.st == .stage || n.st == .waithp
    let n1 : Nmc := if early then { n with st := .idle, result := 3, upgen := n.upgen + 1,
                                           images := Tbl.erase n.images (n.uctl * 2 + (!bit n.act n.uctl).toNat) } else n
    let s1 := { s with nmc := { n1 with fatal := some (cause, s.time.ns) }, rounds := { s.rounds with devWant := true } }
    if early then s1.raise [recHead 0x31 (n.uctl * 2 ^ 40 + 3 * 2 ^ 32 + (bit n.act n.uctl).toNat), (s.running n.uctl).ver, s.newVer, 0] else s1

/-! Sensors (R18-R23). -/

/-- A sensor word (R22). -/
def sensorWord (kind src value : Nat) : Word32 := BitVec.ofNat 32 (2 ^ 31 + kind * 2 ^ 28 + src * 2 ^ 16 + value % 2 ^ 16)

/-- A sensor's word written. -/
def State.setSensor (s : State) (k : Nat) (w : Word32) : State := { s with therm := { s.therm with words := Tbl.set s.therm.words k w } }

/-- A sensor's VALUE as a signed number; 0 before its first sample. -/
def State.sensor (s : State) (k : Nat) : Int := ((Tbl.get s.therm.words k 0).setWidth 16).toInt

/-- The nanoseconds since the level that a die needs last moved, and since the level in force did. -/
def State.sinceMove (s : State) (d : Nat) : Nat := s.time.ns - Tbl.get s.therm.moved d 0
/-- The nanoseconds since a die's level in force last moved. -/
def State.sinceStep (s : State) (d : Nat) : Nat := s.time.ns - Tbl.get s.therm.lmoved d 0

/-- Levels in force changed, under a hold of 16 cycles in every compact with a member there (R186, R19). -/
def State.moveLevels (s : State) (l : List (Nat × Nat)) : State :=
  let level := l.foldl (fun t e => Tbl.set t e.1 e.2) s.therm.level
  let at0 := l.foldl (fun t e => Tbl.set t e.1 s.time.ns) s.therm.lmoved
  (s.compacts.filter fun e => (s.compactDies e.2).any fun d => l.any fun m => m.1 == d).foldl
    (fun t e => holdAnnounce (BitVec.ofNat 16 e.1) 16 t) { s with therm := { s.therm with level := level, lmoved := at0 } }

/-- The steps that the levels in force take next: towards the highest level that any die of a group needs, by one and together, at most
every 10 µs, with every DC of the group acting (R18, R186, notes/assumptions 112). -/
def State.levelSteps (s : State) : List (Nat × Nat) :=
  (List.range 4).filterMap fun d =>
    let g := s.levelGroup [d] 4
    let want := (g.map s.need).foldl max 0
    let l := s.level d
    if l != want && g.all fun e => s.acting (1 + e) && decide (10000 ≤ s.sinceStep e) then some (d, if l < want then l + 1 else l - 1) else none

/-- The levels in force follow the levels needed. -/
def State.settleLevels (s : State) : State := s.moveLevels s.levelSteps

/-- The level that a die needs set. -/
def State.setNeed (s : State) (d l : Nat) : State :=
  let t : Therm := { s.therm with need := Tbl.set s.therm.need d l, moved := Tbl.set s.therm.moved d s.time.ns }
  { s with therm := t }

/-- The level that a die needs set, with the levels in force (R18, R186). -/
def State.setLevel (s : State) (d l : Nat) : State := (s.setNeed d l).settleLevels

/-- Level 8 at once (R20): of the die and of those that compacts join with it (R186). -/
def State.jumpLevel (s : State) (d : Nat) : State :=
  let s1 := if s.need d = 8 then s else s.setNeed d 8
  s1.moveLevels (((s1.levelGroup [d] 4).filter fun e => s1.level e != 8).map fun e => (e, 8))

/-- One level up, at most every 10 µs (R18), by a DC in service and not frozen (R25, R100). -/
def State.stepUp (s : State) (d : Nat) : State :=
  if s.acting (1 + d) && decide (s.need d < 8) && decide (10000 ≤ s.sinceMove d) then s.setLevel d (s.need d + 1) else s

/-- The core-temperature actions of a DC, which one frozen or out of service does not take (R20, R100); thresholds in quarters of a
degree. The 100 µs before a lowering count from the DC's last move (notes/assumptions 93). -/
def State.coolDie (s : State) (d : Nat) (v : Int) : State :=
  let cool := (List.range 768).all fun i => decide (s.sensor (768 * d + i) < 368)
  if !s.acting (1 + d) then s
  else if 420 < v then s.jumpLevel d
  else if 380 < v then s.stepUp d
  else if cool && decide (0 < s.need d) && decide (100000 ≤ s.sinceMove d) then s.setLevel d (s.need d - 1)
  else s

/-- TEMPERATURE_SAMPLE (R20, R23). -/
def temperatureSample (k : Nat) (v : BitVec 16) (s : State) : State :=
  let t := v.toInt
  if k < 3072 then
    let s1 := (s.setSensor k (sensorWord 0 k v.toNat)).coolDie (k / 768) t
    if 440 < t then s1.declareFatal 1 else s1
  else if k < 6168 then
    let i := k - 6160
    let s1 := s.setSensor k (sensorWord 3 i v.toNat)
    let r := if 340 < t then insertNat i s1.therm.refresh else s1.therm.refresh.filter (· != i)
    let s2 := { s1 with therm := { s1.therm with refresh := r } }
    if 400 < t then functionFailure (.hbm i) s2 else s2
  else
    let p := k - 6176
    let s1 := s.setSensor k (sensorWord 4 p v.toNat)
    if 300 < t && decide (s.sensor k ≤ 300) then
      -- the sensor word names the port only: which of its four lasers is hot is left open
      let (f, s2) := s1.freeVal
      lossOfLight p false (withoutLaser (BitVec.allOnes 64) (f.toNat % 4)) 4 s2
    else s1

/-- THROTTLE_STEP (R18): one level, at most every 10 µs; the levels in force follow. -/
def throttleStep (d l : Nat) (s : State) : State :=
  let c := s.need d
  if (l = c + 1 || l + 1 = c) && decide (10000 ≤ s.sinceMove d) && s.acting (1 + d) then s.setLevel d l else s.settleLevels

/-- DROOP_EVENT (R21). -/
def droopEvent (c : Nat) (s : State) : State :=
  { s with therm := { s.therm with droops := Tbl.set s.therm.droops c (min (Tbl.get s.therm.droops c 0 + 1) 0xFFFF) } }

/-- DROOP_WINDOW_CLOSE (R23): every core's count becomes its sensor word. -/
def droopWindowClose (s : State) : State :=
  let new : Tbl Word32 := (List.range 3072).map fun c => (3072 + c, sensorWord 1 c (Tbl.get s.therm.droops c 0))
  let lo := s.therm.words.filter fun e => decide (e.1 < 3072)
  let hi := s.therm.words.filter fun e => decide (6144 ≤ e.1)
  { s with therm := { s.therm with words := lo ++ new ++ hi, droops := [] } }

/-- The limit of a power domain in units of 0.125 W (R17, R22). -/
def powerLimit : Nat → Nat
  | 0 => 8 * 950 | 1 => 8 * 390 | 2 => 8 * 230 | 3 => 8 * 105 | 4 => 8 * 725 | _ => 8 * 2400

/-- POWER_SAMPLE_UPDATE (R23): above the domain's limit every DC throttles its die by one level (R17, notes/assumptions 94). -/
def powerSampleUpdate (d : Nat) (v : BitVec 16) (s : State) : State :=
  let s1 := s.setSensor (6144 + d) (sensorWord 2 d v.toNat)
  if powerLimit d < v.toNat then (List.range 4).foldl (fun t c => t.stepUp c) s1 else s1

/-- COLD_RESET (R26). -/
def execColdReset (s : State) : Host.Outcome State Fault Refusal := event s coldReset
/-- STANDBY_POWER_GOOD (R26): the one move that an unpowered part can make. -/
def execStandbyPowerGood (s : State) : Host.Outcome State Fault Refusal := .next (standbyPowerGood s)
/-- POWER_LOSS (R108). -/
def execPowerLoss (s : State) : Host.Outcome State Fault Refusal := event s powerLoss
/-- FUNCTION_READY (R26). -/
def execFunctionReady (f : Func) (s : State) : Host.Outcome State Fault Refusal := event s (functionReady f)
/-- FUNCTION_FAILURE (R27). -/
def execFunctionFailure (f : Func) (s : State) : Host.Outcome State Fault Refusal := event s (functionFailure f)
/-- TEMPERATURE_SAMPLE (R20). -/
def execTemperatureSample (k : Nat) (v : BitVec 16) (s : State) : Host.Outcome State Fault Refusal := event s (temperatureSample k v)
/-- THROTTLE_STEP (R18). -/
def execThrottleStep (d l : Nat) (s : State) : Host.Outcome State Fault Refusal := event s (throttleStep d l)
/-- DROOP_EVENT (R21). -/
def execDroopEvent (c : Nat) (s : State) : Host.Outcome State Fault Refusal := event s (droopEvent c)
/-- DROOP_WINDOW_CLOSE (R23). -/
def execDroopWindowClose (s : State) : Host.Outcome State Fault Refusal := event s droopWindowClose
/-- POWER_SAMPLE_UPDATE (R23). -/
def execPowerSampleUpdate (d : Nat) (v : BitVec 16) (s : State) : Host.Outcome State Fault Refusal := event s (powerSampleUpdate d v)

end Sys2Proof.Machine
end

