-- ==== Sys2Proof/Machine/Update.lean ====
section
/-! DEFINITION. Live update of the embedded controllers, hand-over records, attestation and the fatal dump (05_firmware_maintenance
R92-R110). -/

namespace Sys2Proof.Machine
open Sys2Proof

/-- KIND of a controller (R92, R94). -/
def ctlKind (ctl : Nat) : Nat := if ctl = 0 then 1 else if ctl < 5 then 2 else if ctl < 21 then 3 else if ctl < 25 then 4 else 5

/-- The update's state set, with the time. -/
def State.upTo (s : State) (st : UpSt) : State := { s with nmc := { s.nmc with st := st, since := s.time.ns } }

/-- UPDATE_GO: a write of the update register (R96, R97), which takes an NMC in service (R24). -/
def updateGo (v : Word32) (s : State) : State :=
  let n := s.nmc
  let c := fld v 21 16
  let s1 := { s with nmc := { n with ctl := c, wd := fld v 11 0 } }
  if !s.serves 0 then s
  else if !bit v 31 then s1
  else if n.st ≠ .idle then { s1 with nmc := { s1.nmc with result := 6 } }
  else if 40 < c then { s1 with nmc := { s1.nmc with result := 7 } }
  else { s1 with nmc := { s1.nmc with uctl := c, tfrz := 0, record := [] } }.upTo .stage

/-! Resolving what a frozen controller held (R100). -/

/-- A held command resolved. -/
def State.resolveHeld (s : State) (h : HeldCmd) : State :=
  match h with
  | .go g w => s.resolveGo g w
  | .lpcfg p v => s.writeLpcfg p v
  | .route c => s.reroute c
  | .sd n k v => s.writeSd n k v

/-- A controller leaves the frozen state: every held command resolved, in arrival order; an optical engine controller publishes what its
ports learnt meanwhile, and tells of those that failed (R100, R51). -/
def State.thaw (s : State) : State :=
  ((List.range 4).foldl State.tellFailed (s.nmc.held.foldl State.resolveHeld { s with nmc := { s.nmc with held := [] } })).publishDbt

/-- The update returns to IDLE with a result and the UPDATE record (R98, R105). -/
def State.closeUpdate (s : State) (result : Nat) (old new : Word64) : State :=
  let n := s.nmc
  { s with nmc := { n with st := .idle, result := result, upgen := n.upgen + 1 } }.raise
    [recHead 0x31 (n.uctl * 2 ^ 40 + result * 2 ^ 32 + (bit n.act n.uctl).toNat), old, new, BitVec.ofNat 64 n.tfrz]

/-- An update ends, and what was held is resolved (R98, R100). -/
def State.endUpdate (s : State) (result : Nat) (old new : Word64) : State := (s.closeUpdate result old new).thaw

/-- The image that reports alive takes its controller over: the translation firmware starts on its TSC (R98, R436). -/
def State.bootImage (s : State) (ctl : Nat) : State := if 5 ≤ ctl && ctl < 21 then s.startTsc (ctl - 5) else s

/-! Staging (R94, R95, R98). -/

/-- The result of R95's checks on a staged image's header and body; 0 when it is accepted. -/
def State.imageFault (s : State) (ctl : Nat) (h body : List Byte) : Nat :=
  let w := imgWord h
  let len := fld (w 0x10) 63 32
  let ok := fld (w 0) 63 32 == 0x454C494D && fld (w 0) 15 0 == 0 && fld (w 0x18) 63 16 == 0 &&
    (h.drop 0x28).take 24 == List.replicate 24 0 && fld (w 0) 31 24 == ctlKind ctl && len % 64 == 0 &&
    decide (len + 128 ≤ (if ctl = 0 then 4 else 2) * 2 ^ 20) && decide ((w 0x20).toNat ≤ (w 8).toNat)
  let key := s.nmc.keys[fld (w 0) 23 16]?
  let good := (key.map fun k => edVerify k.toNat (sha512 (h.take 64 ++ body)) ((h.drop 64).take 64)).getD false
  if !ok then 5
  else if !good then 4
  else if (w 8).toNat < (Tbl.get s.nmc.floors ctl 0).toNat then 8
  else 0

/-- STAGE_COMPLETE (R98): the NMC, in service (R24), puts the image into the inactive slot, or the update ends with the result of R95. -/
def stageComplete (s : State) : State :=
  let n := s.nmc
  if n.st ≠ .stage || !s.serves 0 then s
  else
    let pa := n.upaddr.toNat
    let old := (s.running n.uctl).ver
    if s.rangeStatus pa 128 ≠ 0 || s.rangeBad pa 128 then s.endUpdate 5 old 0
    else
      let h := s.rangeBytes pa 128
      let w := imgWord h
      let len := min (fld (w 0x10) 63 32) (2 ^ 22)
      if s.rangeStatus (pa + 128) (max len 1) ≠ 0 || s.rangeBad (pa + 128) (max len 1) then s.endUpdate 5 old (w 8)
      else
        let body := s.rangeBytes (pa + 128) len
        let r := s.imageFault n.uctl h body
        if r ≠ 0 then s.endUpdate r old (w 8)
        else
          let img : Image := ⟨w 8, fld (w 0x10) 31 16, fld (w 0x10) 15 0, fld (w 0x18) 15 0, w 0x20, natOfBytes (sha512 body)⟩
          let k := slotKey n.uctl (!bit n.act n.uctl)
          { s with nmc := { n with images := Tbl.set n.images k img } }.upTo .waithp

/-- Is a controller outside the intervals in which it is never frozen (R99)? -/
def State.handoverOk (s : State) (ctl : Nat) : Bool :=
  if ctl = 0 then s.nmc.fatal.isNone || s.nmc.dumped
  else if ctl < 5 then true
  else if ctl < 21 then let x := s.getSlot (slotCount + (ctl - 5)); !x.occ || x.gone || x.wait == .mailbox
  else if ctl < 25 then (List.range 4).all fun i =>
    let p := s.port (4 * (ctl - 21) + i)
    let idle (t : PortSt) : Bool := !(t == .hold || t == .restripe || t == .replay)
    idle p.tx && idle p.rx
  else let g := s.group (ctl - 25); g.st == .ready || g.st == .failed

/-- HANDOVER_POINT (R98, R99): the controller freezes; the round in force is recorded (R101). -/
def handoverPoint (s : State) : State :=
  if s.nmc.st = .waithp && s.handoverOk s.nmc.uctl && s.serves 0 then
    { s with nmc := { s.nmc with tfrz := s.time.ns, prnd := s.rounds.dev } }.upTo .freeze
  else s

/-! Hand-over records (R101-R104). -/

/-- CRC-32C, one bit. -/
def crcBit (c : Nat) : Nat := if c % 2 = 1 then (c / 2) ^^^ 0x82F63B78 else c / 2
/-- CRC-32C, one byte. -/
def crcByte (c : Nat) (b : Byte) : Nat := (List.range 8).foldl (fun c _ => crcBit c) (c ^^^ b.toNat)
/-- CRC-32C of a byte string. -/
def crc32c (l : List Byte) : Nat := (l.foldl crcByte 0xFFFFFFFF) ^^^ 0xFFFFFFFF

/-- A port's table of dispatch deadlines and clusters: 256 entries, those of no accepted entry 0 (R102). -/
def Port.deadlines (x : Port) : List Word64 :=
  (List.range 256).map fun i => match x.ents.find? fun e => e.seq.toNat % 256 == i with
    | some e => BitVec.ofNat 64 (e.due / 16 * 16 + e.cluster)
    | none => 0

/-- A DC's hand-over body from 0x040 on (R102). The address of a port's table, in private memory, is a free value. -/
def State.dcBody (s : State) (d : Nat) : List Word64 :=
  let x := s.die d
  let n (v : Nat) : Word64 := BitVec.ofNat 64 v
  let queues := (List.range 4).flatMap fun c => (List.range 8).flatMap fun q =>
    let l := (s.queue (4 * d + c) q).flatMap QEnt.recs
    [n (l.headD 0), n ((l.getLast?).getD 0)]
  let resvs := (List.range 4).flatMap fun c =>
    let l := (s.cluster (4 * d + c)).resvs
    (List.range 4).flatMap fun i => match l[i]? with
      | some r =>
        [n (2 ^ 63 + r.first * 2 ^ 50 + (r.count - 1) * 2 ^ 44 + r.prio % 16 * 2 ^ 40 + r.gid % 2 ^ 32), n r.at0]
      | none => [0, 0]
  let ports := (List.range 64).flatMap fun p =>
    if p / 16 = d then
      let y := s.lp p
      [n (y.acc.toNat * 2 ^ 32 + y.head.toNat), n (y.waiting * 2 ^ 52) ||| (Config.freeWord (s.time.free + p) &&& 0xFFFFFFFFFFFFF)]
    else [0, 0]
  let quanta := (List.range 1536).map fun i =>
    n ((s.getSlot (3072 * d + 2 * i)).quantum % 2 ^ 32 + (s.getSlot (3072 * d + 2 * i + 1)).quantum % 2 ^ 32 * 2 ^ 32)
  [n (x.sdtage.toNat * 2 ^ 32 + x.sdquant.toNat), x.sdctl.setWidth 64] ++ queues ++ resvs ++ ports ++ quanta

/-- The code of a port's state (R47). -/
def PortSt.code : PortSt → Nat
  | .down => 0 | .train => 1 | .up => 2 | .hold => 3 | .restripe => 4 | .replay => 5 | .failed => 6

/-- An optical engine controller's body (R103). -/
def State.oeBody (s : State) (d : Nat) : List Word64 :=
  let n (v : Nat) : Word64 := BitVec.ofNat 64 v
  let port (p : Nat) : List Word64 :=
    let x := s.port p
    let old := (x.buf.head?.map fun e => e.1).getD x.seq
    [n (x.tx.code * 2 ^ 61 + x.seq.toNat * 2 ^ 48 + (old - 1).toNat * 2 ^ 36 + x.fset.toNat * 2 ^ 32 + x.n * 2 ^ 27 + x.peer % 512 * 2 ^ 18 +
        x.pport % 16 * 2 ^ 14), x.txLive, n (x.g * 2 ^ 48 + x.l % 2 ^ 32 * 2 ^ 16), n (old.toNat * 2 ^ 52 + x.buf.length % 4096 * 2 ^ 40)]
  (List.range 4).flatMap (fun i => port (4 * d + i)) ++ (List.range 512).map (fun k => Tbl.get s.fab.dbt k 0) ++ [Config.freeWord s.time.free]

/-- GSTAT as it reads (R59). -/
def Group.gstat (x : Group) : Nat :=
  let st := match x.st with
    | .off | .ready => 0 | .drain => 1 | .unbind => 2 | .retrain => 3 | .load => 4 | .bind => 5 | .failed => 6
  st * 2 ^ 29 + x.pers * 2 ^ 27 + x.pend * 2 ^ 25 + x.fb.toNat * 2 ^ 24 + x.lastref * 2 ^ 16 + x.swgen.toNat

/-- GSWC as it reads (R59). -/
def Group.gswc (x : Group) : Nat := x.target * 2 ^ 26 + x.role.toNat * 2 ^ 25 + x.uem.toNat * 2 ^ 24

/-- A SerDes group controller's body (R103). -/
def State.sgBody (s : State) (g : Nat) : List Word64 :=
  let x := s.group g
  [BitVec.ofNat 64 (x.gstat * 2 ^ 32 + x.gswc), x.gbnd, 0, 0] ++ x.wins.flatMap fun w => [w.1, w.2]

/-- The hand-over record of a controller: header and body (R101-R103); the bodies of the NMC and of the translation firmware have
no layout in the specification and are empty here. -/
def State.handover (s : State) (ctl : Nat) : List Word64 :=
  let old := s.running ctl
  let body := if ctl = 0 then [] else if ctl < 5 then s.dcBody (ctl - 1) else if ctl < 21 then [] else if ctl < 25 then s.oeBody (ctl - 21)
    else s.sgBody (ctl - 25)
  let bytes := body.flatMap fun w => bytesOfNat 8 w.toNat
  let n (v : Nat) : Word64 := BitVec.ofNat 64 v
  [n (0x484F5652 * 2 ^ 32 + old.fmtOut % 65536 * 2 ^ 16 + ctlKind ctl * 2 ^ 8 + ctl), n (bytes.length * 2 ^ 32 + crc32c bytes), old.ver,
   (s.staged ctl).ver, n s.nmc.tfrz, s.nmc.prnd, 0, 0] ++ body

/-- FREEZE_COMPLETE (R98): the record is written and the new image starts. -/
def freezeComplete (s : State) : State :=
  if s.nmc.st = .freeze then
    let c := s.nmc.uctl
    let tables : Tbl (List Word64) :=
      if c = 0 || 4 < c then [] else (List.range 16).map fun i => (16 * (c - 1) + i, (s.lp (16 * (c - 1) + i)).deadlines)
    { s with nmc := { s.nmc with record := s.handover c, tables := tables }, time := { s.time with free := s.time.free + 64 } }.upTo .start
  else s

/-- The watchdog deadline in ns: WD ms, 50 for 0 (R96), as the register holds it now (notes/assumptions 113). -/
def State.watchdog (s : State) : Nat := (if s.nmc.wd = 0 then 50 else s.nmc.wd) * 1000000

/-- Is the record that the images read whole: its CRC that of its body (R101, R104)? -/
def State.recordOk (s : State) : Bool :=
  let r := s.nmc.record
  fld (r.getD 1 0) 31 0 == crc32c ((r.drop 8).flatMap fun w => bytesOfNat 8 w.toNat)

/-- Has a fatal error ended the update past WAITHP (R107)? One of the NMC itself goes on until its image runs (R110). -/
def State.abandoned (s : State) : Bool := s.nmc.fatal.isSome && (s.nmc.uctl != 0 || s.nmc.cut.isSome)

/-- ALIVE_REPORT (R98, R104, R110): COMMIT when the new image reads the record's format, no later than WD; the old image's report
within 5 ms ends ROLLBACK. A later report is ignored. -/
def aliveReport (old : Bool) (s : State) : State :=
  let n := s.nmc
  let c := n.uctl
  let a := s.running c
  let b := s.staged c
  if !s.recordOk || s.abandoned then s
  else if n.st = .start && !old && decide (s.time.ns ≤ n.since + s.watchdog) then
    if b.fmtMin ≤ a.fmtOut && a.fmtOut ≤ b.fmtMax then
      let f := Tbl.get n.floors c 0
      let s1 := { s with nmc := { n with act := setBit n.act c (!bit n.act c), floors := Tbl.set n.floors c (tmax f b.floor) } }
      ((s1.bootImage c).upTo .commit).endUpdate 1 a.ver b.ver
    else s
  else if n.st = .rollback && old && decide (s.time.ns ≤ n.since + 5000000) then (s.bootImage c).endUpdate 2 a.ver b.ver
  else s

/-- WATCHDOG_EXPIRY (R98). -/
def watchdogExpiry (s : State) : State :=
  if s.nmc.st = .start && decide (s.nmc.since + s.watchdog ≤ s.time.ns) && !s.abandoned then s.upTo .rollback else s

/-- ROLLBACK_EXPIRY (R98, R107): FAILED with the FAIL bit, before what was held is resolved, so that the failed function takes none of it
(R27); for the NMC or a DC a fatal error. -/
def rollbackExpiry (s : State) : State :=
  let n := s.nmc
  if n.st = .rollback && decide (n.since + 5000000 ≤ s.time.ns) && !s.abandoned then
    let s1 := ((s.closeUpdate 3 (s.running n.uctl).ver (s.staged n.uctl).ver).setFail [ctlFunc n.uctl]).thaw
    if n.uctl < 5 then s1.declareFatal 5 else s1
  else s

/-! Attestation (R106). -/

/-- A quote's bytes (R106). -/
def State.quote (s : State) : List Byte :=
  let n := s.nmc
  let ctls := List.range 41
  let head := n.nonce.flatMap (fun w => bytesOfNat 8 w.toNat) ++ bytesOfNat 8 s.time.ns ++
    ctls.flatMap (fun c => bytesOfNat 8 (s.running c).ver.toNat ++ bytesOfNat 8 (bit n.act c).toNat) ++
    List.replicate 328 0 ++ ctls.flatMap fun c => bytesOfNat 64 (s.running c).digest
  head ++ edSign n.attkey.toNat (sha512 head)

/-- ATTEST_QUOTE (R106): the oldest quote asked for is written at ATTADDR. -/
def attestQuote (s : State) : State :=
  if s.nmc.quotes = 0 || !s.acting 0 then s
  else
    let q := s.quote
    let s1 := if s.rangeStatus s.nmc.attaddr.toNat q.length = 0 then (s.outerWrite s.nmc.attaddr.toNat q).2 else s
    { s1 with nmc := { s1.nmc with quotes := s1.nmc.quotes - 1, attgen := s1.nmc.attgen + 1 } }

/-! Fatal errors and dumps (R107-R109). -/

/-- FATAL_ERROR (R107). -/
def fatalError (cause : BitVec 8) (s : State) : State := s.declareFatal cause.toNat

/-- What the units hold at the cut, in words: the strands with their registers, the cores, the tiles and the clusters' mailboxes (R107). -/
def State.unitWords (s : State) : List Word64 :=
  let n (v : Nat) : Word64 := BitVec.ofNat 64 v
  s.slots.flatMap (fun e => [n e.1, n e.2.recAddr.toNat, e.2.pc, e.2.status, e.2.cause, e.2.epc, e.2.tvec, e.2.lclock] ++ e.2.s.toList) ++
    s.cores.flatMap (fun e => [n e.1, e.2.lnkst, n e.2.cycle] ++ e.2.le ++ e.2.lw) ++
    s.tiles.flatMap (fun e => [n e.1, e.2.vweight.setWidth 64, e.2.scr.setWidth 64] ++ e.2.sems.toList.map fun v => v.setWidth 64) ++
    s.clusters.flatMap fun e => n e.1 :: e.2.sdpool :: e.2.mailbox.flatMap fun m => [m.w0, m.w1, m.w2, m.w3]

/-- The sections of a dump: of the units, and of a controller frozen for update its hand-over record (R107, R109). -/
def State.dumpSections (s : State) : List (Nat × Nat × List Byte) :=
  let c := s.nmc.uctl
  Config.dumpSections s.unitWords ++
    (if s.frozen c then [(ctlKind c, c, s.nmc.record.flatMap fun w => bytesOfNat 8 w.toNat)] else [])

/-- A dump from 0x100 on: the directory, then the sections one after another (R109). -/
def State.dumpBody (s : State) : List Byte :=
  let l := s.dumpSections
  let first := 0x100 + 16 * l.length
  let dir := l.foldl (fun (a : List Byte × Nat) e =>
    (a.1 ++ bytesOfNat 8 (e.1 % 256 * 2 ^ 56 + e.2.1 % 2 ^ 16 * 2 ^ 40 + a.2 % 2 ^ 40) ++ bytesOfNat 8 e.2.2.length, a.2 + e.2.2.length)) ([], first)
  dir.1 ++ l.flatMap fun e => e.2.2

/-- The dump's header (R109). -/
def State.dumpHeader (s : State) (cause at0 : Nat) (body : List Byte) : List Word64 :=
  let n (v : Nat) : Word64 := BitVec.ofNat 64 v
  let frozen := if s.frozen s.nmc.uctl then 2 ^ s.nmc.uctl else 0
  let dig := sha512 body
  [n (0x44554D50 * 2 ^ 32 + 2 ^ 16 + cause * 2 ^ 8), n at0, s.nmc.cut.getD 0, n (s.rdygen.toNat * 2 ^ 32 + s.dumpSections.length % 2 ^ 32),
   s.rdy.setWidth 64, (s.rdy >>> 64).setWidth 64, s.fail.setWidth 64, (s.fail >>> 64).setWidth 64, n (256 + body.length), n frozen] ++
  List.replicate 6 (0 : Word64) ++ (List.range 8).map (fun i => n (natOfBytes ((dig.drop (8 * i)).take 8))) ++ List.replicate 8 (0 : Word64)

/-- Where the device copy goes: 0 stack 7, 1 stack 5, 2 none (R108). -/
def State.dumpPlace (s : State) : Nat := if s.ready (.hbm 7) then 0 else if s.ready (.hbm 5) then 1 else 2

/-- DUMP_COMPLETE (R108): the copies end and the DUMP record is raised; with no copy at all the NMC keeps the header. A dump waits
while the NMC is frozen (R110). -/
def dumpComplete (linkLost : Bool) (s : State) : State :=
  match s.nmc.fatal, s.nmc.cut with
  | some (cause, at0), some _ =>
    if s.nmc.dumped || s.frozen 0 then s
    else
      let body := s.dumpBody
      let h := s.dumpHeader cause at0 body
      let bytes := (h.flatMap fun w => bytesOfNat 8 w.toNat) ++ body
      let put (s : State) (base : Nat) : State := { s with mem := Mem.write s.mem base (natOfBytes bytes) bytes.length }
      let place := s.dumpPlace
      let base := (if place = 0 then 8 else 6) * stackSize - 2 ^ 30
      let s1 := if place = 2 then s else put s base
      let tries := s.nmc.dumphost != 0 && (s.group 0).st == .ready
      let host := if !tries then 1 else if linkLost then 2 else 0
      let s2 := if host = 0 then put s1 (hostPa s.nmc.dumphost.toNat) else s1
      let kept := if place = 2 && host ≠ 0 then h else s.nmc.kept
      let s3 := { s2 with nmc := { s2.nmc with dumped := true, kept := kept }, time := s2.time }
      s3.raise [recHead 0x30 (cause * 2 ^ 32 + place * 4 + host), h.getD 8 0]
  | _, _ => s

/-- UPDATE_GO (R97). -/
def execUpdateGo (v : Word32) (s : State) : Host.Outcome State Fault Refusal := event s fun s => s.fromHost (updateGo v)
/-- STAGE_COMPLETE (R98). -/
def execStageComplete (s : State) : Host.Outcome State Fault Refusal := event s stageComplete
/-- HANDOVER_POINT (R99). -/
def execHandoverPoint (s : State) : Host.Outcome State Fault Refusal := event s handoverPoint
/-- FREEZE_COMPLETE (R98). -/
def execFreezeComplete (s : State) : Host.Outcome State Fault Refusal := event s freezeComplete
/-- ALIVE_REPORT (R98). -/
def execAliveReport (old : Bool) (s : State) : Host.Outcome State Fault Refusal := event s (aliveReport old)
/-- WATCHDOG_EXPIRY (R98). -/
def execWatchdogExpiry (s : State) : Host.Outcome State Fault Refusal := event s watchdogExpiry
/-- ROLLBACK_EXPIRY (R98). -/
def execRollbackExpiry (s : State) : Host.Outcome State Fault Refusal := event s rollbackExpiry
/-- ATTEST_QUOTE (R106). -/
def execAttestQuote (s : State) : Host.Outcome State Fault Refusal := event s attestQuote
/-- FATAL_ERROR (R107). -/
def execFatalError (c : BitVec 8) (s : State) : Host.Outcome State Fault Refusal := event s (fatalError c)
/-- DUMP_COMPLETE (R108). -/
def execDumpComplete (l : Bool) (s : State) : Host.Outcome State Fault Refusal := event s (dumpComplete l)

end Sys2Proof.Machine
end

