-- ==== Sys2Proof/Machine/Coherence.lean ====
section
/-! DEFINITION. The moves of tiles, homes, memory-side units and the barrier network: directory requests, probes, tickets, leases,
ownership, tickets of FENCE.sc.dev, the L2 mode switch (09_coherence R200-R223, 10 R233). The strands' own accesses make their
directory moves in their step (Mem.lean); these moves are the agents' own. -/

namespace Sys2Proof.Machine
open Sys2Proof

/-- The slice number of a line in a tile's cluster. -/
def sliceIdx (c line : Nat) : Nat := c * 12 + sliceOf line
/-- A slice's tables. -/
def State.tab (s : State) (i : Nat) : SliceTabs := Tbl.get s.tabs i SliceTabs.reset
/-- A slice's tables replaced. -/
def State.setTab (s : State) (i : Nat) (x : SliceTabs) : State := { s with tabs := Tbl.set s.tabs i x }

/-- A tile's request that its home has not answered. -/
def State.treq (s : State) (t line : Nat) : Option TileReq := s.treqs.find? fun q => q.tile == t && q.line == line
/-- A tile's request replaced in its place, entered behind the others, or ended. -/
def State.setTreq (s : State) (t line : Nat) (q : Option TileReq) : State :=
  let mine (r : TileReq) : Bool := r.tile == t && r.line == line
  match q with
  | some q => if s.treqs.any mine then { s with treqs := s.treqs.map fun r => if mine r then q else r } else { s with treqs := s.treqs ++ [q] }
  | none => { s with treqs := s.treqs.filter fun r => !mine r }

/-- The probes that a request of tile `t` (0-47) makes the home send (R207), a merge of P copies among them (R211, R212): the tile and
the kind. -/
def dirProbes (e : Option DirEnt) (t : Nat) (kind : CohReq) (mask : BitVec 64) : List (Nat × ProbeKind) :=
  let others (l : List Nat) (k : ProbeKind) : List (Nat × ProbeKind) := (l.filter (· != t)).map fun u => (u, k)
  match e with
  | none => []
  | some e =>
    let named := (List.range 48).filter fun u => bit e.sharers u
    match e.st, kind with
    | .c, _ => []
    | .p, k =>
      let merge := k == .rds || pOverlap e.masks t mask || (decide (8 ≤ e.masks.length) && !(e.masks.any fun x => x.1 == t))
      if merge then e.masks.map fun x => (x.1, .recall) else []
    | .s, .rds => []
    | .o, .rds => others [e.owner] .forward
    | _, .rds => others [e.owner] .downgrade
    | _, _ => others named .invalidate

/-- The directory's move for a request of tile `t` (R207, R210-R212): the home orders it and sends its probes, by which the other
tiles' copies go. An upgrade of a tile that is no sharer acts as RdX. -/
def State.dirMove (s : State) (q : TileReq) : State :=
  let c := q.tile / 48
  let t := q.tile % 48
  let e := s.dirOf c q.line
  let e' := match q.kind with
    | .rds => dirRds e s.time.cyc t
    | .rdx | .upg => dirRdx e s.time.cyc t q.mask
  (s.putDir c q.line e').setTreq q.tile q.line (some { q with acks := (dirProbes e t q.kind q.mask).map fun p => (c * 48 + p.1, p.2) })

/-- Is another tile's request for the ownership of the line in progress at the home, so that this one for it loses (R223)? -/
def State.loses (s : State) (q : TileReq) : Bool :=
  q.kind != .rds && s.treqs.any fun r => r.line == q.line && r.tile / 48 == q.tile / 48 && r.tile != q.tile && r.kind != .rds && !r.clash &&
    r.ticket.isNone

/-- A request arrives at the cluster home (R205, R207, R209): one that loses will be answered NACK (R223); another is combined with an outstanding fill, answered from the slice, given a
miss-table entry, or refused with a ticket when the table is full. -/
def State.homeRequest (s : State) (q : TileReq) : State :=
  let c := q.tile / 48
  let i := sliceIdx c q.line
  let x := s.tab i
  let e := s.dirOf c q.line
  if (e.map DirEnt.st) = some .c then s
  else if s.loses q then s.setTreq q.tile q.line (some { q with clash := true })
  else if e.isSome || (s.copy c q.line).isSome then s.dirMove q
  else if x.miss.any fun m => m.1 == q.line && decide (m.2.length < 8) then
    let miss : List (Nat × List Nat) := x.miss.map fun m => if m.1 = q.line && m.2.length < 8 then (m.1, m.2 ++ [q.tile]) else m
    (s.setTreq q.tile q.line (some q)).setTab i { x with miss := miss }
  else if x.miss.length < 64 then
    (s.setTreq q.tile q.line (some q)).setTab i { x with miss := x.miss ++ [(q.line, [q.tile])] }
  else
    (s.setTreq q.tile q.line (some { q with ticket := some x.next, called := false })).setTab i
      { x with next := x.next + 1, wait := x.wait ++ [(x.next, q.tile, q.line)] }

/-- A tile's request, unless one for the line is outstanding or the tile has no cache (R199). -/
def State.tileRequest (s : State) (t line : Nat) (kind : CohReq) (mask : BitVec 64) : State :=
  if !s.caches t || (s.treq t line).isSome then s
  else s.homeRequest ⟨t, line, kind, mask, none, false, false, [], []⟩

/-- RDS (R207). -/
def rds (t line : Nat) (s : State) : State := s.tileRequest t line .rds 0
/-- RDX (R207). -/
def rdx (t line : Nat) (mask : Word64) (s : State) : State := s.tileRequest t line .rdx mask
/-- UPG (R207). -/
def upg (t line : Nat) (mask : Word64) (s : State) : State := s.tileRequest t line .upg mask

/-- A tile's own copy of a line gone, with the L1 copies (R199). -/
def State.dropLine (s : State) (t line : Nat) : State := s.withCoh (s.coh.prune (t / 48) line fun u => u != t % 48)

/-- A write-back that its slice takes (R207): the owner's data reaches the slice, or one P copy is merged (R212). -/
def State.takeWb (s : State) (t line : Nat) : State :=
  match s.dirOf (t / 48) line with
  | some e => s.setDir (t / 48) line (dirDrop (t % 48) e)
  | none => s

/-- WB (R207, R209, R212): the owner's copy leaves its cache for a write-back entry; with all 16 busy it circles, and its slice takes it
at a later pass. -/
def wb (t line : Nat) (s : State) : State :=
  let c := t / 48
  match s.dirOf c line with
  | none => s
  | some e =>
    let mine := ((e.st = .m || e.st = .o) && e.owner = t % 48) || (e.st = .p && e.masks.any fun m => m.1 == t % 48)
    if !mine then s
    else
      let i := sliceIdx c line
      let x := s.tab i
      if x.circ.contains (t, line) then s
      else if x.wb.length < 16 then (s.takeWb t line).setTab i { x with wb := x.wb ++ [line] }
      else (s.dropLine t line).setTab i { x with circ := x.circ ++ [(t, line)] }

/-- WB_DRAIN (R209): the oldest write-back entry drains to memory; one that circles takes its place. -/
def wbDrain (i : Nat) (s : State) : State :=
  let x := s.tab i
  match x.wb with
  | [] => s
  | l :: r =>
    let s1 := s.writeBack (i / 12) l
    let s2 := match x.circ with
      | e :: _ => s1.takeWb e.1 e.2
      | [] => s1
    s2.setTab i { x with wb := r ++ (x.circ.take 1).map Prod.snd, circ := x.circ.drop 1 }

/-- CLEAN_EVICTION_NOTICE (R207). -/
def cleanEvictionNotice (t line : Nat) (s : State) : State :=
  match s.dirOf (t / 48) line with
  | some e => if e.st = .e && e.owner = t % 48 then s.setDir (t / 48) line none else s
  | none => s

/-- Does the home still await tile `t`'s acknowledgement for another tile's request (R207)? -/
def TileReq.awaits (q : TileReq) (t line : Nat) : Bool := q.line == line && q.acks.any fun a => a.1 == t

/-- A probe applied to a tile's copy (R207): an invalidation or recall takes it; a downgrade or forward leaves S or O. One that a request
brings is acknowledged: the home has moved its entry already. -/
def State.applyProbe (s : State) (t line : Nat) (kind : ProbeKind) : State :=
  if s.treqs.any fun q => q.awaits t line then
    let acked (q : TileReq) : TileReq := if q.line = line then { q with acks := q.acks.filter fun a => a.1 != t } else q
    let s1 := if kind == .invalidate || kind == .recall then s.dropLine t line else s
    { s1 with treqs := s1.treqs.map acked }
  else match s.dirOf (t / 48) line with
  | none => s
  | some e =>
    if e.st = .c then s
    else match kind with
      | .invalidate | .recall => s.setDir (t / 48) line (dirDrop (t % 48) e)
      | .downgrade | .forward =>
        if e.owner ≠ t % 48 then s
        else if e.st = .m then s.setDir (t / 48) line (some { e with st := .o })
        else if e.st = .e then s.setDir (t / 48) line (some { e with st := .s })
        else s

/-- PROBE (R208): with ORD set and a request outstanding it is parked until the reply; otherwise it acts, and a tile with a request
outstanding sends CONFLICT. -/
def probe (t line : Nat) (kind : ProbeKind) (ord : Bool) (s : State) : State :=
  match s.treq t line with
  | some q =>
    if ord then s.setTreq t line (some { q with probes := q.probes ++ [kind] })
    else (s.applyProbe t line kind).setTreq t line (some { q with clash := true })
  | none => s.applyProbe t line kind

/-- CONFLICT (R208): the home will answer the pending request with NACK. -/
def conflict (t line : Nat) (s : State) : State :=
  match s.treq t line with
  | some q => s.setTreq t line (some { q with clash := true })
  | none => s

/-- Has the home granted every request for the line that was ordered before the ones that lost (R208)? -/
def State.winnerGranted (s : State) (q : TileReq) : Bool :=
  !s.treqs.any fun r => r.line == q.line && r.tile / 48 == q.tile / 48 && r.tile != q.tile && !r.clash && r.ticket.isNone

/-- Has tile `t` parked a probe of this kind for the line (R208)? -/
def State.probeParked (s : State) (t line : Nat) (k : ProbeKind) : Bool := ((s.treq t line).map fun q => q.probes.contains k).getD false

/-- NACK (R208, R209): without a ticket the request is sent again and ordered afresh; with one it waits to be called. -/
def nack (t line : Nat) (ticket : Option (BitVec 16)) (s : State) : State :=
  match s.treq t line with
  | none => s
  | some q =>
    match ticket with
    | some k => s.setTreq t line (some { q with ticket := some k, called := false, clash := false })
    | none => (s.setTreq t line none).homeRequest { q with clash := false, ticket := none, called := false }

/-- TICKET_CALL (R209): with a free miss-table entry the oldest ticket is called and its request sent again. -/
def ticketCall (i : Nat) (s : State) : State :=
  let x := s.tab i
  match x.wait with
  | (_, t, line) :: r =>
    if x.miss.length < 64 then
      let s1 := s.setTab i { x with wait := r }
      match s1.treq t line with
      | some q => (s1.setTreq t line none).homeRequest { q with ticket := none, called := true }
      | none => s1
    else s
  | [] => s

/-- FILL_RETURN (R205): the data serves every combined requester. -/
def fillReturn (i line : Nat) (s : State) : State :=
  let x := s.tab i
  match x.miss.find? fun m => m.1 == line with
  | none => s
  | some m =>
    let rest : List (Nat × List Nat) := x.miss.erase m
    m.2.foldl (fun u t => match u.treq t line with
      | some q => u.dirMove q
      | none => u) (s.setTab i { x with miss := rest })

/-- COHERENCE_REPLY (R207, R208): once every probe has been acknowledged the grant completes the tile's request, the line is in its
cache, and the parked probes act. -/
def coherenceReply (t line : Nat) (s : State) : State :=
  match s.treq t line with
  | none => s
  | some q =>
    let filling := (s.tab (sliceIdx (t / 48) line)).miss.any fun m => m.1 == line && m.2.contains t
    if q.ticket.isSome || q.clash || filling || !q.acks.isEmpty then s
    else q.probes.foldl (fun u k => u.applyProbe t line k) ((s.setTreq t line none).fillTile t line)

/-- LEASE_RENEWAL (R214): unified mode, lines ordered by leases, a cluster that is not the owner. -/
def leaseRenewal (c line : Nat) (pts : Word64) (s : State) : State :=
  if s.partLine line || s.isPt line || (Tbl.get? s.clines line).isSome || (s.home line).owner = some c then s else (s.renew c line pts).1

/-- OWNERSHIP_REQUEST (R215): the grant carries wts and the largest rts granted. -/
def ownershipRequest (c line : Nat) (s : State) : State :=
  if s.partLine line || s.isPt line || (Tbl.get? s.clines line).isSome then s
  else
    let h := s.home line
    ((s.giveUp line (some c)).dropCopy c line).setHome line { h with owner := some c }

/-- MIRROR_UPDATE (R219): of every cluster that holds dirty bytes of the line. -/
def mirrorUpdate (line : Nat) (s : State) : State :=
  if isHbm (64 * line) then (List.range 16).foldl (fun t c => t.putMirror c line) s else s

/-- LCLOCK_TICK (R216): unified mode. -/
def lclockTick (n : Nat) (s : State) : State :=
  let x := s.getSlot n
  if x.occ && !s.coh.part then s.putSlot n { x with lclock := x.lclock + 1 } else s

/-- SC_TICKET_ISSUE (R233): the oldest FENCE.sc.dev gets its ticket. -/
def scTicketIssue (s : State) : State :=
  match s.scq with
  | [] => s
  | n :: r =>
    let x := s.getSlot n
    { s.putSlot n { x with wait := .none, reply := some (0, BitVec.ofNat 64 s.scTicket) } with scq := r, scTicket := s.scTicket + 1 }

/-- MODE_SWITCH_COMPLETE (R201, R452): dirty data written back, every copy and lease gone, timestamps and LCLOCKs zero, the mode
changed, the requests of tiles ordered anew under it, the status landed. -/
def modeSwitchComplete (s : State) : State :=
  match s.l2sw with
  | [] => s
  | q :: r =>
    let s1 := (List.range 16).foldl (fun t c => t.writeBacks c (t.linesOf c)) s
    let coh : Coh := { s1.coh with part := q.part, dir := [], home := [], copies := [], mirror := [], tcache := [], l1d := [], clock := 0 }
    let slots : Tbl Slot := s1.slots.map fun e => (e.1, { e.2 with lclock := 0 })
    let s2 := { s1 with coh := coh, slots := slots, treqs := [], tabs := [], l2sw := r }
    let s2 := s1.treqs.foldl (fun t q => t.homeRequest ⟨q.tile, q.line, q.kind, q.mask, none, false, false, [], []⟩) s2
    let l := q.land
    s2.landStatus l.slot l.reg l.recAddr l.ctx (statusWord 0 0 (s.time.ns - q.since))

/-- RDS (R207). -/
def execRds (t l : Nat) (s : State) : Host.Outcome State Fault Refusal := event s (rds t l)
/-- RDX (R207). -/
def execRdx (t l : Nat) (m : Word64) (s : State) : Host.Outcome State Fault Refusal := event s (rdx t l m)
/-- UPG (R207). -/
def execUpg (t l : Nat) (m : Word64) (s : State) : Host.Outcome State Fault Refusal := event s (upg t l m)
/-- WB (R207). -/
def execWb (t l : Nat) (s : State) : Host.Outcome State Fault Refusal := event s (wb t l)
/-- WB_DRAIN (R209). -/
def execWbDrain (i : Nat) (s : State) : Host.Outcome State Fault Refusal := event s (wbDrain i)
/-- CLEAN_EVICTION_NOTICE (R207). -/
def execCleanEvictionNotice (t l : Nat) (s : State) : Host.Outcome State Fault Refusal := event s (cleanEvictionNotice t l)
/-- PROBE (R208). -/
def execProbe (t l : Nat) (k : ProbeKind) (o : Bool) (s : State) : Host.Outcome State Fault Refusal := event s (probe t l k o)
/-- CONFLICT (R208). -/
def execConflict (t l : Nat) (s : State) : Host.Outcome State Fault Refusal := event s (conflict t l)
/-- NACK (R208). -/
def execNack (t l : Nat) (k : Option (BitVec 16)) (s : State) : Host.Outcome State Fault Refusal := event s (nack t l k)
/-- TICKET_CALL (R209). -/
def execTicketCall (i : Nat) (s : State) : Host.Outcome State Fault Refusal := event s (ticketCall i)
/-- FILL_RETURN (R205). -/
def execFillReturn (i l : Nat) (s : State) : Host.Outcome State Fault Refusal := event s (fillReturn i l)
/-- COHERENCE_REPLY (R208). -/
def execCoherenceReply (t l : Nat) (s : State) : Host.Outcome State Fault Refusal := event s (coherenceReply t l)
/-- LEASE_RENEWAL (R214). -/
def execLeaseRenewal (c l : Nat) (p : Word64) (s : State) : Host.Outcome State Fault Refusal := event s (leaseRenewal c l p)
/-- OWNERSHIP_REQUEST (R215). -/
def execOwnershipRequest (c l : Nat) (s : State) : Host.Outcome State Fault Refusal := event s (ownershipRequest c l)
/-- MIRROR_UPDATE (R219). -/
def execMirrorUpdate (l : Nat) (s : State) : Host.Outcome State Fault Refusal := event s (mirrorUpdate l)
/-- LCLOCK_TICK (R216). -/
def execLclockTick (n : Nat) (s : State) : Host.Outcome State Fault Refusal := event s (lclockTick n)
/-- SC_TICKET_ISSUE (R233). -/
def execScTicketIssue (s : State) : Host.Outcome State Fault Refusal := event s scTicketIssue
/-- MODE_SWITCH_COMPLETE (R201). -/
def execModeSwitchComplete (s : State) : Host.Outcome State Fault Refusal := event s modeSwitchComplete

end Sys2Proof.Machine
end

