-- ==== Sys2Proof/Machine/Caches.lean ====
section
/-! DEFINITION. The sizes of the caches, kept by evictions (00 R1, 07 R142, 09 R199, R207): a tile cache of (16 − SCR) · 64 KiB in 16
ways, a core's L1 data cache of 64 KiB, a tile's L1 instruction cache of 128 KiB, an L2 slice of 2 MiB. Which set a line falls into and
which line of a full set goes are not given: the set is the line modulo the number of sets, the line a free value; the smaller caches and
the slices stand as one set (notes/assumptions 107). -/

namespace Sys2Proof.Machine
open Sys2Proof

/-- The lines of the first overfull set of a cache with so many sets and ways. -/
def crowded (sets ways : Nat) (l : List Nat) : List Nat :=
  let same (x y : Nat) : Bool := x % sets == y % sets
  match l.find? fun x => decide (ways < (l.filter (same x)).length) with
  | some x => l.filter (same x)
  | none => []

/-- The sets of a tile's cache (R199). -/
def State.setsOf (s : State) (t : Nat) : Nat := (16 - (s.tile t).scr.toNat) * 64

/-- A line evicted from a tile's cache (R207): S silently, E with a notice, M, the owner's O and a P copy with a write-back. -/
def State.evictLine (s : State) (t line : Nat) : State :=
  match s.dirOf (t / 48) line with
  | some e =>
    if e.st = .p || (e.owner = t % 48 && (e.st = .m || e.st = .o)) then (wb t line s).dropLine t line
    else if e.owner = t % 48 && e.st = .e then (cleanEvictionNotice t line s).dropLine t line
    else s.dropLine t line
  | none => s.dropLine t line

/-- A line evicted from a cluster's L2 (R213, R218): a partition's dirty bytes are written back, a lease or a clean copy goes; an owned
line goes home. -/
def State.evictL2 (s : State) (c line : Nat) : State :=
  if (s.copy c line).isSome then (s.writeBack c line).dropCopy c line
  else
    let h := s.home line
    if h.owner = some c then ((s.giveUp line none).unmirror line).setHome line { h with owner := none } else s

/-- The lines in a cluster's slices: its copies, and the lines that it owns (R213, R218). -/
def State.l2Lines (s : State) (c : Nat) : List Nat :=
  s.linesOf c ++ (s.coh.home.filter fun e => e.2.owner == some c && (s.copy c e.1).isNone).map Prod.fst

/-- An eviction that a cache's size asks for: the candidates and what the choice of one does. -/
def State.overfull (s : State) : Option (List Nat × (State → Nat → State)) :=
  let pick (l : List Nat) (f : State → Nat → State) : Option (List Nat × (State → Nat → State)) := if l.isEmpty then none else some (l, f)
  let tiles := s.coh.tcache.findSome? fun e => pick (crowded (s.setsOf e.1) 16 e.2) fun t l => t.evictLine e.1 l
  let l1 := s.coh.l1d.findSome? fun e => pick (crowded 1 1024 e.2) fun t l =>
    t.withCoh { t.coh with l1d := Tbl.set t.coh.l1d e.1 ((Tbl.get t.coh.l1d e.1 []).filter (· != l)) }
  let ic := if s.icache.length ≤ 2048 then none else s.icache.findSome? fun e =>
    let mine := (s.icache.filter fun f => f.1 / 2 ^ 46 == e.1 / 2 ^ 46).map Prod.fst
    pick (crowded 1 2048 mine) fun t k => { t with icache := Tbl.erase t.icache k }
  let l2 := if s.coh.copies.length + s.coh.home.length ≤ 32768 then none else (List.range 16).findSome? fun c =>
    (List.range 12).findSome? fun i => pick (crowded 1 32768 ((s.l2Lines c).filter fun l => sliceOf l == i)) fun t l => t.evictL2 c l
  ((tiles.orElse fun _ => l1).orElse fun _ => ic).orElse fun _ => l2

/-- The evictions that the caches' sizes ask for, at most `n`. -/
def State.trim (s : State) : Nat → State
  | 0 => s
  | n + 1 =>
    match s.overfull with
    | some (l, f) => let (v, t) := s.freeVal; State.trim (f t (l.getD (v.toNat % l.length) 0)) n
    | none => s

/-- As many lines as the caches hold: the evictions end before. -/
def State.cacheLines (s : State) : Nat :=
  (s.coh.tcache.map fun e => e.2.length).sum + (s.coh.l1d.map fun e => e.2.length).sum + s.icache.length + s.coh.copies.length + s.coh.home.length

/-- Every cache within its size. -/
def State.trimCaches (s : State) : State := s.trim s.cacheLines

end Sys2Proof.Machine
end

