-- ==== Sys2Proof/Machine/Dispatcher.lean ====
section
/-! DEFINITION. The strand dispatchers: placement, aging, quanta, pre-emption, gang-stop, unit loads, watches, hang detection and
pennant rounds (06_strands_scheduler R123-R141, 16 R365, 19 R453-R456). -/

namespace Sys2Proof.Machine
open Sys2Proof

/-! Placement (R123, R124, R127, R81). -/

/-- Does a reservation cover a tile of its cluster (0-47)? -/
def Resv.covers (r : Resv) (t : Nat) : Bool := decide (r.first ≤ t) && decide (t < r.first + r.count)

/-- The accepted entries of a cluster that await placement, in the order of R81: deadline, higher PRIO, port, number. -/
def State.portQueue (s : State) (c : Nat) : List (Nat × PortEnt) :=
  let all := s.ports.flatMap fun x => (x.2.ents.filter fun e => !e.placed && e.m != 0 && e.cluster == c).map fun e => (x.1, e)
  let before (a b : Nat × PortEnt) : Bool :=
    let pa := (s.lp a.1).prio
    let pb := (s.lp b.1).prio
    decide (a.2.due < b.2.due) || (a.2.due == b.2.due && (decide (pb < pa) || (pa == pb && (decide (a.1 < b.1) ||
      (a.1 == b.1 && decide (a.2.seq.toNat < b.2.seq.toNat))))))
  all.foldl (fun l e => l.takeWhile (fun x => before x e) ++ e :: l.dropWhile fun x => before x e) []

/-- Is the cluster under port pressure (R127)? -/
def State.pressed (s : State) (c : Nat) : Bool := (s.portQueue c).any fun e => e.2.aged

/-- Is slot `i` of cluster `c` eligible (R124) for the candidate that owns the reservation of record `own`? Under pressure
reservations give way to port entries (R127). -/
def State.eligible (s : State) (c i : Nat) (own : Option Nat) (port : Bool) : Bool :=
  let n := c * 768 + i
  let t := s.tile (tileOf n)
  !(s.getSlot n).occ && s.ready (.clu c) && t.held.isNone && t.load.isNone &&
    ((port && s.pressed c) || (s.cluster c).resvs.all fun r => own == some r.recAddr || !r.covers (i / 16))

/-- The cost of a slot's core (R124). -/
def State.slotCost (s : State) (n : Nat) : Int :=
  s.sensor (coreOf n) + 4 * min ((Tbl.get s.therm.words (3072 + coreOf n) 0).setWidth 16).toNat 255

/-- The slot of cluster `c` for a single record with affinity `aff` (R124). -/
def State.chooseSlot (s : State) (c aff : Nat) (port : Bool) : Option Nat :=
  let p := (s.cluster c).ptr
  let d := fld (s.die (c / 4)).sdctl 3 0
  let cand := (((List.range 768).map fun i => (p + i) % 768).filter fun i => s.eligible c i none port).take (d + 1)
  let near := cand.filter fun i => i / 16 == aff
  let cand := if aff ≠ 0xFF && !near.isEmpty then near else cand
  cand.foldl (fun b i => match b with
    | none => some i
    | some j => if s.slotCost (c * 768 + i) < s.slotCost (c * 768 + j) then some i else some j) none

/-- The slots of a gang of `m` members: the lowest-numbered eligible ones, inside its reservation if it has one (R124). -/
def State.chooseGang (s : State) (c m : Nat) (own : Option Nat) (port : Bool) : Option (List Nat) :=
  let resv := (s.cluster c).resvs.find? fun r => own == some r.recAddr
  let l := ((List.range 768).filter fun i => s.eligible c i own port && (resv.map fun r => r.covers (i / 16)).getD true).take m
  if l.length = m then some l else none

/-- The placement pointer moved past a slot. -/
def State.movePtr (s : State) (c i : Nat) : State := s.setCluster c { s.cluster c with ptr := (i + 1) % 768 }

/-- A queue entry placed, if it can be (R124): its records leave the queue, its reservation ends. -/
def State.placeEnt (s : State) (c q : Nat) (e : QEnt) : Option State :=
  let a := e.recs.headD 0
  let gang := decide (1 < e.recs.length)
  let slots := if gang then s.chooseGang c e.recs.length (some a) false
    else (s.chooseSlot c (fld (s.recWord a 7) 55 48) false).map fun i => [i]
  match slots with
  | none => none
  | some l =>
    let s1 := s.setQueue c q ((s.queue c q).erase e)
    let k := s1.cluster c
    let s2 := s1.setCluster c { k with resvs := k.resvs.filter fun r => r.recAddr != a }
    let s3 := (e.recs.zip l).foldl (fun t x => t.place (c * 768 + x.2) x.1) s2
    some (s3.movePtr c (l.getLast?.getD 0))

/-- Member `i` of a launch formed from its entry (R82, R118); the store of the whole line clears its poison (R222). -/
def State.formMember (s : State) (p asx : Nat) (e : PortEnt) (i : Nat) : State :=
  let x := s.lp p
  let w (k : Nat) : Word64 := e.words.getD k 0
  let a := fld x.mbase 51 24 * 2 ^ 24 + 65536 * (e.seq.toNat % 256) + 64 * i
  let w1 := setFld (setFld (w 1) 0 4 stREADY) 4 4 x.prio
  let w5 := if bit (w 1) 11 then BitVec.ofNat 64 i else w 5
  let w7 := setFld (setFld (setFld (w 7) 0 4 asx) 56 8 x.dcls) 6 42 0
  (s.clearPoison (lineOf a)).putWords a [(0x00, w 0), (0x08, w1), (0x10, w 2), (0x18, w 3), (0x20, w 4), (0x28, w5), (0x30, w 6), (0x38, w7)]

/-- Uses of an ASID's entries in the package, and how many of them are reservations of port entries. -/
def State.asidUses (s : State) (a : BitVec 16) : Nat × Nat :=
  ((s.clusters.map fun c => ((c.2.asids.toList.filterMap id).filter fun e => e.asid == a).map AsEnt.uses).flatten.foldl (· + ·) 0,
   (s.ports.map fun p => if p.2.asid = a then (p.2.ents.filter fun e => e.asx.isSome).length else 0).foldl (· + ·) 0)

/-- A launch's member starts from the time of the host's stores (R84): in unified mode by its clock, elsewhere by the acquire of its
cluster. -/
def State.seeHost (s : State) (n : Nat) : State :=
  if s.coh.part then s else s.modSlot n fun x => { x with lclock := tmax x.lclock s.host.clock }

/-- A port entry placed, if it can be (R81, R82, R80, R136, R495): members formed, placed at once, held until their join increment
is done. -/
def State.placePort (s : State) (c p : Nat) (e : PortEnt) : Option State :=
  let x := s.lp p
  let gang := decide (1 < e.m)
  let slots := if gang then s.chooseGang c e.m none true else (s.chooseSlot c (fld (e.words.getD 7 0) 55 48) true).map fun i => [i]
  match slots with
  | none => none
  | some l =>
    match s.asidEntry c x.asid e.m with
    | none => none
    | some (asx, s1) =>
      let u := s.asidUses x.asid
      let first := (Tbl.get? s.desig x.asid.toNat).isNone && u.1 == u.2
      let base := fld x.mbase 51 24 * 2 ^ 24 + 65536 * (e.seq.toNat % 256)
      let s2 := match e.asx with
        | some i => s1.asidDrop c i
        | none => s1
      let s3 := (List.range e.m).foldl (fun t i => t.formMember p asx e i) s2
      let s4 := (l.zipIdx).foldl (fun t y => (t.place (c * 768 + y.1) (base + 64 * y.2)).seeHost (c * 768 + y.1)) (s3.acquireAt c 6 fun _ => true)
      let s5 := if e.joined then s4 else l.foldl (fun t i => t.modSlot (c * 768 + i) fun z => { z with wait := .launch }) s4
      let s6 := if first then s5.setDesig x.asid (some base) else s5
      let y := s6.lp p
      let s7 := s6.setLp p { y with live := Tbl.set y.live (e.seq.toNat % 256) ⟨e.seq, base, e.m, List.range e.m, []⟩ }
      let s8 := s7.setEnt p { e with placed := true, blocks := 0, asx := none }
      some ((s8.setLp p (s8.lp p).settle).movePtr c (l.getLast?.getD 0))

/-- The first candidate of one priority that can be placed (R123): pre-empted records, the head port entry, ready records. -/
def State.placeOne (s : State) (c q : Nat) : Option State :=
  let l := s.queue c q
  let pre := (l.filter QEnt.pre).foldl (fun a e => a.takeWhile (fun x => decide (x.since ≤ e.since)) ++ e :: a.dropWhile fun x => decide (x.since ≤ e.since)) []
  let port := match (s.portQueue c).head? with
    | some (p, e) => if (s.lp p).prio = q then s.placePort c p e else none
    | none => none
  match pre.findSome? (s.placeEnt c q) with
  | some t => some t
  | none => match port with
    | some t => some t
    | none => (l.filter fun e => !e.pre).findSome? (s.placeEnt c q)

/-- STRAND_PLACE (R123, R124, R127): the first candidate that can be placed. -/
def strandPlace (c : Nat) (s : State) : State :=
  let r := if s.pressed c then (match (s.portQueue c).head? with
      | some (p, e) => s.placePort c p e
      | none => none)
    else [7, 6, 5, 4, 3, 2, 1, 0].findSome? (s.placeOne c)
  r.getD s

/-- GANG_AGED (R125, R126): an aged gang takes the lowest free range of whole tiles; the DC writes the reservation, when it acts (R99). -/
def gangAged (c : Nat) (addr : BitVec 48) (s : State) : State :=
  let k := s.cluster c
  let a := addr.toNat
  let ent := k.queues.toList.flatten.find? fun e => e.recs.head? == some a && !e.pre
  match ent with
  | none => s
  | some e =>
    let n := cdiv e.recs.length 16
    let ok (f : Nat) : Bool := decide (f + n ≤ 48) && (List.range n).all fun i =>
      (s.tile (c * 48 + f + i)).held.isNone && !k.resvs.any fun r => r.covers (f + i)
    if s.acting (1 + c / 4) && e.since + (s.die (c / 4)).ageFor e.since ≤ s.time.ns && k.resvs.length < 4 && !(k.resvs.any fun r => r.recAddr == a) &&
        decide (1 < e.recs.length) then
      match (List.range 48).find? ok with
      | some f =>
        let pp := fld (s.die (c / 4)).sdctl 7 4
        let w := s.recWord a 1
        let r : Resv := ⟨f, n, a, decide (pp ≤ fld w 7 4), fld w 7 4, fld w 63 32, s.time.ns⟩
        s.setCluster c { k with resvs := k.resvs ++ [r] }
      | none => s
    else s

/-! Quanta and pre-emption (R129, R130, R127). -/

/-- The occupants that R127 chooses for the head port entry: those of the lowest-numbered slots that make up its members. -/
def State.pressChosen (s : State) (c : Nat) : List Nat :=
  match (s.portQueue c).head? with
  | none => []
  | some (_, e) =>
    let idle := ((List.range 768).filter fun i => s.eligible c i none true).length
    let occ := ((List.range 768).map fun i => c * 768 + i).filter fun n =>
      (s.getSlot n).occ && (s.tile (tileOf n)).held.isNone && (s.tile (tileOf n)).load.isNone
    if s.pressed c then occ.take (e.m - idle) else []

/-- Does a READY or PREEMPTED record of higher priority wait in the cluster with no eligible slot (R129)? -/
def State.outranked (s : State) (n : Nat) : Bool :=
  let c := clusterOf n
  (List.range 8).any fun q => decide ((s.getSlot n).prio.toNat < q) && (s.queue c q).any fun e =>
    (List.range 768).all fun i => !s.eligible c i e.recs.head? false

/-- QUANTUM_EXPIRY (R129, R117): at zero the occupant is asked to stop, or its account is reset. -/
def quantumExpiry (n : Nat) (s : State) : State :=
  let x := s.getSlot n
  let c := clusterOf n
  if isTsc n || !x.occ || x.quantum ≠ 0 || x.stop ≠ .none || (s.core (coreOf n)).halted then s
  else if x.clsC then s.putSlot n { x with quantum := s.quantumOf n }
  else
    let chosen := (s.pressChosen c).contains n
    let inResv := (s.cluster c).resvs.any fun r => r.preempt && r.covers (tileOf n % 48)
    let free := x.ctx != 0 || decide (0 < s.poolRoom c)
    let blocks := match (s.portQueue c).head? with
      | some (_, e) => decide (0 < e.blocks)
      | none => false
    if chosen && (x.ctx != 0 || blocks) then s.putSlot n { x with stop := .preempt (x.ctx == 0) }
    else if (inResv || s.outranked n) && free then s.putSlot n { x with stop := .preempt false }
    else s.putSlot n { x with quantum := s.quantumOf n }

/-- Has the strand of slot `n` no access of its own under way: none has left the core, and none whose result is there still has to
complete (R130)? -/
def State.accessFree (s : State) (n : Nat) : Bool :=
  let x := s.getSlot n
  !(s.fab.out.any fun q => q.slot == n && q.recAddr == x.recAddr && q.use == .scalar) &&
    !(s.msaq.any fun q => q.who == .slot n x.recAddr) &&
    !(s.xl.ptl.any fun p => p.2.storers.contains n) && x.sentUnits == 0 && x.reply.isNone

/-- Is slot `n` at a boundary at which its strand can be stopped (R130, R116): no access of its own is under way, and its queued
matrix operations have completed, but for an MMACR that waits at the home of a line in state C, which is abandoned with its
progress recorded? -/
def State.atBoundary (s : State) (n : Nat) : Bool :=
  let x := s.getSlot n
  let q : FabUse := .engine (tileOf n * 8 + 5)
  s.accessFree n && !((s.tile (tileOf n)).mxq.any fun c => c.slot == n && c.recAddr == x.recAddr &&
    (c.op != 0x2C6 || c.home.isEmpty || s.fab.out.any fun r => r.use == q && r.slot == n))

/-- Does a write land before a later entry of the list, or with it: by its cycle, then by its instruction's issue (R149)? -/
def Late.before (a b : Late) : Bool := decide (a.due < b.due) || (a.due == b.due && decide (a.iss ≤ b.iss))

/-- A write in flight of slot `n` lands; an increment of a semaphore leaves its cycle there (R162). -/
def State.landLate (s : State) (n : Nat) (e : Late) : State :=
  match e.w with
  | .sem i _ => (s.landWrite n e.w).semMark (tileOf n) i e.due
  | _ => s.landWrite n e.w

/-- The writes still in flight of a slot land (R133, R148), in the order of R149. -/
def State.landWhere (s : State) (n : Nat) (f : Late → Bool) : State :=
  let l := (s.getSlot n).late.filter f
  let sorted := l.foldl (fun a e => a.takeWhile (fun x => x.before e) ++ e :: a.dropWhile fun x => x.before e) []
  sorted.foldl (fun t e => t.landLate n e) (s.modSlot n fun x => { x with late := x.late.filter fun e => !f e })

/-- All of them. -/
def State.landAll (s : State) (n : Nat) : State := s.landWhere n fun _ => true

/-- A slot about to be saved: in-flight writes landed, an MMACR that waits at a home abandoned with its progress recorded (R116, R130,
R414). -/
def State.settleSlot (s : State) (n : Nat) : State :=
  let s1 := s.landAll n
  let t := s1.tile (tileOf n)
  let a := (s1.getSlot n).recAddr
  let q : FabUse := .engine (tileOf n * 8 + 5)
  let mine := t.mxq.any fun c => c.slot == n && c.recAddr == a
  let mxq : List Cmd := t.mxq.filter fun c => !(c.slot == n && c.recAddr == a)
  let out : List FabReq := s1.fab.out.filter fun r => !(r.use == q && r.slot == n)
  if mine then { s1.setTile (tileOf n) { t with mxq := mxq } with fab := { s1.fab with out := out } }.wakeFull (tileOf n) else s1

/-- PREEMPT_STOP (R130, R117, R178): at its boundary the strand is saved PREEMPTED at the head of its queue. One without a block to save
into runs on. -/
def preemptStop (n : Nat) (s : State) : State :=
  let x := s.getSlot n
  let c := clusterOf n
  match x.stop with
  | .sign => if x.occ && s.atBoundary n && s.stoppable n then ((s.modSlot n fun y => { y with stop := .none }).settleSlot n).stopFull n [] true else s
  | .preempt reserved =>
    if !x.occ || !s.atBoundary n then s
    else
      let head := (s.portQueue c).head?
      let blocks : Nat := match head with
        | some e => e.2.blocks
        | none => 0
      if x.ctx = 0 && !(if reserved then decide (0 < blocks) && bit (s.cluster c).sdpool 63 else s.stoppable n) then
        s.putSlot n { x with stop := .none, quantum := s.quantumOf n }
      else
        let s1 := match reserved && x.ctx == 0, head with
          | true, some (p, e) => s.setEnt p { e with blocks := e.blocks - 1 }
          | _, _ => s
        (s1.settleSlot n).stopFull n [] true
  | _ => s

/-! Gang-stop (R132-R134, R449). -/

/-- Every unit waiting in a tile's send buffer leaves, and every unit in flight lands, as at live phase cycles (R133). -/
def State.drainSend (s : State) (t : Nat) : State :=
  State.landFly t ((List.range 32).foldl (fun u _ => sendOldest t u) s) 64

/-- Is something that a compact's members here have sent still on its way: in a send buffer, or in a packet not acknowledged (R133)? -/
def State.xferBusy (s : State) (cid : Nat) (c : Compact) : Bool :=
  (s.locals c).any (fun e => ((s.tile e.1.tile).held.map fun m => !(m.send.isEmpty && m.fly.isEmpty)).getD false) ||
    s.groups.any fun g => g.2.out.any fun k => k.cid.toNat == cid

/-- The inbox words of a core and its FIFOs emptied, when `n` is the lowest-numbered of the stopped slots on it (R133). -/
def State.takeInbox (s : State) (l : List Nat) (n : Nat) : List Word64 × State :=
  let c := s.core (coreOf n)
  if l.any fun m => coreOf m == coreOf n && decide (m < n) then ([], s)
  else (c.le ++ c.lw, s.setCore (coreOf n) { c with le := [], lw := [] })

/-- The members asked that the pools of their clusters still have blocks for (R117, R132). -/
def State.gangBlocks (s : State) (l : List Nat) : List Nat :=
  (l.foldl (fun (acc : List Nat × List Nat) n =>
    let k := s.cluster (clusterOf n)
    let left := if bit k.sdpool 63 then 768 - k.pool.length else 0
    if (s.getSlot n).ctx != 0 then (acc.1 ++ [n], acc.2)
    else if (acc.2.filter (· == clusterOf n)).length < left then (acc.1 ++ [n], clusterOf n :: acc.2)
    else acc) ([], [])).1

/-- GANG_STOP_DRAIN (R133, R134, R449): once every member asked has reached its boundary, the network drains, the members are
saved, and the status lands. -/
def gangStopDrain (i : Nat) (s : State) : State :=
  match s.gstops[i]? with
  | none => s
  | some g =>
    let asked := g.slots.filter fun n => (s.getSlot n).occ && (s.getSlot n).stop == .gang
    let here := s.gangBlocks asked
    let lost := asked.filter fun n => !here.contains n
    let pending := ((g.cid.bind fun c => Tbl.get? s.compacts c).map Compact.stopPending).getD false
    if pending || !here.all s.atBoundary then s
    else if ((g.cid.bind fun c => Tbl.get? s.compacts c).map fun x => x.st == .stalled).getD false then
      -- a compact that has become STALLED leaves that state to DISSOLVING only (R192): its strands run on
      let t := asked.foldl (fun t n => t.modSlot n fun x => { x with stop := .none }) s
      { t with gstops := t.gstops.eraseIdx i }.landStatus g.land.slot g.land.reg g.land.recAddr g.land.ctx (statusWord 1 0 0)
    else
      -- a member whose block has gone runs on
      let s0 := lost.foldl (fun t n => t.modSlot n fun x => { x with stop := .none }) s
      let s1 := here.foldl (fun t n => t.landAll n) s0
      let com := g.cid.bind fun c => (Tbl.get? s.compacts c).map fun x => (c, x)
      let s2 := match com with
        | some (_, x) => (s.locals x).foldl (fun t e => t.drainSend e.1.tile) s1
        | none => s1
      -- what the network still carries to other packages is awaited
      if (com.map fun e => s2.xferBusy e.1 e.2).getD false then s2 else
      let s3 := s2.sent.foldl State.arriveSent { s2 with sent := [] }
      let addr : List (Nat × Nat × Nat) := here.map fun n => (clusterOf n, (s3.getSlot n).prio.toNat, (s3.getSlot n).recAddr.toNat)
      let ended := here.filter fun n => (s3.getSlot n).ended
      let les : Tbl Nat := ((here.map coreOf).eraseDups).foldl (fun t k => Tbl.set t k (s3.core k).le.length) []
      let s4 := here.foldl (fun t n =>
        let (w, u) := if g.cid.isSome then t.takeInbox here n else ([], t)
        (u.settleSlot n).stopFull n w false) s3
      let s5 := match g.cid with
        | some c => match Tbl.get? s4.compacts c with
          | some x => if (s4.allMembers x).all fun n => !(s4.getSlot n).occ || (s4.getSlot n).gone then s4.setCompact c { x with st := .stopped, phaseEnded := x.phaseEnded ++ ended, leWords := les }
            else s4.setCompact c { x with phaseEnded := x.phaseEnded ++ ended, leWords := les }
          | none => s4
        | none =>
          let keys : List (Nat × Nat) := (addr.map fun e : Nat × Nat × Nat => (e.1, e.2.1)).eraseDups
          keys.foldl (fun (t : State) (k : Nat × Nat) =>
            let recs : List Nat := (addr.filter fun e : Nat × Nat × Nat => e.1 == k.1 && e.2.1 == k.2).map fun e : Nat × Nat × Nat => e.2.2
            let q : QEnt := ⟨recs, true, t.time.ns⟩
            t.enqHead k.1 k.2 q) s4
      let l := g.land
      { s5 with gstops := s5.gstops.eraseIdx i }.landStatus l.slot l.reg l.recAddr l.ctx
        (statusWord (if g.part || !lost.isEmpty then 2 else 0) 0 (g.count + here.length))

/-! Unit loads, watches, hang (R131, R365, R136). -/

/-- Has a tile drained its vector, matrix, copy/stream and routing engine queues for a load (R131)? -/
def State.drained (s : State) (t : Nat) : Bool :=
  let x := s.tile t
  x.mxq.isEmpty && x.req.isEmpty && (List.range 4).all fun k =>
    let c := s.core (t * 4 + k)
    c.vq.isEmpty && c.ceq.isEmpty && c.pushes.isEmpty

/-- UNIT_LOAD (R131): with the tile's queues drained its configuration is loaded; the time that it took, at most 100,000 ns, is charged
to the next strand placed here. -/
def unitLoad (t : Nat) (s : State) : State :=
  let x := s.tile t
  match x.load with
  | none => s
  | some v =>
    if !s.drained t then s
    else
      let s1 := s.setScr t v
      s1.setTile t { s1.tile t with load := none, charge := min (s.time.ns - x.loadAt) 100000 }

/-- Does a boot tree keep R316: no tile twice, and every source a tile of the same cluster and role whose entry comes earlier? -/
def bootOk (l : List BootEnt) : Bool :=
  l.zipIdx.all fun e =>
    let before := l.take e.2
    decide (e.1.tile < 768) && !(before.any fun b => b.tile == e.1.tile) &&
      match e.1.src with
      | none => true
      | some t => before.any fun b => b.tile == t && b.tile / 48 == e.1.tile / 48 && b.image == e.1.image

/-- A tile of the boot tree takes its role image (R316, R315, R131): once its queues are drained, from memory, or forwarded by its
source tile after that tile's own load; its strand records are then placed in their slots. A tree that breaks R316 loads nothing. -/
def bootLoad (i : Nat) (s : State) : State :=
  match s.boot[i]? with
  | none => s
  | some e =>
    let t := e.tile
    let waits := match e.src with
      | some u => s.boot.any fun b => b.tile == u && !b.done
      | none => false
    if e.done || waits || !bootOk s.boot || !s.drained t || (s.tile t).held.isSome || (e.recs.any fun r => (s.getSlot (t * 16 + r.1)).occ) then s
    else
      let line (l : Nat) : BitVec 512 :=
        match e.src.bind fun u => Tbl.get? s.icache (lineKey u l) with
        | some v => v
        | none => BitVec.ofNat 512 (s.memRead (64 * l) 64)
      let old := s.icache.filter fun c => c.1 / 2 ^ 46 != t
      let l := s.boot.set i { e with done := true }
      let s1 := { s with icache := e.image.foldl (fun c l => Tbl.set c (lineKey t l) (line l)) old,
                         boot := if l.all BootEnt.done then [] else l }
      e.recs.foldl (fun u r => u.place (t * 16 + r.1) r.2) s1

/-- The word of a watch as it stands at a point (R365): a cluster's copy, or memory. -/
def State.watched (s : State) (pt : Nat) (w : Watch) : Nat :=
  let k := if w.wide then 8 else 4
  match (if pt < 16 then s.copy pt (lineOf w.pa) else none) with
  | some x => sliceBytes x.data (w.pa % 64) k
  | none => s.memRead w.pa k

/-- A PARKED record whose condition holds becomes READY, with its acquire (R137, R365): the read of the word raises the saved
LCLOCK. -/
def State.unpark (s : State) (c : Nat) (w : Watch) : State :=
  let k := s.cluster c
  let s1 := s.setCluster c { k with watch := k.watch.erase w }
  let s2 := match w.scope with
    | some sc => s1.acquireAt c sc fun _ => true
    | none => s1
  let ctx := (s2.recWord w.recAddr 2).toNat
  let s3 := if ctx ≠ 0 && !s2.coh.part && fld (s2.mem8 ctx) 47 40 == 1 then
      s2.memPut8 (ctx + 0x38) (tmax (s2.mem8 (ctx + 0x38)) (s2.home (lineOf w.pa)).wts)
    else s2
  ((s3.publish c).setRecState w.recAddr stREADY).requeue c (fld (s3.recWord w.recAddr 1) 6 4) w.recAddr

/-- WATCH_EVALUATE (R365): the watches of a cluster on a line, at every point where it has been written. -/
def watchEvaluate (c line : Nat) (s : State) : State :=
  if (Tbl.get? s.clines line).isSome then s
  else
    let pts := (List.range 17).filter fun p => s.touched.contains (lineKey (p * 16 + c) line)
    let s1 := { s with touched := s.touched.filter fun k => !(k % 2 ^ 46 == line && k / 2 ^ 46 % 16 == c) }
    pts.foldl (fun t p =>
      ((t.cluster c).watch.filter fun w => w.pa / 64 == line).foldl (fun u w =>
        if waitCond w.cond (u.watched p w) w.val.toNat then u.unpark c w else u) t) s1

/-- The awaited kind that the wait table lists for a wait (R135); 0: not listed. A parked access is kind 5
(R255); a fence, a RESP, a launch's increment and IDLE are not listed (R358, R456). -/
def Wait.kind : Wait → Nat
  | .barrier _ _ => 1 | .recv => 2 | .status => 3 | .sem _ => 4 | .mailbox | .fault => 5 | .expect => 6 | .full => 7
  | .none | .retry | .held _ | .home | .round | .launch | .idle _ => 0

/-- The awaited kind of a slot: one whose access is parked on a fault stays so while it tries again (R255, R257). -/
def Slot.kind (x : Slot) : Nat := if x.wait = .none && x.park.isSome then 5 else x.wait.kind

/-- Is an occupied slot blocked (R135)? A halted core's slots count as blocked (R453). -/
def State.blocked (s : State) (n : Nat) : Bool := (s.core (coreOf n)).halted || (s.getSlot n).gone || (s.getSlot n).kind != 0

/-- Entry `k` (tile · 4 + core) of cluster `c`'s wait table (R135): L, OCC, BLK, ASX and KIND of its core's slots. -/
def State.wtEntry (s : State) (c k : Nat) : Word64 :=
  let slot (j : Nat) : Nat := 4 * (192 * c + k) + j
  let bits (f : Nat → Bool) : Nat := ((List.range 4).map fun j => if f j then 2 ^ j else 0).sum
  let occ (j : Nat) : Bool := (s.getSlot (slot j)).occ
  let blk (j : Nat) : Bool := occ j && s.blocked (slot j)
  let kind (j : Nat) : Nat :=
    if !blk j || (s.core (192 * c + k)).halted || (s.getSlot (slot j)).gone then 0 else (s.getSlot (slot j)).kind
  let asx (j : Nat) : Nat := if occ j then (s.getSlot (slot j)).asx.toNat else 0
  let listed := (List.range 4).any occ && (List.range 4).all fun j => !occ j || blk j
  BitVec.ofNat 64 (listed.toNat * 2 ^ 63 + bits occ * 2 ^ 59 + bits blk * 2 ^ 55 +
    ((List.range 4).map fun j => asx j * 2 ^ (39 + 4 * j)).sum + ((List.range 4).map fun j => kind j * 2 ^ (27 + 3 * j)).sum)

/-- Does cluster `c` hold strands of an address space (R114)? -/
def State.holdsAsid (s : State) (a : BitVec 16) (c : Nat) : Bool := ((s.cluster c).asxOf a).isSome

/-- Is a message or an engine command of an address space in flight in cluster `c` (R136)? A tile's request at its cluster home counts for
every address space with a strand there (notes/assumptions 117). -/
def State.trafficIn (s : State) (a : BitVec 16) (c : Nat) : Bool :=
  let mine (n : Nat) (b : BitVec 16) : Bool := clusterOf n == c && b == a
  let cmd (q : Cmd) : Bool := q.asid == a && clusterOf q.slot == c
  s.fab.out.any (fun q => mine q.slot q.asid) || s.sent.any (fun m => mine m.slot m.asid) || s.landings.any (fun l => mine l.slot l.asid) ||
    s.treqs.any (fun q => q.tile / 48 == c && (s.occupied q.tile).any fun n => s.asidOf n == a) ||
    s.cores.any (fun e => e.2.ceq.any cmd || e.2.pushes.any cmd) || s.tiles.any (fun t => t.2.mxq.any cmd || t.2.req.any cmd) ||
    s.msaq.any (fun q => match q.who with
      | .slot n _ => mine n (s.asidOf n)
      | .remote _ => false) ||
    s.scq.any (fun n => mine n (s.asidOf n)) ||
    s.tiles.any fun t => t.1 / 48 == c && (t.2.held.map fun m => !(m.send.isEmpty && m.fly.isEmpty) && ((Tbl.get? s.compacts m.cid.toNat).map fun x => x.asid == a).getD false).getD false

/-- Has an address space in cluster `c` a slot that is not blocked, a READY or PREEMPTED record, or an unplaced port entry (R136)? -/
def State.liveIn (s : State) (a : BitVec 16) (c : Nat) : Bool :=
  s.slots.any (fun e => !isTsc e.1 && e.2.occ && clusterOf e.1 == c && s.asidOf e.1 == a && !s.blocked e.1) ||
    (s.cluster c).queues.toList.any (fun q => q.any fun e => e.recs.any fun r =>
      match (s.cluster c).asids[fld (s.recWord r 7) 3 0]? with
      | some (some x) => x.asid == a
      | _ => false) ||
    s.ports.any fun p => p.2.asid == a && p.2.ents.any fun e => !e.placed && e.cluster == c

/-- The quiescence bit of an address space in cluster `c` (R136). -/
def State.quietBit (s : State) (a : BitVec 16) (c : Nat) : Bool :=
  !s.liveIn a c && !s.trafficIn a c && decide (Tbl.get s.quiet (c * 2 ^ 16 + a.toNat) 0 + 4096 ≤ s.time.cyc)

/-- Are the bits of every cluster that holds strands of an address space set together, with no HANG delivered since (R136)? -/
def State.hanging (s : State) (a : BitVec 16) : Bool :=
  let l := (List.range 16).filter (s.holdsAsid a)
  !l.isEmpty && l.all (s.quietBit a) && !s.hung.contains a.toNat

/-- HANG_DETECT (R136): one HANG to the designated strand. -/
def hangDetect (a : BitVec 16) (s : State) : State :=
  if !s.hanging a then s
  else
    let s1 := { s with hung := insertNat a.toNat s.hung }
    match Tbl.get? s.desig a.toNat with
    | none => s1
    | some r =>
      match s1.slots.find? fun e => e.2.occ && e.2.recAddr.toNat == r with
      | some (n, x) => s1.putSlot n { x with lh := true }
      | none =>
        match s1.clusters.find? fun c => c.2.watch.any (fun w => w.recAddr == r) || c.2.suspended.contains r with
        | none => s1
        | some (k, c) =>
          let s2 := s1.setCluster k { c with watch := c.watch.filter fun w => w.recAddr != r,
                                             suspended := c.suspended.filter (· != r) }
          let s3 := { s2 with hangs := insertNat r s2.hangs }
          ((s3.publish k).setRecState r stREADY).requeue k (fld (s3.recWord r 1) 6 4) r

/-! A slot's own moves (R330, R456, R148). -/

/-- ASYNC_TRAP_TAKE (R330): at the next instruction boundary, MSG_OVERFLOW before HANG. -/
def asyncTrapTake (n : Nat) (s : State) : State :=
  let x := s.getSlot n
  if !x.occ || x.gone || x.wait == .launch || !s.accessFree n then s
  else match x.lm with
    | some c => (s.putSlot n { x with lm := none }).enterTrap n .msgOverflow c.toNat true x.pc
    | none => if x.lh then (s.putSlot n { x with lh := false }).enterTrap n .hang (s.asidOf n).toNat true x.pc else s

/-- IDLE_WAKE (R456): its 4,096 cycles have passed. -/
def idleWake (n : Nat) (s : State) : State :=
  let x := s.getSlot n
  match x.wait with
  | .idle till => if till ≤ s.time.cyc then s.putSlot n { x with wait := .none } else s
  | _ => s

/-- The first write in flight of a slot, in landing order, that is due at a phase cycle. -/
def Slot.dueWrite (x : Slot) (cycle : Nat) : Option Late :=
  x.late.foldl (fun b e => if cycle < e.due then b else match b with
    | none => some e
    | some y => if y.before e then some y else some e) none

/-- The writes of a slot that are due at a phase cycle land, earliest first; `k` bounds them. -/
def State.landDue (s : State) (n cycle : Nat) : Nat → State
  | 0 => s
  | k + 1 =>
    match (s.getSlot n).dueWrite cycle with
    | some e => State.landDue ((s.modSlot n fun x => { x with late := x.late.erase e }).landLate n e) n cycle k
    | none => s

/-- DEBUG_RESUME (R453). -/
def debugResume (v : Word32) (s : State) : State :=
  let k := fld v 11 0
  let c := s.core k
  if bit v 31 && k < 3072 && c.halted then s.setCore k { c with halted := false } else s

/-! The arbiter of the vector queues (R153-R155). -/

/-- The weight of core `k` of a tile. -/
def Tile.weight (t : Tile) (k : Nat) : Int := fld t.vweight (4 * k + 3) (4 * k)

/-- One choice among the waiting cores (R153): the core, and the tile's cores and pointer after. -/
def State.vChoose (s : State) (t : Nat) (wt : List Nat) : Nat × State :=
  let x := s.tile t
  let core (s : State) (k : Nat) : Core := s.core (coreAt t k)
  let pw := wt.filter fun k => decide (0 < x.weight k)
  if pw.isEmpty then
    let c := (((List.range 4).map fun i => (x.zptr + 1 + i) % 4).find? fun k => wt.contains k).getD 0
    (c, s.setTile t { x with zptr := c })
  else
    let s1 := pw.foldl (fun u k => u.setCore (coreAt t k) { core u k with acc := (core u k).acc + x.weight k }) s
    let c := pw.foldl (fun b k => if (core s1 b).acc < (core s1 k).acc then k else b) (pw.headD 0)
    let sum := (pw.map x.weight).foldl (· + ·) 0
    (c, s1.setCore (coreAt t c) { core s1 c with acc := (core s1 c).acc - sum })

/-- The head of a core's vector queue bound: it leaves the queue, whose credit is 0 while empty (R153). -/
def State.vBind (s : State) (t k : Nat) : State :=
  let c := s.core (coreAt t k)
  let q := c.vq.drop 1
  s.setCore (coreAt t k) { c with vq := q, acc := if q.isEmpty then 0 else c.acc }

/-- The lane groups that are free in the arbiter's present cycle (R152). -/
def Tile.freeLanes (x : Tile) : List Nat := (List.range 4).filter fun g => decide ((x.lanes[g]?).getD 0 ≤ x.vcyc)

/-- The choices of one cycle (R153): to all four groups for 1 beat when they are free and one core waits alone, else to the
lowest-numbered free group for 4 beats; `n` bounds them. -/
def State.vCycle (s : State) (t : Nat) (bound : List Nat) : Nat → State
  | 0 => s
  | n + 1 =>
    let wt := (List.range 4).filter fun k => !bound.contains k && !(s.core (coreAt t k)).vq.isEmpty
    match (s.tile t).freeLanes with
    | [] => s
    | g :: r =>
      if wt.isEmpty then s
      else
        let (c, s1) := s.vChoose t wt
        let x := s1.tile t
        let lanes := if r.length = 3 && wt.length = 1 then Vector.replicate 4 (x.vcyc + 1) else x.lanes.setIfInBounds g (x.vcyc + 4)
        State.vCycle ((s1.setTile t { x with lanes := lanes }).vBind t c) t (c :: bound) n

/-- VECTOR_BIND (R153): one arbiter cycle of a tile; slots that wait for a place in a queue try again. A TSC has one core and binds
alone. -/
def vectorBind (t : Nat) (s : State) : State :=
  let s1 := if t < 768 then s.vCycle t [] 4 else if (s.core (coreAt t 0)).vq.isEmpty then s else s.vBind t 0
  (s1.setTile t { s1.tile t with vcyc := (s1.tile t).vcyc + 1 }).wakeFull t

/-- STRAND_PLACE (R124). -/
def execStrandPlace (c : Nat) (s : State) : Host.Outcome State Fault Refusal := event s (strandPlace c)
/-- GANG_AGED (R125). -/
def execGangAged (c : Nat) (a : BitVec 48) (s : State) : Host.Outcome State Fault Refusal := event s (gangAged c a)
/-- QUANTUM_EXPIRY (R129). -/
def execQuantumExpiry (n : Nat) (s : State) : Host.Outcome State Fault Refusal := event s (quantumExpiry n)
/-- PREEMPT_STOP (R130). -/
def execPreemptStop (n : Nat) (s : State) : Host.Outcome State Fault Refusal := event s (preemptStop n)
/-- GANG_STOP_DRAIN (R133). -/
def execGangStopDrain (i : Nat) (s : State) : Host.Outcome State Fault Refusal := event s (gangStopDrain i)
/-- UNIT_LOAD (R131). -/
def execUnitLoad (t : Nat) (s : State) : Host.Outcome State Fault Refusal := event s (unitLoad t)
/-- WATCH_EVALUATE (R365). -/
def execWatchEvaluate (c l : Nat) (s : State) : Host.Outcome State Fault Refusal := event s (watchEvaluate c l)
/-- HANG_DETECT (R136). -/
def execHangDetect (a : BitVec 16) (s : State) : Host.Outcome State Fault Refusal := event s (hangDetect a)
/-- ASYNC_TRAP_TAKE (R330); in compact mode only the slot's own turn takes it. -/
def execAsyncTrapTake (n : Nat) (s : State) : Host.Outcome State Fault Refusal :=
  event s fun s => if s.compactAt n then s else asyncTrapTake n s
/-- IDLE_WAKE (R456). -/
def execIdleWake (n : Nat) (s : State) : Host.Outcome State Fault Refusal := event s (idleWake n)
/-- DEBUG_RESUME (R453). -/
def execDebugResume (v : Word32) (s : State) : Host.Outcome State Fault Refusal := event s fun s => s.fromHost (debugResume v)
/-- VECTOR_BIND (R153). -/
def execVectorBind (t : Nat) (s : State) : Host.Outcome State Fault Refusal := event s (vectorBind t)

end Sys2Proof.Machine
end

