-- ==== Sys2Proof/Machine/Agents.lean ====
section
/-! DEFINITION. The moves of a tile's own units and of the network: compacts, the matrix unit, the engines, streams, status words,
messages, words that are no instruction (07 R159-R168, 08 R178-R191, 14 R327, 16 R370, 17 R402). -/

namespace Sys2Proof.Machine
open Sys2Proof

/-! The matrix unit and the engines. -/

/-- Is a command's start due: at once in free mode; in its compact once phase cycle `at0` is over, so that it sees what that cycle
issued and landed (R159, R419)? -/
def State.cmdDue (s : State) (c : Cmd) (at0 : Nat) : Bool :=
  if s.compactAt c.slot then
    match (s.tile (tileOf c.slot)).held.bind fun m => Tbl.get? s.compacts m.cid.toNat with
    | some x => s.phasePast x at0
    | none => true
  else true

/-- Is a command due, where an increment of a semaphore comes before what the cores do in its phase cycle (R162)? -/
def State.semDue (s : State) (c : Cmd) (at0 : Nat) : Bool :=
  if c.op = 0x2CA && s.compactAt c.slot then
    match (s.tile (tileOf c.slot)).held.bind fun m => Tbl.get? s.compacts m.cid.toNat with
    | some x => ((s.phaseNow x).map fun y => decide (at0 ≤ y)).getD true
    | none => true
  else s.cmdDue c at0

/-- The phase cycle at which the head of the MX queue starts: a semaphore operation only once every earlier result is readable
(R417). -/
def Tile.mxStart (t : Tile) (c : Cmd) : Nat :=
  let a := max c.start t.mxFree
  if c.op = 0x2CA || c.op = 0x2CB then max a t.mxReady else a

/-- MX_OP_START (R159). -/
def mxMove (t : Nat) (s : State) : State :=
  match (s.tile t).mxq with
  | [] => s
  | c :: _ =>
    if s.engWaits (t * 8 + 5) c || !s.semDue c ((s.tile t).mxStart c) then s else mxOpStart t s

/-- May the CE work on the head of queue `k` of a tile? -/
def State.ceGo (s : State) (t k : Nat) : Bool :=
  match (s.core (coreAt t k)).ceq with
  | [] => false
  | c :: _ => !s.engWaits (t * 8 + k) c && !s.semStuck t (t * 8 + k) c && s.semDue c (s.ceStart t k c)

/-- The CE takes the queues round-robin in core order (R168, R419): the queue whose head starts next. In compact mode it runs one
command at a time, and a command begun goes on. -/
def State.ceTurn (s : State) (t : Nat) : Option Nat :=
  let l := (List.range 4).map fun i => ((s.tile t).ceLast + 1 + i) % 4
  let begun (k : Nat) : Bool := ((s.core (coreAt t k)).ceq.head?.map Cmd.begun).getD false
  match (if (s.tile t).held.isSome then l.find? begun else none) with
  | some k => if s.ceGo t k then some k else none
  | none => l.find? fun k => !begun k && s.ceGo t k

/-- The tiles of the row of tile `t`, from the one after that its routing engine served last (R143, R169). -/
def State.rowFrom (s : State) (t : Nat) : List Nat :=
  let r := t % 48 / 12
  let last := (((s.cluster (clusterOfTile t)).reLast)[r]?).getD 0
  (List.range 12).map fun i => t / 48 * 48 + 12 * r + (last + 1 + i) % 12

/-- The tile of a row whose routing queue's head starts next (R169). -/
def State.reTurn (s : State) (t : Nat) : Option Nat :=
  (s.rowFrom t).find? fun u => match (s.tile u).req with
    | [] => false
    | c :: _ => !c.begun && !s.engWaits (u * 8 + 4) c

/-- ENGINE_COMMAND_START (R168, R169, R419): a command begun goes on; another starts when the round comes to its queue. A TSC's one queue
has no others beside it. -/
def engineMove (t queue : Nat) (s : State) : State :=
  let q := queue % 5
  match s.queueOf (t * 8 + q) with
  | [] => s
  | c :: _ =>
    let go := if q = 4 then c.begun || t ≥ 768 || s.reTurn t == some t
      else if t ≥ 768 then s.semDue c (s.ceStart t q c)
      else if c.begun && (s.tile t).held.isNone then true else s.ceTurn t == some q
    if go then engineCommandStart t queue s else s

/-- SEMAPHORE_WAIT_COMPLETE (R161): a strand in compact mode takes the semaphore itself, its core stalled on the instruction
(R146, R162). -/
def semaphoreMove (t i : Nat) (s : State) : State :=
  match s.semReady t i with
  | some e => if e.who < 2 ^ 20 && s.compactAt e.who then s else semaphoreWaitComplete t i s
  | none => s

/-- A move repeated while it changes the count that `f` reads; `k` bounds it. -/
def State.repeatWhile (go : State → Bool) (move : State → State) (s : State) : Nat → State
  | 0 => s
  | k + 1 => if go s then State.repeatWhile go move (move s) k else s

/-- May the head of a tile's MX queue start (R159)? -/
def State.mxGo (s : State) (t : Nat) : Bool :=
  match (s.tile t).mxq with
  | [] => false
  | c :: _ => !s.engWaits (t * 8 + 5) c && !s.semStuck t (t * 8 + 5) c && s.semDue c ((s.tile t).mxStart c)

/-- The units of a tile of a compact up to the present phase cycle: the MX, the CE and the send buffer (R159, R419, R184). -/
def State.tileCatch (s : State) (t : Nat) : State :=
  let s1 := State.repeatWhile (fun u => u.mxGo t) (mxMove t) s 4096
  let s2 := State.repeatWhile (fun u => (u.ceTurn t).isSome) (fun u => engineMove t ((u.ceTurn t).getD 0) u) s1 4096
  (List.range (((s2.tile t).held.map fun m => 2 * m.send.length + m.fly.length).getD 0)).foldl (fun u _ => xferUnitLand t u) s2

/-! Compacts. -/

/-- The GSTOPs that were held during a signing, applied at superstep 0 (R193). -/
def State.applyHeldStops (s : State) (cid : BitVec 16) : State :=
  match Tbl.get? s.compacts cid.toNat with
  | none => s
  | some c =>
    if !c.stopPending then s
    else
      let s1 := s.setCompact cid.toNat { c with stopPending := false }
      s1.gstops.zipIdx.foldl (fun t e =>
        if e.1.cid = some cid.toNat && e.1.slots.isEmpty then
          let run := { t with cur := e.1.land.slot }.gangSlots e.1.sc e.1.cid 0
          let g : GangStop := { e.1 with slots := run }
          { t.askStop run with gstops := t.gstops.set e.2 g }
        else t) s1

/-- What a boundary of compact `cid` gives a read parked at these lines: those of the compact as the tile stores hold them, lost ones
poisoned (R190, R191). -/
def State.snapshots (s : State) (cid : BitVec 16) (ls : List Nat) : List Served :=
  ls.filterMap fun l => match Tbl.get? s.clines l with
    | some c =>
      if c.cid ≠ cid then none
      else if s.ring.gone.contains (c.tile / 192) then some ⟨l, BitVec.allOnes 512, true⟩
      else some ⟨l, BitVec.ofNat 512 (s.tsRead c.tile c.off 64), s.tsPoison.contains (c.tile * 2 ^ 14 + c.off / 64)⟩
    | none => none

/-- The lines of a parked read that no boundary has given it yet. -/
def State.stillHeld (s : State) (ls : List Nat) (got : List Served) : List Nat :=
  ls.filter fun l => (Tbl.get? s.clines l).isSome && !got.any fun v => v.line == l

/-- A parked command given what a boundary brings. -/
def State.serveCmd (s : State) (cid : BitVec 16) (c : Cmd) : Cmd :=
  let got := c.served ++ s.snapshots cid c.home
  { c with served := got, home := s.stillHeld c.home got }

/-- A parked read-ahead given what a boundary brings. -/
def State.serveStream (s : State) (cid : BitVec 16) (b : Stream) : Stream :=
  let got := b.served ++ s.snapshots cid b.home
  { b with served := got, home := s.stillHeld b.home got }

/-- A slot's parked load, and its streams', given what a boundary brings. -/
def State.serveSlot (s : State) (cid : BitVec 16) (x : Slot) : Slot :=
  let x := if x.streams.all fun b => (b.map fun b => b.home.isEmpty).getD true then x
    else { x with streams := x.streams.map fun b => b.map (s.serveStream cid) }
  match x.wait with
  | .held ls =>
    let got := x.served ++ s.snapshots cid ls
    let still := s.stillHeld ls got
    { x with served := got, wait := if still.isEmpty then .none else .held still }
  | _ => x

/-- The queues with work: tile · 8 + (0-3 CE, 4 RE, 5 MX). -/
def State.busyQueues (s : State) : List Nat :=
  (s.cores.filter fun e => !e.2.ceq.isEmpty).map (fun e => if e.1 < 3072 then e.1 / 4 * 8 + e.1 % 4 else (768 + (e.1 - 3072)) * 8) ++
    (s.tiles.filter fun e => !e.2.req.isEmpty).map (fun e => e.1 * 8 + 4) ++
    (s.tiles.filter fun e => !e.2.mxq.isEmpty).map (fun e => e.1 * 8 + 5)

/-- The reads parked at homes of a compact's lines are served at its boundary (R190): they take the bytes there, and their strands and
engines go on with them. -/
def State.serveParked (s : State) (cid : BitVec 16) : State :=
  let s1 := s.busyQueues.foldl (fun t q => match t.queueOf q with
    | c :: r => if c.home.isEmpty then t else t.setQueueOf q (s.serveCmd cid c :: r)
    | [] => t) s
  { s1 with slots := s1.slots.map fun e => (e.1, s.serveSlot cid e.2) }

/-- What a boundary of a compact serves, before its next superstep begins or its lines return (R190, R243): the parked reads of this
package, of other packages and of the host. -/
def State.serveBoundary (s : State) (cid : BitVec 16) : State := ((s.serveParked cid).serveRemote cid).serveOuter cid

/-- SUPERSTEP_START (R178, R193): superstep 0; a pending CDISS dissolves the compact at once. -/
def startSuperstep (cid : BitVec 16) (s : State) : State :=
  match Tbl.get? s.compacts cid.toNat with
  | some c =>
    if c.st = .signing then
      let s1 := superstepStart cid s
      match Tbl.get? s1.compacts cid.toNat with
      | some c1 =>
        if c1.st ≠ .running then s1
        else if c1.diss then dissolve cid c1 (s1.serveBoundary cid)
        else ((s1.serveBoundary cid).handHeld cid).applyHeldStops cid
      | none => s1
    else s
  | none => s

/-- Every TS write of a compact's superstep lands: what its tiles' units still hold is done, the stores of MST in flight with it, before a
boundary serves a read and before the lines return (R190, R191). -/
def State.landTs (s : State) (c : Compact) : State :=
  let s1 := ((s.locals c).map fun e => e.1.tile).foldl State.tileCatch s
  (s1.allMembers c).foldl (fun t n => t.landWhere n fun e => match e.w with
    | .ts _ _ => true
    | _ => false) s1

/-- COMPACT_BARRIER_RELEASE (R185), with what it serves. -/
def releaseBarrier (cid : BitVec 16) (s : State) : State :=
  match Tbl.get? s.compacts cid.toNat with
  | none => s
  | some c =>
    let ready := c.st == .running && s.allArrived c && s.countsMet c && s.sendsPast c && (s.podWait cid c).isNone
    if ready then (compactBarrierRelease cid ((s.landTs c).serveBoundary cid)).handHeld cid else compactBarrierRelease cid s

/-- COMPACT_DISSOLVE (R191), with what it serves. -/
def dissolveMove (cid : BitVec 16) (s : State) : State :=
  match Tbl.get? s.compacts cid.toNat with
  | none => s
  | some c =>
    if s.dissolvable c then compactDissolve cid ((s.landTs c).serveBoundary cid) else s

/-! Messages. -/

/-- MESSAGE_ARRIVE (R370): the oldest message of one sending tile under way to a tile arrives, and its sender's status word lands:
DELIVERED, OVERFLOW or BADTILE. Messages from several tiles come in either order (R204); one behind a pennant waits until the tile's die has entered the
next round (R138). -/
def messageArrive (t : Nat) (s : State) : State :=
  let mine := s.sent.filter fun e => e.tile == t && s.reaches e.rnd (t / 192)
  let srcs := (mine.map fun e => tileOf e.slot).eraseDups
  let (v, s) := if srcs.length < 2 then (0, s) else s.freeVal
  match mine.find? fun e => tileOf e.slot == srcs.getD (v.toNat % max srcs.length 1) 0 with
  | none => s
  | some e => { s with sent := s.sent.erase e }.arriveSent e

/-- The trap of a word that is no instruction (R327, R329). -/
def rejectTrap : Reject → Trap
  | .zeroWord => .zeroWord
  | .illegalOp => .illegalOp
  | .reserved => .reserved

/-- SUPERSTEP_START (R178). -/
def execSuperstepStart (c : BitVec 16) (s : State) : Host.Outcome State Fault Refusal := event s (startSuperstep c)
/-- SIGNING_WAIT_EXPIRY (R178). -/
def execSigningWaitExpiry (c : BitVec 16) (s : State) : Host.Outcome State Fault Refusal := event s (signingWaitExpiry c)
/-- HOLD_ANNOUNCE (R186). -/
def execHoldAnnounce (c : BitVec 16) (k : Nat) (s : State) : Host.Outcome State Fault Refusal := event s (holdAnnounce c k)
/-- XFER_UNIT_LAND (R184). -/
def execXferUnitLand (t : Nat) (s : State) : Host.Outcome State Fault Refusal := event s (xferUnitLand t)
/-- COMPACT_BARRIER_RELEASE (R185). -/
def execCompactBarrierRelease (c : BitVec 16) (s : State) : Host.Outcome State Fault Refusal := event s (releaseBarrier c)
/-- TRANSFER_DEADLINE_EXPIRY (R189). -/
def execTransferDeadlineExpiry (c : BitVec 16) (s : State) : Host.Outcome State Fault Refusal := event s (transferDeadlineExpiry c)
/-- COMPACT_DISSOLVE (R191). -/
def execCompactDissolve (c : BitVec 16) (s : State) : Host.Outcome State Fault Refusal := event s (dissolveMove c)
/-- MX_OP_START (R159). -/
def execMxOpStart (t : Nat) (s : State) : Host.Outcome State Fault Refusal := event s (mxMove t)
/-- SEMAPHORE_WAIT_COMPLETE (R161). -/
def execSemaphoreWaitComplete (t i : Nat) (s : State) : Host.Outcome State Fault Refusal := event s (semaphoreMove t i)
/-- ENGINE_COMMAND_START (R168). -/
def execEngineCommandStart (t q : Nat) (s : State) : Host.Outcome State Fault Refusal := event s (engineMove t q)
/-- STREAM_READAHEAD (R402). -/
def execStreamReadahead (n r : Nat) (s : State) : Host.Outcome State Fault Refusal := event s (streamReadahead n r)
/-- ENGINE_STATUS_LAND (R140). -/
def execEngineStatusLand (i : Nat) (s : State) : Host.Outcome State Fault Refusal := event s (engineStatusLand i)
/-- MESSAGE_ARRIVE (R370). -/
def execMessageArrive (t : Nat) (s : State) : Host.Outcome State Fault Refusal := event s (messageArrive t)
/-- WORD_NOT_INSTRUCTION (R327): the current slot's word takes its trap. -/
def execWordNotInstruction (r : Reject) (s : State) : Host.Outcome State Fault Refusal := event s fun s => s.takeTrap (rejectTrap r) 0

end Sys2Proof.Machine
end

