-- ==== Sys2Proof/Machine/Faults.lean ====
section
/-! DEFINITION. Parked accesses and the coherent translation caches: retries, replies, invalidation rounds, registrations
(11_translation R255-R263). -/

namespace Sys2Proof.Machine
open Sys2Proof

/-! Retries and replies (R256, R257). -/

/-- Is a parked access's retry due (R257)? -/
def Park.ready (p : Park) (s : State) : Bool := decide (p.due ≤ s.time.cyc)

/-- The head of a queue, parked for the strand of slot `n`, tried again. -/
def State.retryQueue (s : State) (n q : Nat) : State :=
  match s.queueOf q with
  | [] => s
  | c :: _ =>
    match c.park with
    | some p => if c.slot = n && p.ready s then engRun q s else s
    | none => s

/-- The streams and the oldest push of slot `n` tried again. -/
def State.retryStreams (s : State) (n : Nat) : State :=
  let s1 := [12, 13, 14, 15].foldl (fun t r =>
    match (t.getSlot n).stream r with
    | some b => match b.park with
      | some p => if p.ready t then streamFetch n r b t else t
      | none => t
    | none => t) s
  match (s1.core (coreOf n)).pushes with
  | c :: _ => match c.park with
    | some p => if c.slot = n && p.ready s1 then pushStep (coreOf n) (tileOf n) s1 else s1
    | none => s1
  | [] => s1

/-- The queue of the CE that serves slot `n`. -/
def ceQueue (n : Nat) : Nat := tileOf n * 8 + (if isTsc n then 0 else coreOf n % 4)

/-- FAULT_RETRY (R257, R495): the access parked at a slot (ENG 0, 3), at an engine for it (1, 2), or at a launch port (4) tries
again once its back-off is over. -/
def faultRetry (n : Nat) (eng : BitVec 4) (s : State) : State :=
  match eng.toNat with
  | 1 => (s.retryQueue n (ceQueue n)).retryStreams n
  | 2 => s.retryQueue n (tileOf n * 8 + 4)
  | 4 =>
    match (s.lp n).ents.find? fun e => ((e.park.map fun p => p.ready s).getD false) with
    | some e => s.portAccess n e
    | none => s
  | k =>
    let x := s.getSlot n
    match x.park with
    | some p => if x.wait = .fault && p.eng = k && p.ready s then s.putSlot n { x with wait := .none } else s
    | none => s

/-- A parked access after the verdict of a reply (R256): none when the reply is not for it. -/
def Park.answer (p : Park) (word : Word64) : Option Park :=
  if !p.out || p.tag.toNat ≠ fld word 29 0 then none
  else if fld word 63 56 = 1 then some { p with out := false, deny := true }
  else some { p with out := false, tries := 0, due := 0 }

/-- A reply at the head of a queue. -/
def State.answerQueue (s : State) (n q : Nat) (word : Word64) : State :=
  match s.queueOf q with
  | [] => s
  | c :: r =>
    match (if c.slot = n then c.park.bind fun p => p.answer word else none) with
    | some p => s.setQueueOf q ({ c with park := some p } :: r)
    | none => s

/-- A reply at the streams and pushes of a slot. -/
def State.answerStreams (s : State) (n : Nat) (word : Word64) : State :=
  let f (b : Option Stream) : Option Stream := b.map fun b => match b.park.bind fun p => p.answer word with
    | some p => { b with park := some p }
    | none => b
  let s1 := s.modSlot n fun x => { x with streams := x.streams.map f }
  let k := s1.core (coreOf n)
  match k.pushes with
  | c :: r =>
    match (if c.slot = n then c.park.bind fun p => p.answer word else none) with
    | some p => s1.setCore (coreOf n) { k with pushes := { c with park := some p } :: r }
    | none => s1
  | [] => s1

/-- FAULT_REPLY (R256): a reply that MBXPOST sent reaches the parked access; RETRY tries again at once, DENY ends the next retry. -/
def faultReply (n : Nat) (eng : BitVec 4) (word : Word64) (s : State) : State :=
  if !s.xl.replies.contains (n, eng, word) then s
  else
    let s := { s with xl := { s.xl with replies := s.xl.replies.erase (n, eng, word) } }
    let s1 := match eng.toNat with
      | 1 => (s.answerQueue n (ceQueue n) word).answerStreams n word
      | 2 => s.answerQueue n (tileOf n * 8 + 4) word
      | 4 =>
        match (s.lp n).ents.find? fun e => ((e.park.bind fun p => p.answer word).isSome) with
        | some e => s.setEnt n { e with park := e.park.bind fun p => p.answer word }
        | none => s
      | k =>
        let x := s.getSlot n
        match (if x.occ then x.park else none) with
        | some p => if p.eng = k then (match p.answer word with
          | some q => s.putSlot n { x with park := some q }
          | none => s) else s
        | none => s
    if fld word 63 56 = 1 then s1 else faultRetry n eng s1

/-! Invalidation rounds (R260-R263). -/

/-- A page-table line replaced. -/
def State.setPtLine (s : State) (line : Nat) (p : PtLine) : State := { s with xl := { s.xl with ptl := Tbl.set s.xl.ptl line p } }

/-- The die of a translation cache. -/
def dieOfCache (c : Nat) : Nat := clusterOfTile c / 4

/-- PT_INVALIDATE (R262 step 3): a holder's cache removes every entry that derives from the line. A holder on a suspected die
does not answer: its takeover removes it (R264). -/
def ptInvalidate (c line : Nat) (s : State) : State :=
  match Tbl.get? s.xl.ptl line with
  | some p =>
    if p.waiting.contains c && !s.ring.suspect.contains (dieOfCache c) then
      let q : PtLine := { p with waiting := p.waiting.erase c, removed := insertNat c p.removed }
      (s.setCache c ((s.cache c).filter fun e => e.ptLine != line)).setPtLine line q
    else s
  | none => s

/-- PT_INVALIDATE_ACK (R262 steps 4 and 5): once the accesses through removed entries are performed, the cache leaves the holder
vector, unless it has been registered anew. -/
def ptInvalidateAck (c line : Nat) (s : State) : State :=
  match Tbl.get? s.xl.ptl line with
  | some p =>
    if p.removed.contains c && !s.cacheBusy c then
      let again := (s.cache c).any fun e => e.valid && e.ptLine == line
      let q : PtLine := { p with removed := p.removed.erase c, holders := if again then p.holders else p.holders.erase c }
      (s.setPtLine line q).dropPt line
    else s
  | none => s

/-- The responses to remote stores whose rounds are over go out (R262). -/
def State.sendAcks (s : State) : State :=
  let ready (a : PtAck) : Bool := !a.lines.any s.ptBusy
  let rest := s.xl.acks.filter fun a => !ready a
  (s.xl.acks.filter ready).foldl (fun t a => t.respond a.h a.status.toNat a.data) { s with xl := { s.xl with acks := rest } }

/-- The dissolutions that have waited for the round of their join word's line end (R191, R262). -/
def State.endDissolved (s : State) : State :=
  (s.compacts.filter fun e => s.dissolved e.1 e.2).foldl (fun t e => t.endCompact e.1 e.2) s

/-- PT_STORE_COMPLETE (R262): every holder has answered, and the storing strands go on. -/
def ptStoreComplete (line : Nat) (s : State) : State :=
  match Tbl.get? s.xl.ptl line with
  | some p =>
    if p.waiting.isEmpty && p.removed.isEmpty then
      let s1 := p.storers.foldl (fun t n => t.modSlot n fun x => if x.wait = .round then { x with wait := .none } else x) s
      ((s1.setPtLine line { p with storers := [] }).dropPt line).sendAcks.endDissolved
    else s
  | none => s.sendAcks.endDissolved

/-- A translation cache out of every holder vector: no answer is awaited from it (R263, R220). -/
def State.leaveHolders (s : State) (c : Nat) : State :=
  (s.xl.ptl.map Prod.fst).foldl (fun t line =>
    match Tbl.get? t.xl.ptl line with
    | some p =>
      let q : PtLine := { p with waiting := p.waiting.filter (· != c), removed := p.removed.filter (· != c),
                                 holders := p.holders.filter (· != c) }
      (t.setPtLine line q).dropPt line
    | none => t) s

/-- TILE_POWER_GATE (R263): the tile's translation cache is flushed and leaves the holder vectors. -/
def tilePowerGate (t : Nat) (s : State) : State := (s.setCache t []).leaveHolders t

/-- REGISTRATION_ACKNOWLEDGED (R261): the oldest TLBWR of the slot completes with its status. -/
def registrationAcknowledged (n : Nat) (s : State) : State :=
  match s.tlbRegs.find? fun l => l.slot == n with
  | some l => { s with tlbRegs := s.tlbRegs.erase l }.landStatus l.slot l.reg l.recAddr l.ctx l.val
  | none => s

/-- FAULT_RETRY (R257). -/
def execFaultRetry (n : Nat) (e : BitVec 4) (s : State) : Host.Outcome State Fault Refusal := event s (faultRetry n e)
/-- FAULT_REPLY (R256). -/
def execFaultReply (n : Nat) (e : BitVec 4) (w : Word64) (s : State) : Host.Outcome State Fault Refusal := event s (faultReply n e w)
/-- PT_INVALIDATE (R262). -/
def execPtInvalidate (c l : Nat) (s : State) : Host.Outcome State Fault Refusal := event s (ptInvalidate c l)
/-- PT_INVALIDATE_ACK (R262). -/
def execPtInvalidateAck (c l : Nat) (s : State) : Host.Outcome State Fault Refusal := event s (ptInvalidateAck c l)
/-- PT_STORE_COMPLETE (R262). -/
def execPtStoreComplete (l : Nat) (s : State) : Host.Outcome State Fault Refusal := event s (ptStoreComplete l)
/-- TILE_POWER_GATE (R263). -/
def execTilePowerGate (t : Nat) (s : State) : Host.Outcome State Fault Refusal := event s (tilePowerGate t)
/-- REGISTRATION_ACKNOWLEDGED (R261). -/
def execRegistrationAcknowledged (n : Nat) (s : State) : Host.Outcome State Fault Refusal := event s (registrationAcknowledged n)

end Sys2Proof.Machine
end

