-- ==== Sys2Proof/Machine/Loss.lean ====
section
/-! DEFINITION. Lost links between dies and lost dies (06_strands R140, R141, 09_coherence R219-R220, 04 R87, 08 R193). -/

namespace Sys2Proof.Machine
open Sys2Proof

/-! Records that end FAULTED. -/

/-- The strand of slot `n` leaves it and its record is written FAULTED (R140, R141); a compact's member counts as arrived (R193,
R185). -/
def State.loseSlot (s : State) (n : Nat) : State :=
  let x := s.getSlot n
  let s1 := s.endRecord (clusterOf n) x.asx.toNat x.recAddr.toNat stFAULTED (s.asidOf n)
  if s.compactAt n then
    (if x.arrived then s1 else s1.noteArrival n).modSlot n fun x => { x with gone := true, arrived := true, wait := .none, park := none }
  else s1.freeSlot n

/-- The ASID of a record of cluster `c`, by its ASX (R114). -/
def State.recAsid (s : State) (c a : Nat) : BitVec 16 :=
  match (s.cluster c).asids[fld (s.recWord a 7) 3 0]? with
  | some (some e) => e.asid
  | _ => 0

/-- Queued records of cluster `c` among `recs` leave the run queues and are written FAULTED (R140, R141). -/
def State.loseQueued (s : State) (c : Nat) (recs : List Nat) : State :=
  let hit := ((List.range 8).flatMap fun q => (s.queue c q).flatMap QEnt.recs).filter recs.contains
  let s1 := (List.range 8).foldl (fun t q =>
    let l := t.queue c q
    if (l.flatMap QEnt.recs).any recs.contains then
      t.setQueue c q ((l.map fun e => { e with recs := e.recs.filter fun a => !recs.contains a }).filter fun e => !e.recs.isEmpty)
    else t) s
  hit.foldl (fun t a => t.endRecord c (fld (t.recWord a 7) 3 0) a stFAULTED (t.recAsid c a)) s1

/-- The launches with members that have not ended, by port. -/
def State.launches (s : State) : List (Nat × Launch) :=
  s.ports.flatMap fun e => (e.2.live.filter fun l => !l.2.live.isEmpty).map fun l => (e.1, l.2)

/-- LAUNCH_END of a launch (R90, R91): the range of its members that have not retired, and how many have. -/
def State.raiseEnd (s : State) (p : Nat) (l : Launch) (status : Nat) : State :=
  let l := (Tbl.get? (s.lp p).live (l.seq.toNat % 256)).getD l
  let left := l.dead.foldl (fun a i => insertNat i a) l.live
  s.raise (launchEnd p status l.seq (left.headD 0) (left.getLast?.getD 0) (l.m - left.length) s.time.ns)

/-- The records that a cluster's SD holds: running in its slots, queued, parked with a watch, suspended (R112). -/
def State.recordsOf (s : State) (c : Nat) : List Nat :=
  (s.slots.filter fun e => e.2.occ && !isTsc e.1 && clusterOf e.1 == c).map (fun e => e.2.recAddr.toNat) ++
    ((List.range 8).flatMap fun q => (s.queue c q).flatMap QEnt.recs) ++ (s.cluster c).watch.map Watch.recAddr ++ (s.cluster c).suspended

/-- Parked and suspended records of cluster `c` among `recs` leave the SD and are written FAULTED (R91, R141). -/
def State.loseWaiting (s : State) (c : Nat) (recs : List Nat) : State :=
  let k := s.cluster c
  let hit := (k.watch.map Watch.recAddr ++ k.suspended).filter recs.contains
  let s1 := s.setCluster c { k with watch := k.watch.filter fun w => !recs.contains w.recAddr,
                                    suspended := k.suspended.filter fun a => !recs.contains a }
  hit.foldl (fun t a => t.endRecord c (fld (t.recWord a 7) 3 0) a stFAULTED (t.recAsid c a)) s1

/-! The ring of die-to-die links (R13, R141). -/

/-- The dies that link `l` joins. -/
def linkDies (l : Nat) : Nat × Nat := if l = 0 then (0, 1) else if l = 1 then (1, 3) else if l = 2 then (3, 2) else (2, 0)

/-- The dies reached from `d` over the links that stand. -/
def reached (down : List Nat) (d : Nat) : List Nat :=
  let grow (l : List Nat) : List Nat := (List.range 4).foldl (fun a k =>
    let (x, y) := linkDies k
    if down.contains k then a else if a.contains x then insertNat y a else if a.contains y then insertNat x a else a) l
  grow (grow (grow [d]))

/-- A unit that ends as one: a launch or a gang with its cluster and its records. -/
structure Crew where
  cluster : Nat
  recs : List Nat
  launch : Option (Nat × Launch)

/-- The gangs that SPAWNG made: by cluster, ASID and gang identifier, all the records that the cluster's SD holds (R114, R141). -/
def State.gangs (s : State) : List Crew :=
  (List.range 16).flatMap fun c =>
    let recs := (s.recordsOf c).filter fun a => bit (s.recWord a 1) 11 && !bit (s.recWord a 1) 10
    let key (a : Nat) : BitVec 16 × Nat := (s.recAsid c a, fld (s.recWord a 1) 63 32)
    ((recs.map key).eraseDups).map fun k => ⟨c, recs.filter fun a => key a == k, none⟩

/-- The launches that run, with the cluster of their members. -/
def State.runningLaunches (s : State) : List Crew :=
  s.launches.filterMap fun e =>
    let recs := e.2.live.map fun i => e.2.base + 64 * i
    ((List.range 16).find? fun c => (s.recordsOf c).any recs.contains).map fun c => ⟨c, recs, some e⟩

/-- The physical addresses on which a unit rests: its live records, context blocks and join words (R141). -/
def State.crewHomes (s : State) (c : Crew) : List Nat :=
  let live := c.recs.filter fun a => s.recState a != stDONE && s.recState a != stFAULTED
  live.flatMap fun a =>
    let ctx := (s.recWord a 2).toNat
    let join := (s.recWord a 6).toNat
    let j := if join = 0 then [] else match s.lookupIn c.cluster (s.recAsid c.cluster a).toNat join .atomic with
      | .here pa _ _ => [pa]
      | _ => []
    a :: (if ctx = 0 then [] else [ctx]) ++ j

/-- Is a unit cut from one of its homes? -/
def State.crewCut (s : State) (c : Crew) : Bool :=
  let ok := reached s.ring.down (c.cluster / 4)
  (s.crewHomes c).any fun pa => isHbm pa && !ok.contains (pa / stackSize / 2)

/-- A cut unit ends (R141): its members leave their slots and queues, their records FAULTED; a launch raises LAUNCH_END with
LINK_LOST. -/
def State.endCrew (s : State) (c : Crew) : State :=
  let run := (s.slots.filter fun e => e.2.occ && !isTsc e.1 && c.recs.contains e.2.recAddr.toNat).map Prod.fst
  let s1 := ((run.foldl State.loseSlot s).loseQueued c.cluster c.recs).loseWaiting c.cluster c.recs
  match c.launch with
  | some l => s1.raiseEnd l.1 l.2 1
  | none => s1

/-- D2D_LINK_FAILURE (R141). -/
def d2dLinkFailure (link : Nat) (s : State) : State :=
  let s1 := { s with ring := { s.ring with down := insertNat link s.ring.down } }
  let s2 := (s1.runningLaunches.filter s1.crewCut).foldl State.endCrew s1
  (s2.gangs.filter s2.crewCut).foldl State.endCrew s2

/-! Lost dies (R220). -/

/-- DIE_SUSPECT (R220). -/
def dieSuspect (d : Nat) (s : State) : State := { s with ring := { s.ring with suspect := insertNat d s.ring.suspect } }

/-- Step 1 of R220: the FAIL bits of the die's clusters, stacks, groups and ports in one update, and what their failure does (R47,
R65). -/
def State.failDie (s : State) (d : Nat) : State :=
  let fs := (List.range 4).map (fun i => Func.clu (4 * d + i)) ++ [.hbm (2 * d), .hbm (2 * d + 1)] ++
    (List.range 4).map (fun i => .sds (4 * d + i)) ++ (List.range 4).map fun i => .opt (4 * d + i)
  let s1 := s.setFail fs
  let s2 := (List.range 4).foldl (fun t i => if (t.group (4 * d + i)).st = .failed then t else t.failGroup (4 * d + i)) s1
  (List.range 4).foldl (fun t i => t.failPort (4 * d + i)) s2

/-- Steps 2 and 3 for a line that a lost cluster owns (R220): with a mirror entry the mirror cluster owns it, without one it is
poisoned if its home survives. -/
def State.rescueLine (s : State) (d line : Nat) : State :=
  let k := 4 * buddyOf d + line % 4
  let h := s.home line
  if s.coh.mirror.any fun m => m.line == line && some m.src == h.owner then
    ((s.unmirror line).setHome line { h with owner := some k }).setDir k line none
  else if 64 * line / stackSize / 2 = d then s.setHome line { h with owner := none }
  else (s.setPoison line).setHome line { h with owner := none }

/-- Steps 2 to 4 of R220. In partitioned mode a lost cluster's dirty mirrored lines pass to the mirror slice. -/
def State.rescueLines (s : State) (d : Nat) : State :=
  let mine (c : Nat) : Bool := c / 4 == d
  let owned := (s.coh.home.filter fun e => (e.2.owner.map mine).getD false).map Prod.fst
  let s1 := owned.foldl (fun t l => t.rescueLine d l) s
  let s2 := (s1.coh.mirror.filter fun m => mine m.src).foldl (fun t m =>
    let k := 4 * buddyOf d + m.line % 4
    let x := t.filled k m.line
    (t.setCopy k m.line { x with data := blend x.data m.data m.mask, dirty := x.dirty ||| m.mask }).unmirrorOf m.src m.line) s1
  let copies : Tbl CopyLine := s2.coh.copies.filter fun e => !mine (e.1 / 2 ^ 46)
  let dir : Tbl DirEnt := s2.coh.dir.filter fun e => !mine (e.1 / 2 ^ 46)
  let coh : Coh := { s2.coh with copies := copies, dir := dir, tcache := s2.coh.tcache.filter fun e => e.1 / 192 != d,
                                 l1d := s2.coh.l1d.filter fun e => e.1 / 768 != d }
  { s2 with coh := coh, treqs := s2.treqs.filter fun r => r.tile / 192 != d,
            tabs := s2.tabs.filter fun e => e.1 / 48 != d }

/-- A compact of which a member's die is lost (R193). Signing ends with FAILED and MEM; a running one is STALLED: the members that
wait at its barrier take COMPACT_TIMEOUT, the others at their next SSTEP. -/
def State.loseMember (s : State) (d cid : Nat) : State :=
  match Tbl.get? s.compacts cid with
  | none => s
  | some c =>
    match (s.locals c).find? fun e => e.1.tile / 192 == d with
    | none => s
    | some e =>
      match c.st with
      | .signing => s.failSigning cid c e.2
      | .running =>
        let s1 := (s.allMembers c).foldl (fun t n =>
          let x := t.getSlot n
          if x.occ && !x.gone && x.wait == .expect then
            ((t.putSlot n { x with arrived := false }).enterTrap n .compactTimeout (c.step % 2 ^ 32) false x.pc).markTout (tileOf n)
          else t) s
        s1.setCompact cid { c with st := .stalled }
      | _ => s

/-- The strands of a lost die (R140, R220 step 6): every RUNNING and every queued record FAULTED; its TSCs stop; its watches are
gone with their SDs. -/
def State.loseStrands (s : State) (d : Nat) : State :=
  let run := (s.slots.filter fun e => e.2.occ && !e.2.gone && !isTsc e.1 && dieOf e.1 == d).map Prod.fst
  let s1 := run.foldl State.loseSlot s
  (List.range 4).foldl (fun t i =>
    let c := 4 * d + i
    let t1 := t.loseQueued c ((List.range 8).flatMap fun q => (t.queue c q).flatMap QEnt.recs)
    (t1.setCluster c { t1.cluster c with watch := [], resvs := [] }).putSlot (slotCount + c) Slot.reset) s1

/-- Does the buddy's DC confirm the loss of die `d` (R220): in service and not frozen, or itself lost, and no bring-up pending for
the die's functions (R26)? -/
def State.confirms (s : State) (d : Nat) : Bool :=
  s.bringUpOk (.clu (4 * d)) && (s.acting (1 + buddyOf d) || s.ring.gone.contains (buddyOf d))

/-- DIE_TAKEOVER (R220): the loss of a suspected die confirmed and its takeover. -/
def dieTakeover (d : Nat) (s : State) : State :=
  if !s.ring.suspect.contains d || s.ring.gone.contains d || !s.confirms d then s
  else
    let s1 := { s with ring := { s.ring with suspect := s.ring.suspect.filter (· != d), gone := insertNat d s.ring.gone } }
    let hit := s1.runningLaunches.filter fun l => l.cluster / 4 == d
    let s2 := (s1.failDie d).rescueLines d
    let s3 := (hit.foldl (fun t l => t.loseWaiting l.cluster l.recs) s2).loseStrands d
    let s4 := (s3.compacts.map Prod.fst).foldl (fun t c => t.loseMember d c) s3
    let s5 := hit.foldl (fun t l => match l.launch with
      | some e => t.raiseEnd e.1 e.2 2
      | none => t) s4
    let s6 := (List.range 4).foldl (fun t i => t.reassignAll (4 * d + i)) s5
    let caches := (List.range 192).map (fun i => 192 * d + i) ++ (List.range 4).map fun i => 768 + 4 * d + i
    let s7 := caches.foldl (fun t c => (t.setCache c []).leaveHolders c) s6
    let ours := ctlDie s7.nmc.uctl == some d
    let s8 := if s7.nmc.st != .idle && ours then s7.endUpdate 3 (s7.running s7.nmc.uctl).ver s7.newVer else s7
    if s8.ring.gone.contains (buddyOf d) then s8.declareFatal 2 else s8

/-- D2D_LINK_FAILURE (R141). -/
def execD2dLinkFailure (l : Nat) (s : State) : Host.Outcome State Fault Refusal := event s (d2dLinkFailure l)
/-- DIE_SUSPECT (R220). -/
def execDieSuspect (d : Nat) (s : State) : Host.Outcome State Fault Refusal := event s (dieSuspect d)
/-- DIE_TAKEOVER (R220). -/
def execDieTakeover (d : Nat) (s : State) : Host.Outcome State Fault Refusal := event s (dieTakeover d)

end Sys2Proof.Machine
end

