-- ==== Sys2Proof/Machine/Registers.lean ====
section
/-! DEFINITION. The BAR0 register map (04_host R72, R74, R76, R88, 01 R24, 03 R59, 05 R96, 19 R453). -/

namespace Sys2Proof.Machine
open Sys2Proof

/-- A write into the NMC register block (R96, R453), which takes an NMC in service (R24). -/
def State.writeNmc (s : State) (o k : Nat) (v : Word64) : State :=
  let n := s.nmc
  let w : Word32 := v.setWidth 32
  if !s.serves 0 then s
  else if k = 8 then
    if o = 0x200 then { s with nmc := { n with upaddr := v &&& 0xFFFFFFFFFFFC0 } }
    else if o = 0x218 then { s with nmc := { n with attaddr := v } }
    else if 0x220 ≤ o && o < 0x240 then
      let l : List Word64 := n.nonce.set ((o - 0x220) / 8) v
      { s with nmc := { n with nonce := l } }
    else if o = 0x248 then { s with nmc := { n with dumphost := v } }
    else s
  else if o = 0x208 then updateGo w s
  else if o = 0x240 then (if bit w 31 then { s with nmc := { n with quotes := n.quotes + 1 } } else s)
  else if o = 0x300 then debugResume w s
  else s

/-- A write into a launch port's registers (R76, R77). -/
def State.writePort (s : State) (p o k : Nat) (v : Word64) : State :=
  let x := s.lp p
  let idle := !x.en && x.head == x.acc
  if k = 8 then
    if o = 0x00 then (if idle then s.setLp p { x with base := v &&& 0xFFFFFFFFFC000 } else s)
    else if o = 0x08 then (if idle then s.setLp p { x with mbase := v &&& 0xFFFFFFF000000 } else s)
    else if o = 0x10 then lpcfgWrite p v s
    else s
  else if o = 0x18 then lptailWrite p (v.setWidth 32) s
  else s

/-- A write into a SerDes group's registers (R59, R60, R70). -/
def State.writeGroup (s : State) (g o k : Nat) (v : Word64) : State :=
  let x := s.group g
  if k = 4 then (if o = 0 then switchGo g (v.setWidth 32) s else s)
  else if 0x100 ≤ o && o < 0x180 then
    let i := (o - 0x100) / 16
    let w : Word64 × Word64 := x.wins.getD i (0, 0)
    let w' : Word64 × Word64 := if o % 16 = 0 then ((w.1 &&& 0x8000000000000000) ||| (v &&& 0x700FFFFFFF000000), w.2)
      else (w.1, v &&& 0xFFFFFFFF03FF0000)
    if x.st = .ready && bit w.1 63 then s else s.setGroup g { x with wins := x.wins.set i w' }
  else if 0x200 ≤ o && o < 0x240 then
    let m : BitVec 512 := Tbl.get s.uepkg g 0
    { s with uepkg := Tbl.set s.uepkg g (setFld m (8 * (o - 0x200)) 64 v.toNat) }
  else s

/-- A write into the event queue's registers (R88). -/
def State.writeEvq (s : State) (o k : Nat) (v : Word64) : State :=
  if k = 8 then (if o = 0 && !s.evq.en then { s with evq := { s.evq with base := v &&& 0xFFFFFFFFFF000 } } else s)
  else if o = 0x08 then eqctlWrite (v.setWidth 32) s
  else if o = 0x10 then eqheadWrite (v.setWidth 32) s
  else s

/-- REGISTER_WRITE (R72): a write to a BAR0 offset; outside the registers, and with another width, it is ignored. After the cut of a fatal
dump only the event queue still takes writes (R107, R108). -/
def registerWrite (o k : Nat) (v : Word64) (s : State) : State :=
  if o % k ≠ 0 || (s.nmc.cut.isSome && !(decide (0x30000 ≤ o) && decide (o < 0x31000))) then s
  else if o < 0x10000 then s.writeNmc o k v
  else if o < 0x20000 then s
  else if o < 0x21000 then s.writePort ((o - 0x20000) / 64) (o % 64) k v
  else if 0x30000 ≤ o && o < 0x31000 then s.writeEvq (o - 0x30000) k v
  else if 0x200000 ≤ o && o < 0x210000 then s.writeGroup ((o - 0x200000) / 0x1000) (o % 0x1000) k v
  else s

/-- STATE's code (R96). -/
def UpSt.code : UpSt → Nat
  | .idle => 0 | .stage => 1 | .waithp => 2 | .freeze => 3 | .start => 4 | .commit => 5 | .rollback => 6

/-- A read of the NMC register block (R24, R28, R95, R96, R453). -/
def State.readNmc (s : State) (o k : Nat) : Word64 :=
  let n := s.nmc
  if k = 8 then
    if o = 0x200 then n.upaddr else if o = 0x210 then n.act.setWidth 64 else if o = 0x218 then n.attaddr
    else if 0x220 ≤ o && o < 0x240 then n.nonce.getD ((o - 0x220) / 8) 0
    else if o = 0x248 then n.dumphost
    else if 0x600 ≤ o && o < 0x700 then n.kept.getD ((o - 0x600) / 8) 0
    else if 0x800 ≤ o && o < 0x948 then Tbl.get n.floors ((o - 0x800) / 8) 0
    else 0
  else if k ≠ 4 then 0
  else if 0x100 ≤ o && o < 0x110 then BitVec.ofNat 64 (fld s.rdy (8 * (o - 0x100) + 31) (8 * (o - 0x100)))
  else if 0x110 ≤ o && o < 0x120 then BitVec.ofNat 64 (fld s.fail (8 * (o - 0x110) + 31) (8 * (o - 0x110)))
  else if o = 0x120 then s.rdygen.setWidth 64
  else if o = 0x208 then BitVec.ofNat 64 (n.ctl * 2 ^ 16 + n.wd)
  else if o = 0x20C then BitVec.ofNat 64 (n.st.code * 2 ^ 28 + n.uctl * 2 ^ 22 + n.result * 2 ^ 8 + n.upgen.toNat)
  else if o = 0x244 then n.attgen.setWidth 64
  else if 0x400 ≤ o && o < 0x580 then
    BitVec.ofNat 64 ((List.range 32).foldl (fun a i => a + (s.core (8 * (o - 0x400) + i)).halted.toNat * 2 ^ i) 0)
  else 0

/-- A read of BAR0 (R72, R74, R76, R88, R51, R59, R70): it changes no state, and answers zero for another width or alignment than the
register's. -/
def State.bar0Read (s : State) (o k : Nat) : Word64 :=
  if o % k ≠ 0 then 0
  else if o < 0x10000 then s.readNmc o k
  else if o < 0x20000 then (if k = 4 && (o - 0x10000) / 4 < 6192 then (Tbl.get s.therm.words ((o - 0x10000) / 4) 0).setWidth 64 else 0)
  else if o < 0x21000 then
    let x := s.lp ((o - 0x20000) / 64)
    match o % 64, k with
    | 0x00, 8 => x.base
    | 0x08, 8 => x.mbase
    | 0x10, 8 => x.cfg
    | 0x18, 4 => x.tail.setWidth 64
    | 0x1C, 4 => x.acc.setWidth 64
    | 0x20, 4 => x.head.setWidth 64
    | 0x24, 4 => x.stat.setWidth 64
    | 0x28, 8 => s.lpbnd ((o - 0x20000) / 64) x
    | _, _ => 0
  else if 0x30000 ≤ o && o < 0x31000 then
    match o - 0x30000, k with
    | 0x00, 8 => s.evq.base
    | 0x08, 4 => BitVec.ofNat 64 (s.evq.en.toNat * 2 ^ 31 + s.evq.int.toNat * 2 ^ 30 + s.evq.log2n.toNat)
    | 0x0C, 4 => s.evq.tail.setWidth 64
    | 0x10, 4 => s.evq.head.setWidth 64
    | 0x14, 4 => s.evq.lost.setWidth 64
    | _, _ => 0
  else if 0x101000 ≤ o && o < 0x102000 then (if k = 8 then Tbl.get s.fab.dbt ((o - 0x101000) / 8) 0 else 0)
  else if 0x200000 ≤ o && o < 0x210000 then
    let g := (o - 0x200000) / 0x1000
    let x := s.group g
    let r := o % 0x1000
    if r = 0 && k = 4 then BitVec.ofNat 64 x.gswc
    else if r = 4 && k = 4 then BitVec.ofNat 64 x.gstat
    else if r = 8 && k = 8 then x.gbnd
    else if 0x100 ≤ r && r < 0x180 && k = 8 then
      let w : Word64 × Word64 := x.wins.getD ((r - 0x100) / 16) (0, 0)
      if r % 16 = 0 then w.1 else w.2
    else if 0x200 ≤ r && r < 0x240 && k = 8 then
      let m : BitVec 512 := Tbl.get s.uepkg g 0
      BitVec.ofNat 64 (fld m (8 * (r - 0x200) + 63) (8 * (r - 0x200)))
    else 0
  else 0

/-- REGISTER_WRITE (R72). -/
def execRegisterWrite (o k : Nat) (v : Word64) (s : State) : Host.Outcome State Fault Refusal := event s fun s => s.fromHost (registerWrite o k v)

end Sys2Proof.Machine
end

