-- ==== Sys2Proof/Machine/Issue.lean ====
section
/-! DEFINITION. The issue of instructions: fetch (13 R297, R306, 11 R253), readiness and rotation of a core's slots (07
R144-R148), and the cycles of a compact (08 R180-R186). One turn of a core is one cycle of it. -/

namespace Sys2Proof.Machine
open Sys2Proof

/-! Fetch. -/

/-- What a fetch gives: the word, with the state after; or the state of a slot that traps, parks or waits instead. -/
inductive Fetched where
  | word (w : BitVec 96) (s : State)
  | stop (s : State)

/-- The line at a fetch address and what stands in its way (R297, R306, R329 orders 10 and 11). -/
inductive FetchLine where
  | line (v : BitVec 512) (s : State)
  | stop (s : State)

/-- The bytes of a line as a fetch of cluster `c` gets them. -/
def State.fetchData (s : State) (c line : Nat) : BitVec 512 :=
  match (if s.partLine line then s.copy c line else none) with
  | some x => x.data
  | none => s.memLine line

/-- The line that holds virtual address `va`, fetched for slot `n`: from the tile's L1 instruction cache, or through its cluster
and kept there. -/
def State.fetchLine (s : State) (n va : Nat) : FetchLine :=
  let x := s.getSlot n
  let trap (t : Trap) : FetchLine := .stop (s.enterTrap n t va false x.pc)
  let s0 := s
  if x.denied .fetch va then trap .prot
  else match s.xlate n va .fetch with
    | .fault k => if isTsc n then trap .prot else .stop (s.parkAt n k .fetch va)
    | .unbacked => trap .prot
    | .far _ _ => trap .prot
    | .here pa unc _ =>
      let l := lineOf pa
      let key := tileOf n * 2 ^ 46 + l
      let s := s0.passed n va .fetch s
      -- a page with MT 1 is served at its home (R249)
      let keep (v : BitVec 512) : FetchLine := .line v (if unc then s else { s with icache := Tbl.set s.icache key v })
      match (if unc then none else Tbl.get? s.icache key) with
      | some v => .line v s
      | none =>
        match x.servedLine l with
        | some v => if v.bad then trap .poison else .line v.data s
        | none =>
          if (Tbl.get? s.clines l).isSome then .stop (s.modSlot n fun x => { x with wait := .held [l] })
          else if s.meetsPoison (clusterOf n) l then trap .poison
          else keep (s.fetchData (clusterOf n) l)

/-- The word at a free-mode slot's pc (R297): it may cross a line. -/
def State.fetchFree (s : State) (n : Nat) : Fetched :=
  let x := s.getSlot n
  let pc := x.pc.toNat
  if pc % 12 ≠ 0 then .stop (s.enterTrap n .align (pc % 2 ^ 48) false x.pc)
  else match s.fetchLine n pc with
    | .stop t => .stop t
    | .line v t =>
      let k := min 12 (64 - pc % 64)
      let lo := sliceBytes v (pc % 64) k
      if k = 12 then .word (BitVec.ofNat 96 lo) t
      else match t.fetchLine n (pc + k) with
        | .stop u => .stop u
        | .line v2 u => .word (BitVec.ofNat 96 (lo + sliceBytes v2 0 (12 - k) <<< (8 * k))) u

/-- The word at a compact member's pc: from the locked role image; outside it there is none to fetch (R178, R181). -/
def State.fetchImage (s : State) (n : Nat) : Fetched :=
  let x := s.getSlot n
  let entry := (((s.tile (tileOf n)).held.bind fun m =>
    (Tbl.get? s.compacts m.cid.toNat).bind fun c => c.mems[m.idx]?).map fun d => d.entry.toNat).getD 0
  let img := ((s.tile (tileOf n)).held.map Member.img).getD []
  let pc := x.pc.toNat
  if pc % 12 ≠ 0 then .stop (s.enterTrap n .align (pc % 2 ^ 48) false x.pc)
  else if pc < entry || entry + img.length < pc + 12 then .stop (s.enterTrap n .prot 0 false x.pc)
  else .word (wordOfBytes (img.drop (pc - entry))) s

/-- The fetch of a slot's next instruction. -/
def State.fetch (s : State) (n : Nat) : Fetched := if s.compactAt n then s.fetchImage n else s.fetchFree n

/-! Register interlocks of free mode (R145). -/

/-- The s-registers that a field names. -/
def fieldS : Operand → List Nat
  | .reg c _ k => if c = 0 then [k.toNat] else []
  | .mem b _ => [b.toNat]
  | _ => []
/-- The v-registers that a field names. -/
def fieldV : Operand → List Nat
  | .reg c _ k => if c = 2 then [k.toNat] else []
  | _ => []
/-- The t-registers that a field names. -/
def fieldT : Operand → List Nat
  | .reg c _ k => if c = 4 then [k.toNat] else []
  | _ => []

/-- The s-registers of an instruction beside those its fields name: the higher ones of a group. -/
def groupS : Instr → List Nat
  | .copy2d w => [num w.a + 1, num w.b + 1]
  | .rld w | .ratom w => [num w.d + 1]
  | .tlbwr w => [num w.a + 1, num w.a + 2]
  | .tlbrd w => [num w.d + 1, num w.d + 2]
  | .mbxwait w => [num w.d + 1, num w.d + 2, num w.d + 3]
  | _ => []
/-- The v-registers of a vector pair. -/
def groupV : Instr → List Nat
  | .mmac w | .mmacr w => (fieldV w.a).map (· + 1)
  | _ => []

/-- Has no register of the instruction a write outstanding or a queued use (R145)? -/
def Slot.regsFree (x : Slot) (i : Instr) : Bool :=
  match Forms.fieldsOf i with
  | none => true
  | some w =>
    (fieldS w.d ++ fieldS w.a ++ fieldS w.b ++ groupS i).all (fun k => !bit x.busyS k) &&
      (fieldV w.d ++ fieldV w.a ++ fieldV w.b ++ groupV i).all (fun k => !bit x.busyV k) &&
      (fieldT w.d ++ fieldT w.a ++ fieldT w.b).all (fun k => !bit x.busyT k)

/-- Does an instruction read or write FFLAGS? -/
def usesFlags : Instr → Bool
  | .mfs w => num w.a == 4
  | .mts w => num w.d == 4
  | _ => false

/-- Has every flag-setting operation that the slot's strand has queued landed, if the instruction names FFLAGS (R287)? MCVT and MSCALE
alone wait in a queue in free mode. -/
def State.flagsFree (s : State) (n : Nat) (i : Instr) : Bool :=
  !usesFlags i || !(s.tile (tileOf n)).mxq.any fun c => c.slot == n && c.recAddr == (s.getSlot n).recAddr && (c.op == 0x2C7 || c.op == 0x2C8)

/-! Which slot issues (R144-R147). -/

/-- Does a slot wait for nothing but what it can see itself? -/
def State.awake (s : State) (n : Nat) : Bool :=
  match (s.getSlot n).wait with
  | .none | .retry | .status => true
  | .mailbox => !(s.cluster (clusterOf n)).mailbox.isEmpty
  | _ => false

/-- Can a free-mode slot issue, its registers and stall count apart: occupied, not blocked, not asked to stop, its core not halted
and its tile not loading (R145, R453, R131, R99)? -/
def State.able (s : State) (n : Nat) : Bool :=
  let x := s.getSlot n
  x.occ && !x.gone && s.awake n && (x.stop == .none || x.sentUnits != 0 || x.reply.isSome) && !(s.core (coreOf n)).halted &&
    (s.tile (tileOf n)).load.isNone && (!isTsc n || s.acting (5 + clusterOf n))

/-- Is an asynchronous trap latched that the slot can take now (R330)? -/
def State.trapDue (s : State) (n : Nat) : Bool :=
  let x := s.getSlot n
  x.occ && !x.gone && x.wait != .launch && (x.lm.isSome || x.lh) && s.accessFree n

/-- Is the slot ready (R145)? -/
def State.slotReady (s : State) (n : Nat) : Bool :=
  s.able n && decide ((s.getSlot n).stall ≤ (s.core (coreOf n)).cycle) &&
    (s.trapDue n || match s.fetch n with
      | .word w _ => match decodeWord w with
        | .ok i => (s.getSlot n).regsFree i && s.flagsFree n i
        | .error _ => true
      | .stop _ => true)

/-- The slots of a core. -/
def slotsOf (k : Nat) : List Nat := if k < 3072 then (List.range 4).map (4 * k + ·) else [slotCount + (k - 3072)]

/-- A slot's number within its core. -/
def laneOfSlot (n : Nat) : Nat := if isTsc n then 0 else n % 4

/-- The slot of core `k` that issues in this cycle (R145, R147): the first ready one in cyclic order after the slot that issued
last; one that has yielded only when every slot it gave way to has issued or is not ready. A slot whose parked read has been
served comes first (R190). -/
def State.chosen (s : State) (k : Nat) : Option Nat :=
  let l := slotsOf k
  let ready := ((List.range l.length).map fun i => l.getD (((s.core k).last + 1 + i) % l.length) 0).filter s.slotReady
  match ready.find? fun n => !(s.getSlot n).served.isEmpty with
  | some n => some n
  | none => ready.find? fun n => ready.all fun m => m == n || !bit (s.getSlot n).yielded (laneOfSlot m)

/-- Slot `n` takes the turn of its core: it is the current slot, and those that gave way to it no longer do (R147). -/
def State.takeTurn (s : State) (n : Nat) : State :=
  let s1 := (slotsOf (coreOf n)).foldl (fun t m =>
    let y := t.getSlot m
    if y.yielded = 0 then t else t.putSlot m { y with yielded := setBit y.yielded (laneOfSlot n) false }) s
  { s1 with cur := n }.setCore (coreOf n) { s1.core (coreOf n) with last := laneOfSlot n }

/-- The cycle of a core is over. -/
def State.endCycle (s : State) (k : Nat) : State := s.setCore k { s.core k with cycle := (s.core k).cycle + 1 }

/-! Compact mode (R146, R148, R180). -/

/-- The compact whose member strand holds slot `n`, with its identifier. -/
def State.compactOf (s : State) (n : Nat) : Option (BitVec 16 × Compact) :=
  if s.compactAt n then (s.tile (tileOf n)).held.bind fun m => (Tbl.get? s.compacts m.cid.toNat).map fun c => (m.cid, c) else none

/-- A compact brought to its present phase cycle: first what its units did in the cycles before, then the writes that land in this
one (R148, R149). -/
def State.catchUp (s : State) (c : Compact) : State :=
  let s1 := ((s.locals c).map fun e => e.1.tile).foldl State.tileCatch s
  match s1.phaseNow c with
  | none => s1
  | some x => (s1.allMembers c).foldl (fun t n => t.landDue n x (t.getSlot n).late.length) s1

/-- WRITE_LANDS (R148): the writes of slot `n`'s compact that are due by its present phase cycle. -/
def writeLands (n : Nat) (s : State) : State :=
  match s.compactOf n with
  | some (_, c) => s.catchUp c
  | none => s

/-- The slot of a core of a compact whose turn its rotation gives (R146). -/
def State.turnSlot (s : State) (k : Nat) : Nat :=
  let n := 4 * k + ((s.core k).last + 1)
  if (s.core k).last + 1 < s.rotation (4 * k) then n else 4 * k

/-- Is the next instruction of a compact's core a wait on a semaphore? An increment of its cycle is applied first (R162). -/
def State.waitsSem (s : State) (k : Nat) : Bool :=
  let n := s.turnSlot k
  (s.getSlot n).occ && match s.fetchImage n with
    | .word w _ => match decodeWord w with
      | .ok (.semwait w) => Forms.oth2 (mods w.d) == 0
      | _ => false
    | .stop _ => false

/-- The core of a compact that takes the next cycle: the first among those that are least advanced. -/
def State.nextCore (s : State) (c : Compact) : Option Nat :=
  match s.phaseNow c with
  | none => none
  | some x =>
    let l := ((s.allMembers c).filter fun n => s.inPhase n && (s.core (coreOf n)).cycle == x).map coreOf
    (l.find? fun k => !s.waitsSem k).orElse fun _ => l.head?

/-- Does the turn of a slot of a compact yield no instruction: the slot empty, gone, asked to stop, at the barrier, inside its stall
count (R146), or after a taken transfer (R344)? -/
def State.emptyTurn (s : State) (n : Nat) : Bool :=
  let x := s.getSlot n
  !x.occ || x.gone || (x.stop != .none && x.sentUnits == 0) || x.wait == .expect || x.skip || decide ((s.core (coreOf n)).cycle < x.stall)

/-! A turn. -/

/-- What a turn of a core comes to: nothing more (the state after), or a word that the current slot executes. -/
inductive TurnOut where
  | quiet (s : State)
  | word (w : BitVec 96) (s : State)

/-- The current slot meets its instruction boundary: a latched trap is taken there, else its word is fetched (R330, R297). -/
def State.meet (s : State) : TurnOut :=
  let n := s.cur
  if s.trapDue n then .quiet (asyncTrapTake n s)
  else
    let s1 := s.modSlot n fun x => { x with wait := .none }
    match s1.fetch n with
    | .word w t => .word w t
    | .stop t => .quiet t

/-- The turn of core `k` in free mode. -/
def State.freeTurn (s : State) (k : Nat) : TurnOut :=
  match s.chosen k with
  | none => .quiet (s.endCycle k)
  | some n =>
    match (s.takeTurn n).meet with
    | .quiet t => .quiet (t.endCycle k)
    | r => r

/-- One cycle of the least advanced core of a compact. -/
def State.compactTurn (s : State) (c : Compact) : TurnOut :=
  let s1 := s.catchUp c
  match s1.nextCore c with
  | none => .quiet s1
  | some k =>
    let n := s1.turnSlot k
    let lane (t : State) : State := t.setCore k { t.core k with last := n % 4 }
    if s1.emptyTurn n then .quiet ((lane (s1.modSlot n fun x => { x with skip := false })).endCycle k)
    else
      match { s1 with cur := n }.meet with
      | .quiet t => .quiet ((lane t).endCycle k)
      | r => r

/-- Is the part stopped: while L2 switches its mode, or after the cut of a fatal dump (R201, R107)? -/
def State.stopped (s : State) : Bool := !s.l2sw.isEmpty || s.nmc.cut.isSome

/-- The turn of the core of slot `n`; of its compact's least advanced core in compact mode. -/
def State.turn (s : State) (n : Nat) : TurnOut :=
  if s.stopped then .quiet s
  else match s.compactOf n with
    | some (_, c) => s.compactTurn c
    | none => s.freeTurn (coreOf n)

/-- A turn in which the current slot executed an instruction is over: in compact mode the rotation moves on unless the slot is
held (R146). `s0` is the state in which it executed. -/
def State.endTurn (s s0 : State) : State :=
  let n := s0.cur
  let w := (s.getSlot n).wait
  let s1 := if s0.compactAt n && (w = .none || w = .expect) then s.setCore (coreOf n) { s.core (coreOf n) with last := n % 4 } else s
  s1.endCycle (coreOf n)

/-- WRITE_LANDS (R148). -/
def execWriteLands (n : Nat) (s : State) : Host.Outcome State Fault Refusal := event s (writeLands n)

end Sys2Proof.Machine
end

