-- ==== Sys2Proof/Machine/Schedule.lean ====
section
/-! DEFINITION. Whose move comes next when none is fixed, and the passing of time (notes/assumptions 1 and 3): the moves of the part's own
units that are due, and the cores' turns. -/

namespace Sys2Proof.Machine
open Sys2Proof

/-! Moves that are due, by kind. Each answers the states' changes that it offers. -/

/-- A move of one of the part's own units. -/
abbrev Moves := List (State → State)

/-- Moves offered when a condition holds. -/
def offer (b : Bool) (f : State → State) : Moves := if b then [f] else []

/-- Words, messages and acknowledgements on their way (R140, R370, R261, R256). -/
def State.arrivals (s : State) : Moves :=
  offer (!s.landings.isEmpty) (engineStatusLand 0) ++
    (match s.sent.find? fun m => s.reaches m.rnd (m.tile / 192) with | some m => [messageArrive m.tile] | none => []) ++
    (match s.tlbRegs with | l :: _ => [registrationAcknowledged l.slot] | [] => []) ++
    (match s.xl.replies with | r :: _ => [faultReply r.1 r.2.1 r.2.2] | [] => [])

/-- Accesses whose back-off is over (R257). -/
def State.retries (s : State) : Moves :=
  let due (p : Option Park) : Bool := (p.map fun p => p.ready s).getD false
  (s.slots.filter fun e => e.2.wait == .fault && due e.2.park).map (fun e => faultRetry e.1 (BitVec.ofNat 4 ((e.2.park.map Park.eng).getD 0))) ++
    s.busyQueues.filterMap (fun q => match s.queueOf q with
      | c :: _ => if q % 8 ≠ 5 && due c.park then some (faultRetry c.slot (if q % 8 = 4 then 2 else 1)) else none
      | [] => none) ++
    (s.slots.filter fun e => e.2.streams.toList.any fun b => (b.map fun b => due b.park).getD false).map (fun e => faultRetry e.1 1) ++
    s.cores.filterMap (fun e => match e.2.pushes with
      | c :: _ => if due c.park then some (faultRetry c.slot 1) else none
      | [] => none) ++
    (s.ports.filter fun e => e.2.ents.any fun x => due x.park).map fun e => faultRetry e.1 4

/-- Invalidation rounds (R262). -/
def State.ptMoves (s : State) : Moves :=
  (s.xl.ptl.flatMap fun e =>
    e.2.waiting.map (fun c => ptInvalidate c e.1) ++ e.2.removed.map (fun c => ptInvalidateAck c e.1) ++
      offer (e.2.waiting.isEmpty && e.2.removed.isEmpty && !e.2.storers.isEmpty) (ptStoreComplete e.1)) ++
    offer (s.xl.acks.any fun a => !a.lines.any s.ptBusy) (ptStoreComplete ((s.xl.acks.flatMap PtAck.lines).headD 0)) ++
    offer (s.compacts.any fun e => s.dissolved e.1 e.2) (ptStoreComplete 0)

/-- The MSA, tickets, watches, the probes and grants of the cluster homes (R221, R233, R365, R207, R208). -/
def State.homeMoves (s : State) : Moves :=
  (match s.msaq.zipIdx.find? fun e => !s.msaWaits e.2 e.1 with | some e => [msaAtomic e.2 false] | none => []) ++ offer (!s.scq.isEmpty) scTicketIssue ++
    (match s.touched with | k :: _ => [watchEvaluate (k / 2 ^ 46 % 16) (k % 2 ^ 46)] | [] => []) ++
    (s.treqs.zipIdx.flatMap fun e => match e.1.acks with
      | (t, k) :: _ =>
        if s.probeParked t e.1.line k then []
        else [probe t e.1.line k ((s.treqs.take e.2).any fun r => r.tile == t && r.line == e.1.line && !r.clash)]
      | [] =>
        if e.1.clash then (if s.winnerGranted e.1 then [nack e.1.tile e.1.line none] else []) else [coherenceReply e.1.tile e.1.line]) ++
    s.tabs.flatMap fun e => offer (!e.2.wb.isEmpty) (wbDrain e.1) ++ offer (!e.2.wait.isEmpty) (ticketCall e.1) ++
      (match e.2.miss with | m :: _ => [fillReturn e.1 m.1] | [] => [])

/-- The tiles' units: vector arbiters, matrix units, engines, semaphores, streams, unit loads, the boot tree (R153, R159, R168, R161, R402,
R131, R316). -/
def State.unitMoves (s : State) : Moves :=
  ((s.cores.filter fun e => !e.2.vq.isEmpty).map fun e => vectorBind (if e.1 < 3072 then e.1 / 4 else 768 + (e.1 - 3072))) ++
    s.busyQueues.filterMap (fun q => match s.queueOf q with
      | c :: _ => if s.engWaits q c then none
          else some (if q % 8 = 5 then mxMove (queueTile q) else engineMove (queueTile q) (q % 8))
      | [] => none) ++
    (s.tiles.flatMap fun e => offer e.2.load.isSome (unitLoad e.1) ++ e.2.semw.map fun w => semaphoreMove e.1 w.sem) ++
    ((s.boot.zipIdx.filter fun e => !e.1.done).map fun e => bootLoad e.2) ++
    (s.slots.flatMap fun e => [12, 13, 14, 15].filterMap fun r => match e.2.stream r with
      | some b => if !b.write && b.ahead.length < 4 && b.pos + b.ahead.length < b.cnt && !b.bad && b.home.isEmpty && b.park.isNone then
          some (streamReadahead e.1 r) else none
      | none => none) ++
    s.cores.filterMap fun e => match e.2.pushes with
      | c :: _ => if c.park.isNone && c.home.isEmpty then
          some (pushStep e.1 (if e.1 < 3072 then e.1 / 4 else 768 + (e.1 - 3072))) else none
      | [] => none

/-- Compacts (R178, R184-R191). -/
def State.compactMoves (s : State) : Moves :=
  offer (!s.signs.isEmpty) farSigning ++
  s.compacts.flatMap (fun e =>
    let cid := BitVec.ofNat 16 e.1
    offer (e.2.st == .signing) (startSuperstep cid) ++ offer (e.2.st == .signing && e.2.entry.isSome) (signingWaitExpiry cid) ++
      offer (e.2.st == .running && s.allArrived e.2 && s.countsMet e.2 && s.sendsPast e.2) (releaseBarrier cid) ++
      offer (e.2.st == .running && s.countsShort e.2) (transferDeadlineExpiry cid) ++
      offer (e.2.diss && e.2.st != .running) (dissolveMove cid)) ++
    s.tiles.filterMap fun e => if (e.2.held.map fun m => !(m.send.isEmpty && m.fly.isEmpty)).getD false then some (xferUnitLand e.1) else none

/-- The address spaces with records in the package. -/
def State.asids (s : State) : List (BitVec 16) := (s.clusters.flatMap fun c => c.2.asids.toList.filterMap fun e => e.map AsEnt.asid).eraseDups

/-- Strands: placement, aging, quanta, stops, waits that end, asynchronous traps, HANG (R123-R136, R330, R456). -/
def State.strandMoves (s : State) : Moves :=
  ((List.range 16).filter fun c => (s.clusters.any fun e => e.1 == c && e.2.queues.toList.any fun q => !q.isEmpty) ||
      s.ports.any fun p => p.2.ents.any fun x => !x.placed && x.m != 0 && x.cluster == c).map strandPlace ++
    (s.clusters.flatMap fun e => (e.2.queues.toList.flatten.filter fun q => !q.pre && decide (1 < q.recs.length)).map fun q =>
      gangAged e.1 (BitVec.ofNat 48 (q.recs.headD 0))) ++
    (s.slots.flatMap fun e =>
      offer (e.2.occ && !isTsc e.1 && e.2.quantum == 0 && e.2.stop == .none) (quantumExpiry e.1) ++
      offer ((match e.2.stop with | .preempt _ | .sign => true | _ => false) && s.atBoundary e.1) (preemptStop e.1) ++
      offer (s.trapDue e.1 && !s.compactAt e.1) (asyncTrapTake e.1) ++
      (match e.2.wait with | .idle _ => [idleWake e.1] | _ => [])) ++
    s.gstops.zipIdx.map (fun e => gangStopDrain e.2) ++
    (s.asids.filter s.hanging).map hangDetect

/-- Pennant rounds (R138, R139): the injection of a round asked for, the pennants on the loops and between the dies, the flits that
waited behind a pennant. -/
def State.roundMoves (s : State) : Moves :=
  let r := s.rounds
  offer (r.devWant && !r.devRun && s.injects false) (roundInject false) ++ offer (r.podWant && !r.podRun && s.injects true) (roundInject true) ++
    (match r.fly with | (pod, d, i) :: _ => [pennantOn d i pod] | [] => []) ++
    ([false, true].flatMap fun pod => (s.diesUp.filter (s.roundCaught pod)).map (catchRound pod)) ++
    (s.optic.ports.filter fun e => match e.2.behind with
      | b :: _ => !s.waitsBehind e.1 b
      | [] => false).map fun e => takeBehind e.1

/-- Launch ports and the event queue (R78, R85, R127, R495, R89). -/
def State.hostMoves (s : State) : Moves :=
  ((List.range 64).flatMap fun p => offer (s.acting (1 + p / 16) && fld (s.lp p).bnd 31 0 != s.latOf (s.lp p)) (lpbndUpdate p)) ++
  (s.ports.flatMap fun e =>
    (match e.2.ents.find? fun x => !x.placed with
      | some x => if x.m = 0 && x.park.isNone && !x.pts.any s.ptBusy then [emptyLaunchComplete e.1] else []
      | none => []) ++
    (e.2.ents.filter fun x => x.m != 0 && !x.joined && x.park.isNone && !x.pts.any s.ptBusy).map (fun x => launchJoinIncrement e.1 x.seq) ++
    (e.2.ents.filter fun x => !x.placed && x.m != 0 && !x.aged).map fun x => portEntryAged e.1 x.seq) ++
    offer s.evq.due msixInterrupt ++ offer (!s.levelSteps.isEmpty) State.settleLevels

/-- The embedded controllers (R98, R106-R108), the SerDes groups (R62) and the optical ports (R36, R38, R47, R50). -/
def State.controlMoves (s : State) : Moves :=
  offer (s.nmc.quotes != 0) attestQuote ++
    (match s.nmc.st with
      | .stage => [stageComplete]
      | .waithp => [handoverPoint]
      | .freeze => [freezeComplete]
      | .start => [watchdogExpiry]
      | .rollback => [rollbackExpiry]
      | _ => []) ++
    offer (s.nmc.cut.isSome && !s.nmc.dumped) (dumpComplete false) ++
    (s.groups.flatMap fun e => match e.2.st with
      | .drain => [drainComplete e.1]
      | .unbind => [unbindComplete e.1]
      | .load => [loadComplete e.1]
      | .bind => [bindComplete e.1]
      | _ => []) ++
    s.optic.ports.flatMap fun e =>
      offer (e.2.drain && e.2.buf.isEmpty && e.2.queue.isEmpty) (portDrainComplete e.1) ++
      offer (e.2.linked && decide (e.2.ackAt + 256 ≤ s.time.ns)) (ackTimer e.1) ++
      offer (!e.2.buf.isEmpty && decide (e.2.advAt + 2000 ≤ s.time.ns)) (replayTimeout e.1) ++
      offer (e.2.tx == .replay) (replayEnd e.1 false) ++
      offer (e.2.fresh && e.2.tx == .up && e.2.rx == .up && s.acting (21 + e.1 / 4)) (boundPublish e.1)

/-- Every move that is due. After the cut of a fatal dump only the dump and the event queue go on (R107). -/
def State.due (s : State) : Moves :=
  if s.nmc.cut.isSome then offer (!s.nmc.dumped) (dumpComplete false) ++ offer s.evq.due msixInterrupt
  else if !s.l2sw.isEmpty then [modeSwitchComplete]
  else
    s.arrivals ++ s.retries ++ s.ptMoves ++ s.homeMoves ++ s.unitMoves ++ s.compactMoves ++ s.strandMoves ++ s.roundMoves ++ s.hostMoves ++
      s.controlMoves

/-! The cores' turns. -/

/-- Could the core of slot `n` use a turn? -/
def State.wantsTurn (s : State) (n : Nat) : Bool :=
  match s.compactOf n with
  | some (_, c) => (s.phaseNow c).isSome
  | none => s.able n

/-- The slot whose core takes the next turn: the next in rising order after the current one. -/
def State.nextSlot (s : State) : Option Nat :=
  let l := (s.slots.filter fun e => s.wantsTurn e.1).map Prod.fst
  match l.find? fun n => decide (coreOf s.cur < coreOf n) with
  | some n => some n
  | none => l.head?

/-- A slot whose parked read a boundary has served: its core takes the next turn (R190). -/
def State.servedSlot (s : State) : Option Nat := (s.slots.find? fun e => !e.2.served.isEmpty && s.able e.1).map Prod.fst

/-- What a step does. -/
inductive Choice where
  /-- a move of another agent, fixed on the agenda -/
  | event (i : Instr) (s : State)
  /-- a core's turn -/
  | turn (n : Nat) (s : State)
  /-- a move of one of the part's own units has been made -/
  | moved (s : State)

/-- The next move: the turn of a served slot's core, else the agenda's, else in turn a core's and a due one; either stands in when the other has nothing to do. -/
def State.choice (s : State) : Choice :=
  match s.servedSlot, s.agenda with
  | some n, _ => .turn n s
  | none, .slot n :: r => .turn n { s with agenda := r }
  | none, .event i :: r => .event i { s with agenda := r }
  | none, [] =>
    let own (s : State) : Choice :=
      let l := s.due
      match l[s.time.steps / 2 % (max l.length 1)]? with
      | some f => .moved (f s)
      | none => .moved s
    if s.time.steps % 2 = 0 || s.due.isEmpty then
      match s.nextSlot with
      | some n => .turn n s
      | none => own s
    else own s

/-! Time (R129, R136, R455). -/

/-- What the time of one step does to a slot: its quantum account runs while it holds the slot, except in debug halt and on a
compact-held or loading tile (R129, R131, R453). -/
def State.runAccount (s : State) (ns n : Nat) (x : Slot) : Slot :=
  if x.occ && !isTsc n && !(s.core (coreOf n)).halted && (s.tile (tileOf n)).held.isNone &&
      (s.tile (tileOf n)).load.isNone then { x with quantum := x.quantum - ns } else x

/-- The program timestamp of a running strand advances with every 1,024 cycles, in unified mode (R216). -/
def State.ticked (s : State) (n : Nat) (x : Slot) : Slot :=
  { x with lclock := if x.occ && !s.coh.part then x.lclock + BitVec.ofNat 64 n else x.lclock }

/-- The last traffic of each address space by cluster (R136). -/
def State.watchQuiet (s : State) (cyc : Nat) : Tbl Nat :=
  s.clusters.foldl (fun t c => (c.2.asids.toList.filterMap fun e => e.map AsEnt.asid).foldl (fun t a =>
    if s.trafficIn a c.1 then Tbl.set t (c.1 * 2 ^ 16 + a.toNat) cyc else t) t) s.quiet

/-- The address spaces whose HANG stands delivered: the detector rearms with the next unblocked strand (R136). -/
def State.watchHung (s : State) : List Nat :=
  s.hung.filter fun a => !(List.range 16).any fun c => s.liveIn (BitVec.ofNat 16 a) c

/-- The time of one step passes (notes/assumptions 3), and the caches keep their sizes. -/
def State.pass (s : State) : State :=
  let ns := Config.nsOfStep s.time.steps
  let cyc := s.time.cyc + Config.cyclesOfStep s.time.steps
  let t : Time := { s.time with ns := s.time.ns + ns, cyc := cyc, steps := s.time.steps + 1 }
  let slots : Tbl Slot := s.slots.map fun e => (e.1, s.ticked (cyc / 1024 - s.time.cyc / 1024) (s.runAccount ns e.1 e.2))
  { s with time := t, slots := slots, quiet := s.watchQuiet cyc, hung := s.watchHung }.trimCaches

/-- Is the constructor a move that an agenda may hold: one of another agent? The instructions come from memory, and a word that is none
traps where it is fetched. -/
def movesAlone : Instr → Bool
  | .wordNotInstruction _ => false
  | i => (Forms.fieldsOf i).isNone

/-- The moves that still act after the cut of a fatal dump: every unit has stopped there (R107, R108), but for the dump itself, the
event queue with its registers (R89), and power. -/
def afterCut : Instr → Bool
  | .dumpComplete _ => true
  | .msixInterrupt => true
  | .eqctlWrite _ => true
  | .eqheadWrite _ => true
  | .registerWrite _ _ _ => true
  | .coldReset => true
  | .powerLoss => true
  | .standbyPowerGood => true
  | _ => false

/-- Does a move of the agenda act? -/
def State.acts (s : State) (i : Instr) : Bool := movesAlone i && i.wellFormed && (s.nmc.cut.isNone || afterCut i)

/-- A move's outcome, with the time that it takes. -/
def afterMove : Host.Outcome State Fault Refusal → Host.Outcome State Fault Refusal
  | .next t => .next t.pass
  | .fault f => .fault f
  | .refused r => .refused r

/-- The outcome of what the current slot of `s0` executed in its core's turn. -/
def afterTurn (s0 : State) : Host.Outcome State Fault Refusal → Host.Outcome State Fault Refusal
  | .next t => .next (t.endTurn s0).pass
  | .fault f => .fault f
  | .refused r => .refused r

end Sys2Proof.Machine
end

