-- ==== Sys2Proof/Machine/VecMem.lean ====
section
/-! DEFINITION. Vector loads and stores, the memory part of group A (17_isa_vector R396-R399). -/

namespace Sys2Proof.Machine
open Sys2Proof

/-- WIN of a carrier: OTH[11] (R380). -/
def vWin (m : BitVec 10) : Bool := bit m 3

/-- The sources of an index vector B. -/
def idxSrc (w : Ins) : List VSrc := if isV w.b then [⟨2, num w.b, fun f => f == .i32 || f == .z32⟩] else []

/-- A vector load (R396): the pieces by the instruction's own addressing, the lanes of D under the mask. In compact mode a
global access traps PROT (R181). -/
def vloadBody (w : Ins) (pcs : Slot → Fmt → Word64 → List Piece) (ok : Slot → Fmt → Option Res) (s : State) : Res :=
  let m := mods w.d
  let f := vFmt w
  if s.compact && !vWin m then .trap .prot 0
  else vecRun w (vAny w) (idxSrc w) (if mergesD m then some (only f) else none) (some (some f)) none (fun s =>
    let x := s.slot
    let mask := x.getM (maskNum m)
    match ok x f with
    | some r => r
    | none => vecLoad w s (vWin m) (pcs x f mask) fun t v =>
      let r : BitVec 2048 := BitVec.ofNat 2048 (regBits f v)
      vecDone t 14 (.v (num w.d) ⟨some f, maskLanes mask (maskZ m) (x.getV (num w.d)).val (laneOf r)⟩) 0 mask) s

/-- A vector store (R396); its source is the carrier A. -/
def vstoreBody (w : Ins) (pcs : Slot → Fmt → Word64 → List Piece) (ok : Slot → Fmt → Option Res) (s : State) : Res :=
  let m := mods w.a
  let f := Forms.fmtOf m
  if s.compact && !vWin m then .trap .prot 0
  else vecRun w (Forms.anyOf m) (⟨1, num w.a, only f⟩ :: idxSrc w) none none none (fun s =>
    let x := s.slot
    let mask := x.getM (maskNum m)
    match ok x f with
    | some r => r
    | none => vecStore w s (vWin m) (pcs x f mask) (memImage f (x.seeV (num w.a)).val) fun t => t.vqEnter.2) s

/-- The address of a contiguous access is a multiple of 4 (R397). -/
def align4 (o : Operand) (x : Slot) (_f : Fmt) : Option Res :=
  if (x.ea o).toNat % 4 ≠ 0 then some (.trap .align (infoAddr (x.ea o))) else none

/-- Every active element's address is a multiple of its byte width (R398). -/
def alignStride (mo : Operand) (b : Operand) (mn : BitVec 10) (x : Slot) (f : Fmt) : Option Res :=
  let c := f.container
  let mask := x.getM (maskNum mn)
  let ad (e : Nat) : Word64 := x.ea mo + BitVec.ofNat 64 e * x.opS b
  ((List.range (2048 / c)).find? fun e =>
    (bit mask (e * c / 32) || (c == 64 && bit mask (2 * e + 1))) && (ad e).toNat % (c / 8) != 0).map fun e => .trap .align (infoAddr (ad e))

/-- VLD (R397). -/
def execVld (w : Ins) (s : State) : Host.Outcome State Fault Refusal :=
  run (.vld w) w false false (vloadBody w (fun x f mask => contigPieces f mask (x.ea w.a)) (align4 w.a)) s
/-- VST (R397). -/
def execVst (w : Ins) (s : State) : Host.Outcome State Fault Refusal :=
  run (.vst w) w false false (vstoreBody w (fun x f mask => contigPieces f mask (x.ea w.d)) (align4 w.d)) s
/-- VLDS (R398). -/
def execVlds (w : Ins) (s : State) : Host.Outcome State Fault Refusal :=
  run (.vlds w) w false false (vloadBody w (fun x f mask => stridePieces f mask (x.ea w.a) (x.opS w.b))
    (alignStride w.a w.b (mods w.d))) s
/-- VSTS (R398). -/
def execVsts (w : Ins) (s : State) : Host.Outcome State Fault Refusal :=
  run (.vsts w) w false false (vstoreBody w (fun x f mask => stridePieces f mask (x.ea w.d) (x.opS w.b))
    (alignStride w.d w.b (mods w.a))) s
/-- VGTH (R399). -/
def execVgth (w : Ins) (s : State) : Host.Outcome State Fault Refusal :=
  run (.vgth w) w false false (vloadBody w (fun x _ mask => indexPieces mask (x.ea w.a) (x.seeV (num w.b))) fun _ _ => none) s
/-- VSCT (R399). -/
def execVsct (w : Ins) (s : State) : Host.Outcome State Fault Refusal :=
  run (.vsct w) w false false (vstoreBody w (fun x _ mask => indexPieces mask (x.ea w.d) (x.seeV (num w.b))) fun _ _ => none) s

end Sys2Proof.Machine
end

