-- ==== Sys2Proof/Machine/Dispatch.lean ====
section
/-! DEFINITION. The meaning of every row of the opcode table: one arm per constructor, each a direct call. -/

namespace Sys2Proof.Machine
open Sys2Proof

/-- What an instruction, or a move of another agent, does to the state of the part. -/
def exec (i : Instr) (s : State) : Host.Outcome State Fault Refusal :=
  match i with
  | .add w => Sys2Proof.Machine.execAdd w s
  | .sub w => Sys2Proof.Machine.execSub w s
  | .mul w => Sys2Proof.Machine.execMul w s
  | .mulh w => Sys2Proof.Machine.execMulh w s
  | .div w => Sys2Proof.Machine.execDiv w s
  | .rem w => Sys2Proof.Machine.execRem w s
  | .and w => Sys2Proof.Machine.execAnd w s
  | .or w => Sys2Proof.Machine.execOr w s
  | .xor w => Sys2Proof.Machine.execXor w s
  | .andn w => Sys2Proof.Machine.execAndn w s
  | .shl w => Sys2Proof.Machine.execShl w s
  | .shr w => Sys2Proof.Machine.execShr w s
  | .sar w => Sys2Proof.Machine.execSar w s
  | .rot w => Sys2Proof.Machine.execRot w s
  | .clz w => Sys2Proof.Machine.execClz w s
  | .ctz w => Sys2Proof.Machine.execCtz w s
  | .popc w => Sys2Proof.Machine.execPopc w s
  | .min w => Sys2Proof.Machine.execMin w s
  | .max w => Sys2Proof.Machine.execMax w s
  | .abs w => Sys2Proof.Machine.execAbs w s
  | .sel w => Sys2Proof.Machine.execSel w s
  | .cmp w => Sys2Proof.Machine.execCmp w s
  | .mov w => Sys2Proof.Machine.execMov w s
  | .bfx w => Sys2Proof.Machine.execBfx w s
  | .bfi w => Sys2Proof.Machine.execBfi w s
  | .madd w => Sys2Proof.Machine.execMadd w s
  | .sext w => Sys2Proof.Machine.execSext w s
  | .zext w => Sys2Proof.Machine.execZext w s
  | .addImm w => Sys2Proof.Machine.execAddImm w s
  | .subImm w => Sys2Proof.Machine.execSubImm w s
  | .mulImm w => Sys2Proof.Machine.execMulImm w s
  | .mulhImm w => Sys2Proof.Machine.execMulhImm w s
  | .divImm w => Sys2Proof.Machine.execDivImm w s
  | .remImm w => Sys2Proof.Machine.execRemImm w s
  | .andImm w => Sys2Proof.Machine.execAndImm w s
  | .orImm w => Sys2Proof.Machine.execOrImm w s
  | .xorImm w => Sys2Proof.Machine.execXorImm w s
  | .andnImm w => Sys2Proof.Machine.execAndnImm w s
  | .shlImm w => Sys2Proof.Machine.execShlImm w s
  | .shrImm w => Sys2Proof.Machine.execShrImm w s
  | .sarImm w => Sys2Proof.Machine.execSarImm w s
  | .rotImm w => Sys2Proof.Machine.execRotImm w s
  | .minImm w => Sys2Proof.Machine.execMinImm w s
  | .maxImm w => Sys2Proof.Machine.execMaxImm w s
  | .selImm w => Sys2Proof.Machine.execSelImm w s
  | .cmpImm w => Sys2Proof.Machine.execCmpImm w s
  | .bfxImm w => Sys2Proof.Machine.execBfxImm w s
  | .bfiImm w => Sys2Proof.Machine.execBfiImm w s
  | .maddImm w => Sys2Proof.Machine.execMaddImm w s
  | .sextImm w => Sys2Proof.Machine.execSextImm w s
  | .zextImm w => Sys2Proof.Machine.execZextImm w s
  | .li w => Sys2Proof.Machine.execLi w s
  | .liw w => Sys2Proof.Machine.execLiw w s
  | .fadd w => Sys2Proof.Machine.execFadd w s
  | .fsub w => Sys2Proof.Machine.execFsub w s
  | .fmul w => Sys2Proof.Machine.execFmul w s
  | .ffma w => Sys2Proof.Machine.execFfma w s
  | .fdiv w => Sys2Proof.Machine.execFdiv w s
  | .fsqrt w => Sys2Proof.Machine.execFsqrt w s
  | .fmin w => Sys2Proof.Machine.execFmin w s
  | .fmax w => Sys2Proof.Machine.execFmax w s
  | .fcmp w => Sys2Proof.Machine.execFcmp w s
  | .fcvt w => Sys2Proof.Machine.execFcvt w s
  | .fsgn w => Sys2Proof.Machine.execFsgn w s
  | .fclass w => Sys2Proof.Machine.execFclass w s
  | .br w => Sys2Proof.Machine.execBr w s
  | .jmp w => Sys2Proof.Machine.execJmp w s
  | .call w => Sys2Proof.Machine.execCall w s
  | .ret w => Sys2Proof.Machine.execRet w s
  | .brx w => Sys2Proof.Machine.execBrx w s
  | .loop w => Sys2Proof.Machine.execLoop w s
  | .endl w => Sys2Proof.Machine.execEndl w s
  | .nop w => Sys2Proof.Machine.execNop w s
  | .pand w => Sys2Proof.Machine.execPand w s
  | .por w => Sys2Proof.Machine.execPor w s
  | .pxor w => Sys2Proof.Machine.execPxor w s
  | .pnot w => Sys2Proof.Machine.execPnot w s
  | .pmov w => Sys2Proof.Machine.execPmov w s
  | .mand w => Sys2Proof.Machine.execMand w s
  | .mor w => Sys2Proof.Machine.execMor w s
  | .mxor w => Sys2Proof.Machine.execMxor w s
  | .mnot w => Sys2Proof.Machine.execMnot w s
  | .mpop w => Sys2Proof.Machine.execMpop w s
  | .mfirst w => Sys2Proof.Machine.execMfirst w s
  | .mtop w => Sys2Proof.Machine.execMtop w s
  | .ld w => Sys2Proof.Machine.execLd w s
  | .st w => Sys2Proof.Machine.execSt w s
  | .ldw w => Sys2Proof.Machine.execLdw w s
  | .stw w => Sys2Proof.Machine.execStw w s
  | .pref w => Sys2Proof.Machine.execPref w s
  | .flushl w => Sys2Proof.Machine.execFlushl w s
  | .aadd w => Sys2Proof.Machine.execAadd w s
  | .afadd w => Sys2Proof.Machine.execAfadd w s
  | .amin w => Sys2Proof.Machine.execAmin w s
  | .amax w => Sys2Proof.Machine.execAmax w s
  | .aamax w => Sys2Proof.Machine.execAamax w s
  | .aand w => Sys2Proof.Machine.execAand w s
  | .aor w => Sys2Proof.Machine.execAor w s
  | .axor w => Sys2Proof.Machine.execAxor w s
  | .aswp w => Sys2Proof.Machine.execAswp w s
  | .acas w => Sys2Proof.Machine.execAcas w s
  | .fence w => Sys2Proof.Machine.execFence w s
  | .fenceRange w => Sys2Proof.Machine.execFenceRange w s
  | .spawn w => Sys2Proof.Machine.execSpawn w s
  | .spawng w => Sys2Proof.Machine.execSpawng w s
  | .suspend w => Sys2Proof.Machine.execSuspend w s
  | .yield w => Sys2Proof.Machine.execYield w s
  | .join w => Sys2Proof.Machine.execJoin w s
  | .exit w => Sys2Proof.Machine.execExit w s
  | .waitw w => Sys2Proof.Machine.execWaitw w s
  | .signal w => Sys2Proof.Machine.execSignal w s
  | .bar w => Sys2Proof.Machine.execBar w s
  | .bara w => Sys2Proof.Machine.execBara w s
  | .barw w => Sys2Proof.Machine.execBarw w s
  | .send w => Sys2Proof.Machine.execSend w s
  | .rpost w => Sys2Proof.Machine.execRpost w s
  | .rwait w => Sys2Proof.Machine.execRwait w s
  | .rprobe w => Sys2Proof.Machine.execRprobe w s
  | .csign w => Sys2Proof.Machine.execCsign w s
  | .cdiss w => Sys2Proof.Machine.execCdiss w s
  | .xfer w => Sys2Proof.Machine.execXfer w s
  | .expect w => Sys2Proof.Machine.execExpect w s
  | .sstep w => Sys2Proof.Machine.execSstep w s
  | .lfwd w => Sys2Proof.Machine.execLfwd w s
  | .vadd w => Sys2Proof.Machine.execVadd w s
  | .vsub w => Sys2Proof.Machine.execVsub w s
  | .vmul w => Sys2Proof.Machine.execVmul w s
  | .vfma w => Sys2Proof.Machine.execVfma w s
  | .vmin w => Sys2Proof.Machine.execVmin w s
  | .vmax w => Sys2Proof.Machine.execVmax w s
  | .vabs w => Sys2Proof.Machine.execVabs w s
  | .vneg w => Sys2Proof.Machine.execVneg w s
  | .vand w => Sys2Proof.Machine.execVand w s
  | .vor w => Sys2Proof.Machine.execVor w s
  | .vxor w => Sys2Proof.Machine.execVxor w s
  | .vshl w => Sys2Proof.Machine.execVshl w s
  | .vshr w => Sys2Proof.Machine.execVshr w s
  | .vsar w => Sys2Proof.Machine.execVsar w s
  | .vcmp w => Sys2Proof.Machine.execVcmp w s
  | .vsel w => Sys2Proof.Machine.execVsel w s
  | .vred w => Sys2Proof.Machine.execVred w s
  | .vscan w => Sys2Proof.Machine.execVscan w s
  | .vperm w => Sys2Proof.Machine.execVperm w s
  | .vslide w => Sys2Proof.Machine.execVslide w s
  | .vexp w => Sys2Proof.Machine.execVexp w s
  | .vrcp w => Sys2Proof.Machine.execVrcp w s
  | .vrsq w => Sys2Proof.Machine.execVrsq w s
  | .vlog w => Sys2Proof.Machine.execVlog w s
  | .vdot4 w => Sys2Proof.Machine.execVdot4 w s
  | .vext w => Sys2Proof.Machine.execVext w s
  | .vins w => Sys2Proof.Machine.execVins w s
  | .vamax w => Sys2Proof.Machine.execVamax w s
  | .vbcast w => Sys2Proof.Machine.execVbcast w s
  | .vcvt w => Sys2Proof.Machine.execVcvt w s
  | .vtag w => Sys2Proof.Machine.execVtag w s
  | .vgtag w => Sys2Proof.Machine.execVgtag w s
  | .vld w => Sys2Proof.Machine.execVld w s
  | .vst w => Sys2Proof.Machine.execVst w s
  | .vlds w => Sys2Proof.Machine.execVlds w s
  | .vsts w => Sys2Proof.Machine.execVsts w s
  | .vgth w => Sys2Proof.Machine.execVgth w s
  | .vsct w => Sys2Proof.Machine.execVsct w s
  | .mldb w => Sys2Proof.Machine.execMldb w s
  | .mld w => Sys2Proof.Machine.execMld w s
  | .mst w => Sys2Proof.Machine.execMst w s
  | .mzero w => Sys2Proof.Machine.execMzero w s
  | .mmac w => Sys2Proof.Machine.execMmac w s
  | .mmacr w => Sys2Proof.Machine.execMmacr w s
  | .mcvt w => Sys2Proof.Machine.execMcvt w s
  | .mscale w => Sys2Proof.Machine.execMscale w s
  | .mtrans w => Sys2Proof.Machine.execMtrans w s
  | .seminc w => Sys2Proof.Machine.execSeminc w s
  | .semwait w => Sys2Proof.Machine.execSemwait w s
  | .copy w => Sys2Proof.Machine.execCopy w s
  | .copy2d w => Sys2Proof.Machine.execCopy2d w s
  | .gather w => Sys2Proof.Machine.execGather w s
  | .scatter w => Sys2Proof.Machine.execScatter w s
  | .stream w => Sys2Proof.Machine.execStream w s
  | .strend w => Sys2Proof.Machine.execStrend w s
  | .routeDsp w => Sys2Proof.Machine.execRouteDsp w s
  | .routeCmb w => Sys2Proof.Machine.execRouteCmb w s
  | .routeStat w => Sys2Proof.Machine.execRouteStat w s
  | .rld w => Sys2Proof.Machine.execRld w s
  | .rst w => Sys2Proof.Machine.execRst w s
  | .ratom w => Sys2Proof.Machine.execRatom w s
  | .rfence w => Sys2Proof.Machine.execRfence w s
  | .trap w => Sys2Proof.Machine.execTrap w s
  | .eret w => Sys2Proof.Machine.execEret w s
  | .mfs w => Sys2Proof.Machine.execMfs w s
  | .mts w => Sys2Proof.Machine.execMts w s
  | .tlbwr w => Sys2Proof.Machine.execTlbwr w s
  | .tlbrd w => Sys2Proof.Machine.execTlbrd w s
  | .tlbinv w => Sys2Proof.Machine.execTlbinv w s
  | .mbxpost w => Sys2Proof.Machine.execMbxpost w s
  | .mbxwait w => Sys2Proof.Machine.execMbxwait w s
  | .gstop w => Sys2Proof.Machine.execGstop w s
  | .ctxsv w => Sys2Proof.Machine.execCtxsv w s
  | .ctxld w => Sys2Proof.Machine.execCtxld w s
  | .l2mode w => Sys2Proof.Machine.execL2mode w s
  | .halt w => Sys2Proof.Machine.execHalt w s
  | .brk w => Sys2Proof.Machine.execBrk w s
  | .pennant w => Sys2Proof.Machine.execPennant w s
  | .sense w => Sys2Proof.Machine.execSense w s
  | .time w => Sys2Proof.Machine.execTime w s
  | .idle w => Sys2Proof.Machine.execIdle w s
  | .asyncTrapTake a => Sys2Proof.Machine.execAsyncTrapTake a s
  | .idleWake a => Sys2Proof.Machine.execIdleWake a s
  | .debugResume a => Sys2Proof.Machine.execDebugResume a s
  | .coldReset => Sys2Proof.Machine.execColdReset s
  | .standbyPowerGood => Sys2Proof.Machine.execStandbyPowerGood s
  | .functionReady a => Sys2Proof.Machine.execFunctionReady a s
  | .functionFailure a => Sys2Proof.Machine.execFunctionFailure a s
  | .temperatureSample a b => Sys2Proof.Machine.execTemperatureSample a b s
  | .throttleStep a b => Sys2Proof.Machine.execThrottleStep a b s
  | .droopEvent a => Sys2Proof.Machine.execDroopEvent a s
  | .droopWindowClose => Sys2Proof.Machine.execDroopWindowClose s
  | .powerSampleUpdate a b => Sys2Proof.Machine.execPowerSampleUpdate a b s
  | .reqLoad a b => Sys2Proof.Machine.execReqLoad a b s
  | .reqStore a b => Sys2Proof.Machine.execReqStore a b s
  | .reqAtomic a b => Sys2Proof.Machine.execReqAtomic a b s
  | .dataFlit a b => Sys2Proof.Machine.execDataFlit a b s
  | .respFlit a b c => Sys2Proof.Machine.execRespFlit a b c s
  | .markFlit a b => Sys2Proof.Machine.execMarkFlit a b s
  | .pennantFlit a b c d => Sys2Proof.Machine.execPennantFlit a b c d s
  | .linkAck a b => Sys2Proof.Machine.execLinkAck a b s
  | .linkNak a b => Sys2Proof.Machine.execLinkNak a b s
  | .stripeReq a b => Sys2Proof.Machine.execStripeReq a b s
  | .stripeAck a b => Sys2Proof.Machine.execStripeAck a b s
  | .bound a b c d => Sys2Proof.Machine.execBound a b c d s
  | .ackTimer a => Sys2Proof.Machine.execAckTimer a s
  | .replayTimeout a => Sys2Proof.Machine.execReplayTimeout a s
  | .lossOfLight a b c d => Sys2Proof.Machine.execLossOfLight a b c d s
  | .lightDetect a => Sys2Proof.Machine.execLightDetect a s
  | .trainComplete a b c d => Sys2Proof.Machine.execTrainComplete a b c d s
  | .replayEnd a => Sys2Proof.Machine.execReplayEnd a s
  | .boundPublish a => Sys2Proof.Machine.execBoundPublish a s
  | .routeReconfigure a b c => Sys2Proof.Machine.execRouteReconfigure a b c s
  | .portDrainComplete a => Sys2Proof.Machine.execPortDrainComplete a s
  | .switchGo a b => Sys2Proof.Machine.execSwitchGo a b s
  | .drainComplete a => Sys2Proof.Machine.execDrainComplete a s
  | .unbindComplete a => Sys2Proof.Machine.execUnbindComplete a s
  | .retrainComplete a b => Sys2Proof.Machine.execRetrainComplete a b s
  | .loadComplete a => Sys2Proof.Machine.execLoadComplete a s
  | .bindComplete a => Sys2Proof.Machine.execBindComplete a s
  | .serdesLinkFailure a => Sys2Proof.Machine.execSerdesLinkFailure a s
  | .serdesInboundRequest a b c d e => Sys2Proof.Machine.execSerdesInboundRequest a b c d e s
  | .compactPacketReceive a b c d => Sys2Proof.Machine.execCompactPacketReceive a b c d s
  | .rudRetransmit a b => Sys2Proof.Machine.execRudRetransmit a b s
  | .hostBar2Read a b => Sys2Proof.Machine.execHostBar2Read a b s
  | .hostBar2Write a b => Sys2Proof.Machine.execHostBar2Write a b s
  | .registerWrite a b c => Sys2Proof.Machine.execRegisterWrite a b c s
  | .lptailWrite a b => Sys2Proof.Machine.execLptailWrite a b s
  | .lpcfgWrite a b => Sys2Proof.Machine.execLpcfgWrite a b s
  | .lpbndUpdate a => Sys2Proof.Machine.execLpbndUpdate a s
  | .launchJoinIncrement a b => Sys2Proof.Machine.execLaunchJoinIncrement a b s
  | .emptyLaunchComplete a => Sys2Proof.Machine.execEmptyLaunchComplete a s
  | .portEntryAged a b => Sys2Proof.Machine.execPortEntryAged a b s
  | .eqctlWrite a => Sys2Proof.Machine.execEqctlWrite a s
  | .eqheadWrite a => Sys2Proof.Machine.execEqheadWrite a s
  | .msixInterrupt => Sys2Proof.Machine.execMsixInterrupt s
  | .updateGo a => Sys2Proof.Machine.execUpdateGo a s
  | .stageComplete => Sys2Proof.Machine.execStageComplete s
  | .handoverPoint => Sys2Proof.Machine.execHandoverPoint s
  | .freezeComplete => Sys2Proof.Machine.execFreezeComplete s
  | .aliveReport a => Sys2Proof.Machine.execAliveReport a s
  | .watchdogExpiry => Sys2Proof.Machine.execWatchdogExpiry s
  | .rollbackExpiry => Sys2Proof.Machine.execRollbackExpiry s
  | .attestQuote => Sys2Proof.Machine.execAttestQuote s
  | .fatalError a => Sys2Proof.Machine.execFatalError a s
  | .dumpComplete a => Sys2Proof.Machine.execDumpComplete a s
  | .strandPlace a => Sys2Proof.Machine.execStrandPlace a s
  | .quantumExpiry a => Sys2Proof.Machine.execQuantumExpiry a s
  | .preemptStop a => Sys2Proof.Machine.execPreemptStop a s
  | .gangAged a b => Sys2Proof.Machine.execGangAged a b s
  | .gangStopDrain a => Sys2Proof.Machine.execGangStopDrain a s
  | .unitLoad a => Sys2Proof.Machine.execUnitLoad a s
  | .watchEvaluate a b => Sys2Proof.Machine.execWatchEvaluate a b s
  | .hangDetect a => Sys2Proof.Machine.execHangDetect a s
  | .engineStatusLand a => Sys2Proof.Machine.execEngineStatusLand a s
  | .roundInject a => Sys2Proof.Machine.execRoundInject a s
  | .d2dLinkFailure a => Sys2Proof.Machine.execD2dLinkFailure a s
  | .dieSuspect a => Sys2Proof.Machine.execDieSuspect a s
  | .dieTakeover a => Sys2Proof.Machine.execDieTakeover a s
  | .vectorBind a => Sys2Proof.Machine.execVectorBind a s
  | .mxOpStart a => Sys2Proof.Machine.execMxOpStart a s
  | .semaphoreWaitComplete a b => Sys2Proof.Machine.execSemaphoreWaitComplete a b s
  | .engineCommandStart a b => Sys2Proof.Machine.execEngineCommandStart a b s
  | .streamReadahead a b => Sys2Proof.Machine.execStreamReadahead a b s
  | .faultRetry a b => Sys2Proof.Machine.execFaultRetry a b s
  | .faultReply a b c => Sys2Proof.Machine.execFaultReply a b c s
  | .messageArrive a => Sys2Proof.Machine.execMessageArrive a s
  | .ptInvalidate a b => Sys2Proof.Machine.execPtInvalidate a b s
  | .ptInvalidateAck a b => Sys2Proof.Machine.execPtInvalidateAck a b s
  | .ptStoreComplete a => Sys2Proof.Machine.execPtStoreComplete a s
  | .tilePowerGate a => Sys2Proof.Machine.execTilePowerGate a s
  | .superstepStart a => Sys2Proof.Machine.execSuperstepStart a s
  | .signingWaitExpiry a => Sys2Proof.Machine.execSigningWaitExpiry a s
  | .holdAnnounce a b => Sys2Proof.Machine.execHoldAnnounce a b s
  | .xferUnitLand a => Sys2Proof.Machine.execXferUnitLand a s
  | .compactBarrierRelease a => Sys2Proof.Machine.execCompactBarrierRelease a s
  | .transferDeadlineExpiry a => Sys2Proof.Machine.execTransferDeadlineExpiry a s
  | .compactDissolve a => Sys2Proof.Machine.execCompactDissolve a s
  | .rds a b => Sys2Proof.Machine.execRds a b s
  | .rdx a b c => Sys2Proof.Machine.execRdx a b c s
  | .upg a b c => Sys2Proof.Machine.execUpg a b c s
  | .wb a b => Sys2Proof.Machine.execWb a b s
  | .cleanEvictionNotice a b => Sys2Proof.Machine.execCleanEvictionNotice a b s
  | .probe a b c d => Sys2Proof.Machine.execProbe a b c d s
  | .conflict a b => Sys2Proof.Machine.execConflict a b s
  | .nack a b c => Sys2Proof.Machine.execNack a b c s
  | .ticketCall a => Sys2Proof.Machine.execTicketCall a s
  | .fillReturn a b => Sys2Proof.Machine.execFillReturn a b s
  | .wbDrain a => Sys2Proof.Machine.execWbDrain a s
  | .leaseRenewal a b c => Sys2Proof.Machine.execLeaseRenewal a b c s
  | .ownershipRequest a b => Sys2Proof.Machine.execOwnershipRequest a b s
  | .mirrorUpdate a => Sys2Proof.Machine.execMirrorUpdate a s
  | .lclockTick a => Sys2Proof.Machine.execLclockTick a s
  | .msaAtomic a b => Sys2Proof.Machine.execMsaAtomic a b s
  | .scTicketIssue => Sys2Proof.Machine.execScTicketIssue s
  | .wordNotInstruction a => Sys2Proof.Machine.execWordNotInstruction a s
  | .writeLands a => Sys2Proof.Machine.execWriteLands a s
  | .coherenceReply a b => Sys2Proof.Machine.execCoherenceReply a b s
  | .serdesResponse a b => Sys2Proof.Machine.execSerdesResponse a b s
  | .registrationAcknowledged a => Sys2Proof.Machine.execRegistrationAcknowledged a s
  | .modeSwitchComplete => Sys2Proof.Machine.execModeSwitchComplete s
  | .powerLoss => Sys2Proof.Machine.execPowerLoss s

end Sys2Proof.Machine
end

