-- ==== Sys2Proof/Machine/Step.lean ====
section
/-! DEFINITION. One step of the part: the move that comes next, then the time it takes; and the placing of one instruction where the
next step fetches. -/

namespace Sys2Proof.Machine
open Sys2Proof

/-- A core's turn: the word that the current slot meets, executed, or the trap of one that is no instruction (R327). -/
def runTurn : TurnOut → Host.Outcome State Fault Refusal
  | .quiet u => .next u.pass
  | .word w u =>
    match decodeWord w with
    | .ok i => afterTurn u (exec i u)
    | .error r => afterTurn u (execWordNotInstruction r u)

/-- One step. Without standby power nothing moves but the power's return (05 R108). -/
def step (s : State) : Host.Outcome State Fault Refusal :=
  match s.choice with
  | .event i t => if s.acts i then afterMove (exec i t) else afterMove (.next t)
  | .turn n t => if t.power then runTurn (t.turn n) else .fault .noPower
  | .moved t => if t.power then .next t.pass else .fault .noPower

/-- `s` with the word of `nbits` bits `w` at address 0 and slot 0 about to execute it as the next step: the slot occupied and free to
issue, its cluster and the stack of address 0 in service, and a translation of page 0 (notes/assumptions 11). -/
def State.withFetchWord (s : State) (nbits w : Nat) : State :=
  let x := s.getSlot 0
  let y : Slot := { x with occ := true, pc := 0, wait := .none, park := none, lh := false, lm := none, busyS := 0, busyV := 0, busyT := 0,
                           stop := .none, gone := false, stall := 0, skip := false, yielded := 0, reply := none, served := [], making := none }
  let t := s.tile 0
  let k := s.core 0
  let e : TlbEnt := ⟨0x101, 0x1F0, 0⟩
  let mem := Mem.write s.mem 0 (w % 2 ^ nbits) 12
  let coh : Coh := { s.coh with copies := Tbl.erase s.coh.copies 0, poison := s.coh.poison.filter (· != 0) }
  let s1 := { s with mem := mem, coh := coh, icache := Tbl.erase s.icache 0, clines := Tbl.erase s.clines 0, agenda := [.slot 0],
                     rdy := setBit (setBit s.rdy 0 true) 16 true, l2sw := [], nmc := { s.nmc with cut := none }, power := true }
  let s2 := s1.setTile 0 { t with held := none, load := none }
  let s3 := s2.setCore 0 { k with halted := false, last := 3 }
  (s3.setCache 0 (e :: s3.cache 0)).putSlot 0 y

end Sys2Proof.Machine
end

