-- ==== Sys2Proof/Certificates/Slice0/Obligations.lean ====
section
/-! DEFINITION. The statements for the provers, from the numbered rules of spec/. The helpers in Sys2Proof.Claims are the rules' own
tables and words; a statement of the form `Done i w s t` says that `i` completes: exec answers the next state in which it has had the
effect `t` and its slot has gone on to the next word. -/

/-! What an instruction needs to execute, and what it leaves. -/

namespace Sys2Proof.Claims
open Sys2Proof Sys2Proof.Machine

/-- Instruction `i`, whose word carries `w`, executes in the current slot: power stands, its form is admitted (R327), and its guard
holds (R302). -/
abbrev Issues (i : Instr) (w : Ins) (s : State) : Prop := s.power = true ∧ i.wellFormed = true ∧ s.slot.guard w = true

/-- It executes in free mode (R144). -/
abbrev Free (i : Instr) (w : Ins) (s : State) : Prop := Issues i w s ∧ s.compact = false

/-- It executes in free mode and in supervisor state (R436). -/
abbrev FreeSup (i : Instr) (w : Ins) (s : State) : Prop := Free i w s ∧ s.sup s.cur = true

/-- The state in which `i` has had the effect `t` and its slot has gone on to the next word. -/
def Done (i : Instr) (w : Ins) (s t : State) : Prop := exec i s = .next (t.advance w)

/-- The state after a change of the current slot alone. -/
def Here (s : State) (f : Slot → Slot) : State := s.modSlot s.cur f

/-- The low `k` bits of a result, extended as U says (R333). -/
def ext (k : Nat) (u : Bool) (x : Word64) : Word64 := if u then zext x k else sext x k

/-- The operands of an integer instruction (R298, R332): the width, U, A, B and D's old value. -/
def width (w : Ins) : Nat := intW (mods w.d)

/-! R335, the rows whose low bits are those of arithmetic on 64 bits: each with its latency (R333) and its result, from the
width, A, B and D. -/

/-- The integer rows that wrap. -/
def wrapRow : Instr → Option (Ins × Nat × (Nat → Word64 → Word64 → Word64 → Word64))
  | .add w | .addImm w => some (w, 1, fun _ a b _ => a + b)
  | .sub w | .subImm w => some (w, 1, fun _ a b _ => a - b)
  | .mul w | .mulImm w => some (w, 3, fun _ a b _ => a * b)
  | .madd w | .maddImm w => some (w, 3, fun _ a b d => d + a * b)
  | .and w | .andImm w => some (w, 1, fun _ a b _ => a &&& b)
  | .or w | .orImm w => some (w, 1, fun _ a b _ => a ||| b)
  | .xor w | .xorImm w => some (w, 1, fun _ a b _ => a ^^^ b)
  | .andn w | .andnImm w => some (w, 1, fun _ a b _ => a &&& ~~~b)
  | .shl w | .shlImm w => some (w, 1, fun k a b _ => a <<< (b.toNat % k))
  | _ => none

/-- The integer that U makes of the low `k` bits. -/
def val (k : Nat) (u : Bool) (x : Word64) : Int := if u then ((x.setWidth k).toNat : Int) else (x.setWidth k).toInt

/-- The rows whose exact result R335 gives otherwise: the latency, and the result from the width, U, A and B. -/
def exactRow : Instr → Option (Ins × Nat × (Nat → Bool → Word64 → Word64 → Int))
  | .mulh w | .mulhImm w => some (w, 3, fun k u a b => val k u a * val k u b / 2 ^ k)
  | .div w | .divImm w => some (w, 20, fun k u a b => if val k u b = 0 then -1 else (val k u a).tdiv (val k u b))
  | .rem w | .remImm w => some (w, 20, fun k u a b => if val k u b = 0 then val k u a else (val k u a).tmod (val k u b))
  | .shr w | .shrImm w => some (w, 1, fun k _ a b => val k true a / 2 ^ (b.toNat % k))
  | .sar w | .sarImm w => some (w, 1, fun k _ a b => val k false a / 2 ^ (b.toNat % k))
  | .rot w | .rotImm w => some (w, 1, fun k _ a b => (((a.setWidth k).rotateLeft (b.toNat % k)).toNat : Int))
  | .clz w => some (w, 1, fun k _ a _ => (((List.range k).takeWhile fun j => !bit a (k - 1 - j)).length : Int))
  | .ctz w => some (w, 1, fun k _ a _ => (((List.range k).takeWhile fun j => !bit a j).length : Int))
  | .popc w => some (w, 1, fun k _ a _ => (((List.range k).filter fun j => bit a j).length : Int))
  | .min w | .minImm w => some (w, 1, fun k u a b => if val k u a ≤ val k u b then val k u a else val k u b)
  | .max w | .maxImm w => some (w, 1, fun k u a b => if val k u a ≤ val k u b then val k u b else val k u a)
  | .abs w => some (w, 1, fun k _ a _ => if 0 ≤ val k false a then val k false a else -val k false a)
  | _ => none

/-- The exact results of the rows that admit SAT (R335). -/
def satRow : Instr → Option (Ins × Nat × (Nat → Bool → Word64 → Word64 → Word64 → Int))
  | .add w | .addImm w => some (w, 1, fun k u a b _ => val k u a + val k u b)
  | .sub w | .subImm w => some (w, 1, fun k u a b _ => val k u a - val k u b)
  | .mul w | .mulImm w => some (w, 3, fun k u a b _ => val k u a * val k u b)
  | .madd w | .maddImm w => some (w, 3, fun k u a b d => val k u d + val k u a * val k u b)
  | .shl w | .shlImm w => some (w, 1, fun k u a b _ => val k u a * 2 ^ (b.toNat % k))
  | .abs w => some (w, 1, fun k _ a _ _ => if 0 ≤ val k false a then val k false a else -val k false a)
  | _ => none

/-- The least and the greatest value of the type (R288). -/
def least (k : Nat) (u : Bool) : Int := if u then 0 else -(2 ^ (k - 1))
/-- The greatest value. -/
def greatest (k : Nat) (u : Bool) : Int := if u then 2 ^ k - 1 else 2 ^ (k - 1) - 1

end Sys2Proof.Claims

open Sys2Proof Sys2Proof.Machine Sys2Proof.Claims

/-- R335, R288: ADD, SUB, MUL, MADD, AND, OR, XOR, ANDN and SHL, register and immediate forms, without `.sat`: D receives the low
w bits of the 64-bit result, extended by U.

R335, R334, R288: MULH, DIV, REM, SHR, SAR, ROT, CLZ, CTZ, POPC, MIN, MAX and ABS without `.sat`: D receives the exact result
modulo 2^w, extended by U. Division by zero gives all ones and the dividend.

R288, R335: the rows that admit `.sat`, with it: the exact result clamped to the range of the type. -/
def Obligations.IntegerArithmetic : Prop :=
  (∀ (i : Instr) (w : Ins) (lat : Nat) (f : Nat → Word64 → Word64 → Word64 → Word64) (s : State),
    wrapRow i = some (w, lat, f) → Issues i w s → intSat (mods w.d) = false →
      Done i w s (s.put lat (.s (num w.d)
        (ext (width w) (intU (mods w.d)) (f (width w) (s.slot.opS w.a) (s.slot.opS w.b) (s.slot.getS (num w.d))))))) ∧
  (∀ (i : Instr) (w : Ins) (lat : Nat) (f : Nat → Bool → Word64 → Word64 → Int) (s : State),
    exactRow i = some (w, lat, f) → Issues i w s → intSat (mods w.d) = false →
      Done i w s (s.put lat (.s (num w.d)
        (ext (width w) (intU (mods w.d)) (BitVec.ofInt 64 (f (width w) (intU (mods w.d)) (s.slot.opS w.a) (s.slot.opS w.b))))))) ∧
  (∀ (i : Instr) (w : Ins) (lat : Nat) (f : Nat → Bool → Word64 → Word64 → Word64 → Int) (s : State),
    satRow i = some (w, lat, f) → Issues i w s → intSat (mods w.d) = true →
      let k := width w
      let u := intU (mods w.d)
      let x := f k u (s.slot.opS w.a) (s.slot.opS w.b) (s.slot.getS (num w.d))
      ∃ r : Word64, Done i w s (s.put lat (.s (num w.d) (ext k u r))) ∧ least k u ≤ val k u r ∧ val k u r ≤ greatest k u ∧
        (x < least k u → val k u r = least k u) ∧ (greatest k u < x → val k u r = greatest k u) ∧
        (least k u ≤ x → x ≤ greatest k u → val k u r = x))

namespace Sys2Proof.Claims
open Sys2Proof Sys2Proof.Machine

/-- A bit-field specification (R334). -/
def fieldLen (b : Word64) : Nat := (b.toNat / 256) % 64 + 1
/-- Its position. -/
def fieldPos (b : Word64) : Nat := b.toNat % 64

/-- The condition codes of CMP and SEL's integers (R336): 0 eq, 1 ne, 2 lt, 3 le, 4 gt, 5 ge. -/
def holds (c : Nat) (a b : Int) : Bool :=
  (c == 0 && decide (a = b)) || (c == 1 && decide (a ≠ b)) || (c == 2 && decide (a < b)) || (c == 3 && decide (a ≤ b)) ||
    (c == 4 && decide (b < a)) || (c == 5 && decide (b ≤ a))

/-- R343's rows: the latency is 1; each writes a predicate, a mask or a scalar made from the slot's registers. -/
def predRow : Instr → Option (Ins × (Slot → RegWrite))
  | .pand w => some (w, fun x => .p (num w.d) (x.getP (num w.a) && x.getP (num w.b)))
  | .por w => some (w, fun x => .p (num w.d) (x.getP (num w.a) || x.getP (num w.b)))
  | .pxor w => some (w, fun x => .p (num w.d) (xor (x.getP (num w.a)) (x.getP (num w.b))))
  | .pnot w => some (w, fun x => .p (num w.d) (!x.getP (num w.a)))
  | .pmov w => some (w, fun x => .p (num w.d)
      (if Forms.clsOf w.a = 1 then x.getP (num w.a) else decide (x.opS w.a ≠ 0)))
  | .mand w => some (w, fun x => .m (num w.d) (x.getM (num w.a) &&& x.getM (num w.b)))
  | .mor w => some (w, fun x => .m (num w.d) (x.getM (num w.a) ||| x.getM (num w.b)))
  | .mxor w => some (w, fun x => .m (num w.d) (x.getM (num w.a) ^^^ x.getM (num w.b)))
  | .mnot w => some (w, fun x => .m (num w.d) (~~~(x.getM (num w.a))))
  | .mpop w => some (w, fun x => .s (num w.d) (BitVec.ofNat 64 ((List.range 64).filter fun i => bit (x.getM (num w.a)) i).length))
  | .mfirst w => some (w, fun x => .s (num w.d)
      (BitVec.ofNat 64 ((List.range 64).takeWhile fun i => !bit (x.getM (num w.a)) i).length))
  | .mtop w => some (w, fun x => .p (num w.d)
      (if Forms.oth2 (mods w.d) = 0 then decide (x.getM (num w.a) ≠ 0)
       else if Forms.oth2 (mods w.d) = 1 then decide (x.getM (num w.a) = 0)
       else decide (x.getM (num w.a) = BitVec.allOnes 64)))
  | _ => none

/-- The operand forms of R343: the classes of D, A and B; OTH zero, but for MTOP's 0 to 2. -/
def predForm : Instr → Option Bool
  | .pand w | .por w | .pxor w => some (Forms.plain 1 w.d && Forms.plain 1 w.a && Forms.plain 1 w.b)
  | .pnot w => some (Forms.plain 1 w.d && Forms.plain 1 w.a && w.b == Forms.zeroField)
  | .pmov w => some (Forms.plain 1 w.d && (Forms.plain 1 w.a || Forms.plain 0 w.a || Forms.isImm w.a) && w.b == Forms.zeroField)
  | .mand w | .mor w | .mxor w => some (Forms.plain 3 w.d && Forms.plain 3 w.a && Forms.plain 3 w.b)
  | .mnot w => some (Forms.plain 3 w.d && Forms.plain 3 w.a && w.b == Forms.zeroField)
  | .mpop w | .mfirst w => some (Forms.plain 0 w.d && Forms.plain 3 w.a && w.b == Forms.zeroField)
  | .mtop w => some (Forms.isCls 1 w.d && decide ((mods w.d).toNat ≤ 2) && Forms.plain 3 w.a && w.b == Forms.zeroField)
  | _ => none

end Sys2Proof.Claims

/-- R335, R336, R337: BFX, BFI, SEXT, ZEXT, SEL, CMP, LI, LIW, register and immediate forms. -/
def Obligations.BitFieldsAndSelects : Prop :=
  ∀ (w : Ins) (s : State),
    let x := s.slot
    let a := x.opS w.a
    let b := x.opS w.b
    let d := num w.d
    let len := fieldLen b
    let pos := fieldPos b
    let put (v : Word64) : State := s.put 1 (.s d v)
    let k := min b.toNat 64
    let extended (signed : Bool) : Word64 := if b = 0 then 0 else if signed then sext a k else zext a k
    -- BFX: the field, extended from its own top bit; positions past 63 read as zero
    (∀ i, i = .bfx w ∨ i = .bfxImm w → Issues i w s →
      Done i w s (put (if intU (mods w.d) then zext (a >>> pos) len else sext (a >>> pos) len))) ∧
    -- BFI: bit j of D is bit j - pos of A inside the field, and unchanged outside it
    (∀ i, i = .bfi w ∨ i = .bfiImm w → Issues i w s →
      ∃ v : Word64, Done i w s (put v) ∧
        ∀ j, j < 64 → bit v j = if pos ≤ j ∧ j < pos + len then bit a (j - pos) else bit (x.getS d) j) ∧
    (∀ i, i = .sext w ∨ i = .sextImm w → Issues i w s → Done i w s (put (extended true))) ∧
    (∀ i, i = .zext w ∨ i = .zextImm w → Issues i w s → Done i w s (put (extended false))) ∧
    -- SEL: A when p[k] holds, otherwise B
    (∀ i, i = .sel w ∨ i = .selImm w → Issues i w s →
      Done i w s (put (if x.getP ((mods w.a).toNat % 16) then a else b))) ∧
    -- CMP: the predicate D
    (∀ i, i = .cmp w ∨ i = .cmpImm w → Issues i w s →
      Done i w s (s.put 1 (.p d (holds ((mods w.a).toNat % 8) (val (width w) (intU (mods w.d)) a)
        (val (width w) (intU (mods w.d)) b))))) ∧
    -- LI and LIW: the sign-extended value
    (Issues (.li w) w s → Forms.clsOf w.d = 0 → Done (.li w) w s (put a)) ∧
    (Issues (.li w) w s → Forms.clsOf w.d = 7 → Done (.li w) w s (s.put 1 (.lc (a.setWidth 32)))) ∧
    (∀ p q : BitVec 22, w.a = .wide p → w.b = .wide q → Issues (.liw w) w s →
      Done (.liw w) w s (put ((p ++ q).signExtend 64)))

/-- R337, R164, R167: MOV copies 64 bits between s, m, link and lc; a link operand pops or pushes in compact mode and traps PROT in
free mode. -/
def Obligations.MoveCopies : Prop :=
  ∀ (w : Ins) (s : State), Issues (.mov w) w s →
    let out (v : Word64) : RegWrite :=
      if Forms.clsOf w.d = 0 then .s (num w.d) v else if Forms.clsOf w.d = 3 then .m (num w.d) v
      else if Forms.clsOf w.d = 5 then .link (decide (num w.d = 0)) v else .lc (v.setWidth 32)
    let linked := Forms.clsOf w.a = 5 ∨ Forms.clsOf w.d = 5
    (linked → s.compact = false → exec (.mov w) s = .next (s.trapAt w .prot 0)) ∧
    (Forms.clsOf w.a = 5 → s.compact = true →
      Done (.mov w) w s ((s.popLink (decide (num w.a = 0))).2.put 1 (out (s.popLink (decide (num w.a = 0))).1))) ∧
    (Forms.clsOf w.a ≠ 5 → (Forms.clsOf w.d ≠ 5 ∨ s.compact = true) →
      let v : Word64 := if Forms.clsOf w.a = 0 then s.slot.getS (num w.a) else if Forms.clsOf w.a = 3 then s.slot.getM (num w.a)
        else s.slot.lc.setWidth 64
      Done (.mov w) w s (s.put 1 (out v)))

/-- R343: the group 4 instructions, whole: the forms admitted, their effect, the latency of 1, and the discarded writes to p0 and
m0. -/
def Obligations.PredicatesAndMasks : Prop :=
  (∀ (i : Instr) (b : Bool), predForm i = some b →
    Forms.ok i = b ∧ ∀ s, s.power = true → b = false → exec i s = .next (s.takeTrap .reserved 0)) ∧
  (∀ (i : Instr) (w : Ins) (f : Slot → RegWrite) (s : State), predRow i = some (w, f) → Issues i w s →
    Done i w s (s.put 1 (f s.slot))) ∧
  (∀ (x : Slot) (b : Bool) (v : Word64), x.land (.p 0 b) = x ∧ x.land (.m 0 v) = x)

/-- R148, R145, R318: a result lands at once in free mode, and L cycles after issue in compact mode; until then nothing but the
list of writes under way changes.
Of the model, not of the rules, are the choices of notes/assumptions 80. -/
def Obligations.ResultsLand : Prop :=
  (∀ (s : State) (lat : Nat) (r : RegWrite), s.compact = false → s.put lat r = s.landWrite s.cur r) ∧
  (∀ (s : State) (lat : Nat) (r : RegWrite), s.compact = true →
    s.put lat r = Here s fun x => { x with late := x.late ++ [⟨(s.core (coreOf s.cur)).cycle + lat, r, (s.core (coreOf s.cur)).cycle⟩] }) ∧
  (∀ (s : State) (n k : Nat) (v : Word64) (b : Bool) (r : VReg) (t : TReg) (f : Flags),
    s.landWrite n (.s k v) = s.modSlot n (fun x => x.setS k v) ∧ s.landWrite n (.p k b) = s.modSlot n (fun x => x.setP k b) ∧
      s.landWrite n (.m k v) = s.modSlot n (fun x => x.setM k v) ∧ s.landWrite n (.v k r) = s.modSlot n (fun x => x.setV k r) ∧
      s.landWrite n (.t k t) = s.modSlot n (fun x => x.setT k t) ∧
      s.landWrite n (.flags f) = s.modSlot n (fun x => { x with fflags := x.fflags ||| f }))

/-- R300: s0 reads as zero, p0 as true and m0 as all ones, and a write to any of them is discarded; every other register reads
what was written to it, and a write leaves the others alone. -/
def Obligations.HardWiredRegisters : Prop :=
  ∀ (x : Slot) (n : Nat) (v : Word64) (b : Bool),
    x.getS 0 = 0 ∧ x.getP 0 = true ∧ x.getM 0 = BitVec.allOnes 64 ∧
      x.setS 0 v = x ∧ x.setP 0 b = x ∧ x.setM 0 v = x ∧
      (0 < n → n < 64 → (x.setS n v).getS n = v) ∧ (0 < n → n < 16 → (x.setP n b).getP n = b) ∧
      (0 < n → n < 4 → (x.setM n v).getM n = v) ∧
      (∀ m, m ≠ n → (x.setS n v).getS m = x.getS m ∧ (x.setP n b).getP m = x.getP m ∧ (x.setM n v).getM m = x.getM m)

namespace Sys2Proof.Claims
open Sys2Proof Sys2Proof.Machine

/-- The scalar float rows of R339: the latency and the exact operation on A, B and D. -/
def floatRow : Instr → Option (Ins × Nat × (FVal → FVal → FVal → FVal × Flags))
  | .fadd w => some (w, 4, fun a b _ => vAdd a b)
  | .fsub w => some (w, 4, fun a b _ => vAdd a b.negate)
  | .fmul w => some (w, 4, fun a b _ => vMul a b)
  | .ffma w => some (w, 4, fun a b d => vFma a b d)
  | .fdiv w => some (w, 16, fun a b _ => vDiv a b)
  | .fsqrt w => some (w, 16, fun a _ _ => vSqrt a)
  | _ => none

/-- The low bits of a register as a pattern of format `f` (R338). -/
def pat (f : Fmt) (x : Word64) : Nat := x.toNat % 2 ^ f.memBits

/-- A float result with its flags, landing together (R287, R338). -/
def floatTo (s : State) (lat d r : Nat) (fl : Flags) : State :=
  if fl = 0 then s.put lat (.s d (BitVec.ofNat 64 r)) else (s.put lat (.s d (BitVec.ofNat 64 r))).put lat (.flags fl)

/-- The value of a finite pattern as a rational number. -/
def ratio : FVal → Option ℚ
  | .fin neg n d => some (if neg then -((n : ℚ) / d) else (n : ℚ) / d)
  | _ => none

/-- The operands of a control transfer: its word, where it goes, and what CALL writes (R345). -/
def transferTo (x : Slot) : Instr → Option (Ins × Word64 × Option Nat)
  | .br w => match w.a with
    | .imm v => some (w, x.pc + 12 * v.signExtend 64, none)
    | _ => none
  | .jmp w => match w.a, w.b with
    | .wide p, .wide q => some (w, (p ++ q).signExtend 64, none)
    | .reg _ _ n, _ => some (w, x.getS n.toNat, none)
    | _, _ => none
  | .call w => match w.a with
    | .imm v => some (w, x.pc + 12 * v.signExtend 64, some (num w.d))
    | .reg _ _ n => some (w, x.getS n.toNat, some (num w.d))
    | _ => none
  | .ret w => some (w, x.getS (num w.a), none)
  | .brx w => match w.b with
    | .imm v => some (w, x.pc + 12 + 12 * (if x.getS (num w.a) ≤ v.setWidth 64 then x.getS (num w.a) else v.setWidth 64), none)
    | _ => none
  | .loop w => match w.b with
    | .imm v => if (x.opU w.a).setWidth 32 = (0 : Word32) then some (w, x.pc + 12 * v.signExtend 64 + 12, none) else none
    | _ => none
  | _ => none

end Sys2Proof.Claims

/-- R339, R338, R287: FADD, FSUB, FMUL, FFMA, FDIV and FSQRT: the exact result rounded once to nearest even, zero-extended, with its
flags; the latency 4, or 16. -/
def Obligations.FloatArithmetic : Prop :=
  ∀ (i : Instr) (w : Ins) (lat : Nat) (op : FVal → FVal → FVal → FVal × Flags) (s : State),
    floatRow i = some (w, lat, op) → Issues i w s →
      let f := Forms.fmtOf (mods w.d)
      let v (o : Operand) : FVal := decFp f false (pat f (s.slot.getS (num o)))
      let x := op (v w.a) (v w.b) (v w.d)
      Done i w s (floatTo s lat (num w.d) (encFp f rneOpt x.1).1 ((encFp f rneOpt x.1).2 ||| x.2))

/-- R340, R341: FMIN, FMAX, FCMP, FSGN and FCLASS complete with their results, flags and latencies. R342, R283, R284: FCVT completes after
4 cycles with the converted element, extended by its kind, and its flags; into an integer format, from a finite float the nearest
integer, ties to even, brought into the range with NV, or NX when inexact; from an integer the wrapped one, or with SAT the clamped one,
without a flag.
Of the model, not of the rules, are the choices of notes/assumptions 18 and 114. -/
def Obligations.FloatSelectsAndConverts : Prop :=
  ∀ (w : Ins) (s : State),
    let f := Forms.fmtOf (mods w.d)
    let pa := pat f (s.slot.getS (num w.a))
    let pb := pat f (s.slot.getS (num w.b))
    let va := decFp f false pa
    let vb := decFp f false pb
    let sg (v : List FVal) : Flags := if v.any FVal.isSig then fNV else 0
    let below (x y : FVal) : Bool := vLt x y || (x.isZero && y.isZero && x.neg && !y.neg)
    (∀ (i : Instr) (low : Bool), (i = .fmin w ∧ low = true) ∨ (i = .fmax w ∧ low = false) → Issues i w s →
      Done i w s (floatTo s 4 (num w.d)
        (if va.isNaN && vb.isNaN then canonNaN f else if va.isNaN then pb else if vb.isNaN then pa
         else if (if low then below vb va else below va vb) then pb else pa) (sg [va, vb]))) ∧
    (Issues (.fcmp w) w s →
      let c := (mods w.d).toNat % 8
      let un := va.isNaN || vb.isNaN
      let eq := !un && !vLt va vb && !vLt vb va
      let r := if c = 0 then eq else if c = 1 then !eq else if c = 2 then vLt va vb else if c = 3 then vLt va vb || eq
        else if c = 4 then vLt vb va else if c = 5 then vLt vb va || eq else if c = 6 then un else !un
      let fl : Flags := if (2 ≤ c ∧ c ≤ 5 ∧ un = true) ∨ va.isSig = true ∨ vb.isSig = true then fNV else 0
      Done (.fcmp w) w s (if fl = 0 then s.put 1 (.p (num w.d) r) else (s.put 1 (.p (num w.d) r)).put 1 (.flags fl))) ∧
    (Issues (.fsgn w) w s →
      let k := (mods w.d).toNat % 4
      let top := 2 ^ (f.memBits - 1)
      let neg := if k = 0 then decide (top ≤ pb) else if k = 1 then !decide (top ≤ pb) else xor (decide (top ≤ pa)) (decide (top ≤ pb))
      Done (.fsgn w) w s (floatTo s 1 (num w.d) (if va.isNaN then canonNaN f else pa % top + (if neg then top else 0)) (sg [va]))) ∧
    (Issues (.fclass w) w s → ∃ k, k < 10 ∧ Done (.fclass w) w s (s.put 1 (.s (num w.d) (BitVec.ofNat 64 (2 ^ k)))) ∧
      let small := ((pa >>> (fpParams f).elim 0 (·.2.1)) % 2 ^ (fpParams f).elim 0 (·.1)) = 0
      let ordinary (neg : Bool) := va.isFin = true ∧ va.isZero = false ∧ va.neg = neg
      (k = 0 ↔ va = .inf true) ∧ (k = 1 ↔ ordinary true ∧ ¬ small) ∧ (k = 2 ↔ ordinary true ∧ small) ∧
      (k = 3 ↔ va.isZero = true ∧ va.neg = true) ∧ (k = 4 ↔ va.isZero = true ∧ va.neg = false) ∧
      (k = 5 ↔ ordinary false ∧ small) ∧ (k = 6 ↔ ordinary false ∧ ¬ small) ∧ (k = 7 ↔ va = .inf false) ∧
      (k = 8 ↔ va = .nan true) ∧ (k = 9 ↔ va = .nan false)) ∧
    (Issues (.fcvt w) w s →
      let src := Forms.fmtOf (mods w.a)
      let px := pat src (s.slot.getS (num w.a))
      let o := cvtOpt (mods w.d) (srSteps (srSeed (s.slot.opS w.b).toNat 0) 32)
      let r := cvtElem src f o px
      let v := if f.isI then sext (BitVec.ofNat 64 r.1) f.memBits else BitVec.ofNat 64 r.1
      let k := f.memBits
      let u := !f.isI
      let clamp (n : Int) : Int := if n < least k u then least k u else if greatest k u < n then greatest k u else n
      Done (.fcvt w) w s (if r.2 = 0 then s.put 4 (.s (num w.d) v) else (s.put 4 (.s (num w.d) v)).put 4 (.flags r.2)) ∧
      (f.isInt = true → (fpParams src).isSome = true → bit (mods w.d) 3 = false →
        ∀ x : ℚ, ratio (decFp src false px) = some x → ∃ n : ℤ, |(n : ℚ) - x| ≤ 1 / 2 ∧ (|(n : ℚ) - x| = 1 / 2 → n % 2 = 0) ∧
          val k u v = clamp n ∧ r.2 = if clamp n ≠ n then fNV else if (n : ℚ) = x then 0 else fNX) ∧
      (f.isInt = true → src.isInt = true → r.2 = 0 ∧
        let n := val src.memBits (!src.isI) (s.slot.getS (num w.a))
        (bit (mods w.d) 2 = true → val k u v = clamp n) ∧ (bit (mods w.d) 2 = false → v.toNat % 2 ^ k = (n % 2 ^ k).toNat)))

/-- R282, R270: rounding to f32, f16 and bf16 is to nearest with ties to even: no finite pattern lies nearer to the exact value than
the one chosen, and of two equally near the even one is chosen; the choice is exact, without flags, when it can be. -/
def Obligations.RoundsToNearestEven : Prop :=
  ∀ (f : Fmt) (neg : Bool) (n d : Nat), f.isFloat3 = true → 0 < d →
    let r := encFp f rneOpt (.fin neg n d)
    ∀ x y : ℚ, ratio (.fin neg n d) = some x → ratio (decFp f false r.1) = some y →
      ∀ (q : Nat) (z : ℚ), q < 2 ^ f.memBits → ratio (decFp f false q) = some z →
        |y - x| ≤ |z - x| ∧ (|y - x| = |z - x| → z ≠ y → r.1 % 2 = 0) ∧ (z = x → y = x ∧ r.2 = 0)

/-- R339, R11: the operations on finite values are exact. -/
def Obligations.ExactOperations : Prop :=
  ∀ (s t : Bool) (n d m e : Nat) (x y : ℚ), 0 < d → 0 < e → ratio (.fin s n d) = some x → ratio (.fin t m e) = some y →
    ratio (vAdd (.fin s n d) (.fin t m e)).1 = some (x + y) ∧ ratio (vMul (.fin s n d) (.fin t m e)).1 = some (x * y) ∧
      (y ≠ 0 → ratio (vDiv (.fin s n d) (.fin t m e)).1 = some (x / y)) ∧
      ∀ (u : Bool) (k c : Nat) (z : ℚ), 0 < c → ratio (.fin u k c) = some z →
        ratio (vFma (.fin s n d) (.fin t m e) (.fin u k c)).1 = some (x * y + z)

/-- R345, R344, R346: BR, JMP, CALL, RET, BRX, and LOOP with count zero, to a target that is a multiple of 12 below 2^48: the pc
becomes the target, CALL's D receives the address behind it, the next issue turn stays empty.

R344, R297: a taken transfer to a target that is no multiple of 12 traps ALIGN, one past 2^48 PROT; no register but those of the
trap changes.
Of the model, not of the rules, are the choices of notes/assumptions 66. -/
def Obligations.ControlTransfers : Prop :=
  (∀ (i : Instr) (w : Ins) (t : Word64) (ret : Option Nat) (s : State),
    transferTo s.slot i = some (w, t, ret) → Issues i w s → t.toNat % 12 = 0 → t.toNat < 2 ^ 48 →
      exec i s = .next ((match ret with
        | some d => s.put 1 (.s d (s.slot.pc + 12))
        | none => s).moveTo w t true)) ∧
  (∀ (i : Instr) (w : Ins) (t : Word64) (ret : Option Nat) (s : State),
    transferTo s.slot i = some (w, t, ret) → Issues i w s →
      (t.toNat % 12 ≠ 0 → exec i s = .next (s.trapAt w .align (t.toNat % 2 ^ 48))) ∧
      (t.toNat % 12 = 0 → 2 ^ 48 ≤ t.toNat → exec i s = .next (s.trapAt w .prot (t.toNat % 2 ^ 48))))

/-- R346, R347, R348, R345: LOOP pushes an entry, ENDL decrements and tests, NOP does nothing.
Of the model, not of the rules, are the choices of notes/assumptions 73. -/
def Obligations.HardwareLoops : Prop :=
  ∀ (w : Ins) (s : State),
    let x := s.slot
    (∀ v : BitVec 22, w.b = .imm v → Issues (.loop w) w s → (x.opU w.a).setWidth 32 ≠ (0 : Word32) →
      (x.loops.length < 4 → Done (.loop w) w s (Here s fun y =>
        { y with loops := ⟨x.pc + 12, x.pc + 12 * v.signExtend 64, (x.opU w.a).setWidth 32⟩ :: x.loops })) ∧
      (4 ≤ x.loops.length → exec (.loop w) s = .next (s.trapAt w .countRange ((x.opU w.a).setWidth 32).toNat))) ∧
    (Issues (.endl w) w s →
      (x.loops = [] → exec (.endl w) s = .next (s.trapAt w .countRange 0)) ∧
      ∀ e r, x.loops = e :: r →
        (e.stop ≠ x.pc → exec (.endl w) s = .next (s.trapAt w .countRange 0)) ∧
        (e.stop = x.pc → e.count ≠ 1 →
          exec (.endl w) s = .next ((Here s fun y => { y with loops := { e with count := e.count - 1 } :: r }).moveTo w e.start false)) ∧
        (e.stop = x.pc → e.count = 1 → Done (.endl w) w s (Here s fun y => { y with loops := r }))) ∧
    (Issues (.nop w) w s → Done (.nop w) w s s)

namespace Sys2Proof.Claims
open Sys2Proof Sys2Proof.Machine

/-- The instructions of which R323 and R443 ask supervisor state, and the system registers of which R305 asks it. -/
def privileged : Instr → Bool
  | .eret _ | .tlbwr _ | .tlbrd _ | .tlbinv _ | .mbxpost _ | .mbxwait _ | .gstop _ | .ctxsv _ | .ctxld _ | .l2mode _ | .halt _
  | .pennant _ => true
  | .mfs w => [0x30, 0x31, 0x32, 0x33].contains (num w.a)
  | .mts w => [0x00, 0x01, 0x02, 0x03, 0x05, 0x11, 0x12, 0x20, 0x21, 0x30, 0x31, 0x32, 0x33].contains (num w.d)
  | _ => false

/-- The instructions that trap PROT in compact mode whatever their operands (R181, R183, R443). -/
def freeOnly : Instr → Bool
  | .ld _ | .st _ | .flushl _ | .spawn _ | .spawng _ | .csign _ | .mmacr _ | .gather _ | .scatter _ | .routeDsp _ | .routeCmb _
  | .routeStat _ | .rld _ | .rst _ | .ratom _ | .rfence _ | .suspend _ | .yield _ | .join _ | .waitw _ | .signal _ | .bar _ | .bara _
  | .barw _ | .send _ | .rpost _ | .rwait _ | .rprobe _ | .tlbwr _ | .tlbrd _ | .tlbinv _ | .mbxpost _ | .mbxwait _ | .gstop _
  | .ctxsv _ | .ctxld _ | .l2mode _ | .halt _ | .pennant _ | .idle _ => true
  | _ => false

/-- The operand values that TLBWR and TLBRD trap RESERVED for, as they do for a reserved field (R329 order 3, R446, R447). -/
def reservedValue (x : Slot) : Instr → Bool
  | .tlbwr w => decide (783 < (x.opU w.b).toNat)
  | .tlbrd w => decide (783 < (x.opU w.b).toNat) || decide (1023 < (x.opU w.a).toNat)
  | _ => false

/-- The instructions that trap PROT in free mode (R375-R378). -/
def compactOnly : Instr → Bool
  | .xfer _ | .expect _ | .sstep _ | .lfwd _ => true
  | _ => false

end Sys2Proof.Claims

/-- R302: every instruction whose guard is false acts as NOP, once its form and its privilege are checked: the slot goes on to the
next word with its hint in force, and nothing else changes.

R327, R329, R302: an instruction whose fields the map does not admit, or with GP 0 and GN 1, traps RESERVED before any other
check, and so does a TLBWR or TLBRD with a reserved operand value; one that asks supervisor state traps PRIV in user state, whatever its
guard.

R181, R183, R375-R378: the mode restrictions decided at issue: PROT with INFO 0.
Of the model, not of the rules, are the choices of notes/assumptions 83. -/
def Obligations.IssueChecks : Prop :=
  (∀ (i : Instr) (w : Ins) (s : State), Forms.fieldsOf i = some w → s.power = true → i.wellFormed = true →
    reservedValue s.slot i = false → (privileged i = true → s.sup s.cur = true) → s.slot.guard w = false → Done i w s s) ∧
  (∀ (i : Instr) (w : Ins) (s : State), Forms.fieldsOf i = some w → s.power = true →
    (i.wellFormed = false → exec i s = .next (s.takeTrap .reserved 0)) ∧
    (reservedValue s.slot i = true → exec i s = .next (s.takeTrap .reserved 0)) ∧
    (i.wellFormed = true → reservedValue s.slot i = false → privileged i = true → s.sup s.cur = false →
      exec i s = .next (s.trapAt w .priv 0))) ∧
  (∀ (i : Instr) (w : Ins) (s : State), Forms.fieldsOf i = some w → Issues i w s → reservedValue s.slot i = false →
    (privileged i = true → s.sup s.cur = true) →
    (freeOnly i = true → s.compact = true → exec i s = .next (s.trapAt w .prot 0)) ∧
    (compactOnly i = true → s.compact = false → exec i s = .next (s.trapAt w .prot 0)))

/-- R440, R437-R439, R112: taking a trap with code `k` and detail `info`, with return address `ret`: with a handler, outside a nested
asynchronous entry, EPC, CODE, INFO, ASYNC and PSUP are saved; nested, EPC and CODE stay and AH or AM is set; either way SUP and TH
become 1 and the pc TVEC. Without a handler the record, unless its line is poisoned, becomes FAULTED and, in free mode, the slot idle.
Of the model, not of the rules, are the choices of notes/assumptions 20 and 83. -/
def Obligations.TrapEntry : Prop :=
  ∀ (s : State) (n : Nat) (k : Trap) (info : Nat) (async : Bool) (ret : Word64),
    let x := s.getSlot n
    let t := s.enterTrap n k info async ret
    let y := t.getSlot n
    let nested := bit x.status 2 && async
    (x.tvec ≠ 0 →
      y.pc = x.tvec ∧ bit y.status 0 = true ∧ bit y.status 2 = true ∧ fld y.status 63 3 = 0 ∧
      (nested = false → y.epc = ret &&& 0xFFFFFFFFFFFF ∧ fld y.cause 7 0 = k.code ∧ bit y.cause 8 = async ∧
        fld y.cause 63 16 = info % 2 ^ 48 ∧ bit y.cause 9 = bit x.cause 9 ∧ bit y.cause 10 = bit x.cause 10 ∧
        bit y.status 1 = s.sup n) ∧
      (nested = true → y.epc = x.epc ∧ bit y.status 1 = bit x.status 1 ∧
        y.cause = x.cause ||| (if k = .hang then (0x400 : Word64) else 0x200)) ∧
      y.s = x.s ∧ y.p = x.p ∧ y.m = x.m ∧ y.v = x.v ∧ y.t = x.t ∧ y.loops = x.loops ∧ y.fflags = x.fflags ∧ y.tvec = x.tvec ∧
      y.lclock = x.lclock ∧ y.late = x.late ∧ y.busyS = x.busyS ∧
      t = { s with slots := t.slots } ∧ ∀ m, m ≠ n → t.getSlot m = s.getSlot m) ∧
    (x.tvec = 0 → ((∀ j, j < 8 → s.poisoned (lineOf (x.recAddr.toNat + 8 + j)) = false) → t.recState x.recAddr.toNat = 6) ∧ (s.compactAt n = false → y.occ = false))

/-- R442, R439, R329, R303, R331: TRAP and BRK take their trap with INFO their immediate; EPC is the address past a TRAP and that of any
other instruction that traps. The hint of an instruction that has issued acts although it traps: its stall count, with the empty cycle of
a taken transfer in free mode, its yield, its end of phase.

R441: ERET: SUP takes PSUP, TH is cleared and the pc becomes EPC, as a taken transfer; PSUP, CAUSE and EPC stay. An EPC that is
no multiple of 12 traps ALIGN. -/
def Obligations.TrapsAndReturn : Prop :=
  ((∀ (w : Ins) (s : State) (v : BitVec 22), w.a = .imm v →
    (Issues (.trap w) w s → exec (.trap w) s = .next (s.trapAt w .trap v.toNat)) ∧
    (Issues (.brk w) w s → exec (.brk w) s = .next (s.trapAt w .brk v.toNat))) ∧
  (∀ (w : Ins) (s : State) (k : Trap) (info : Nat),
    let t := s.enterTrap s.cur k info false (if k = .trap then s.slot.pc + 12 else s.slot.pc)
    let y := t.getSlot s.cur
    s.takeTrap k info = t ∧ (s.slot.tvec = 0 → s.trapAt w k info = t) ∧
    (s.slot.tvec ≠ 0 → s.trapAt w k info = t.modSlot s.cur fun _ =>
      { y with stall := (s.core (coreOf s.cur)).cycle + 1 + max w.st.toNat (if s.compact = true then 0 else 1),
               yielded := if w.yd = true ∧ s.compact = false then 15 else 0, ended := y.ended || (w.eop && s.compact) }))) ∧
  (∀ (w : Ins) (s : State), (Instr.eret w).opcode = some 0x382 ∧ (Issues (.eret w) w s →
    (s.sup s.cur = false → exec (.eret w) s = .next (s.trapAt w .priv 0))) ∧ (Issues (.eret w) w s → s.sup s.cur = true →
    (s.slot.epc.toNat % 12 ≠ 0 → exec (.eret w) s = .next (s.trapAt w .align (s.slot.epc.toNat % 2 ^ 48))) ∧
    (s.slot.epc.toNat % 12 = 0 → ∃ v : Word64,
      exec (.eret w) s = .next ((Here s fun x => { x with status := v }).moveTo w s.slot.epc true) ∧
        bit v 0 = bit s.slot.status 1 ∧ bit v 1 = bit s.slot.status 1 ∧ bit v 2 = false)))

/-- R436, R440, R305: no instruction but CSIGN, which may resume other strands, takes its own strand from user state into supervisor
state otherwise than by a trap, which leads to the handler at TVEC. -/
def Obligations.SupervisorOnlyByTrap : Prop :=
  ∀ (i : Instr) (w : Ins) (s t : State), Forms.fieldsOf i = some w → (∀ v, i ≠ .csign v) → s.sup s.cur = false →
    exec i s = .next t → t.sup s.cur = true → (t.getSlot s.cur).pc = s.slot.tvec ∧ s.slot.tvec ≠ 0

/-- R303, R147, R297, R182: what going on to the next word leaves of the slot: the pc past the 12 bytes, the stall count and the
yield of its hint in force, in compact mode the end of phase; no other slot and nothing else changes.

R10, R358, R359, R340-R342, R449-R456: every move of another agent has a next state while power stands; so have, wherever their form
and guard let them execute, the float selects and conversions, SENSE and TIME; a fence in compact mode, and in unified mode at every scope
below `.pod`, the range form on a range that it admits; in free mode and supervisor state GSTOP, L2MODE, HALT and PENNANT, CTXSV and CTXLD
on a block that they take; in free mode IDLE.
Of the model, not of the rules, are the choices of notes/assumptions 66. -/
def Obligations.GoingOn : Prop :=
  (∀ (s : State) (w : Ins),
    let x := s.slot
    let t := s.advance w
    let y := t.getSlot s.cur
    y.pc = x.pc + 12 ∧ y.wait = .none ∧ y.stall = (s.core (coreOf s.cur)).cycle + 1 + w.st.toNat ∧
      (s.compact = false → y.yielded = (if w.yd = true then 15 else 0) ∧ y.ended = x.ended) ∧
      (s.compact = true → y.ended = (x.ended || w.eop)) ∧
      y.s = x.s ∧ y.p = x.p ∧ y.m = x.m ∧ y.v = x.v ∧ y.t = x.t ∧ y.loops = x.loops ∧ y.status = x.status ∧ y.cause = x.cause ∧
      y.epc = x.epc ∧ y.tvec = x.tvec ∧ y.fflags = x.fflags ∧ y.lclock = x.lclock ∧ y.pfb = x.pfb ∧ y.late = x.late ∧
      t = { s with slots := t.slots } ∧ ∀ m, m ≠ s.cur → t.getSlot m = s.getSlot m) ∧
  (∀ (s : State) (w : Ins),
    let goes (i : Instr) : Prop := ∃ t : State, Done i w s t
    let sc := Forms.scopeOf (mods w.d)
    let now := s.compact = true ∨ (s.coh.part = false ∧ sc ≠ 7)
    let len := (s.slot.opU w.b).toNat
    let c := (s.slot.getS (num w.a)).toNat
    let h := s.mem8 c
    (∀ i : Instr, Forms.fieldsOf i = none → s.power = true → ∃ t, exec i s = .next t) ∧
    (∀ i : Instr, i = .fmin w ∨ i = .fmax w ∨ i = .fcmp w ∨ i = .fsgn w ∨ i = .fclass w ∨ i = .fcvt w ∨ i = .sense w ∨ i = .time w →
      Issues i w s → goes i) ∧
    (Issues (.fence w) w s → now → goes (.fence w)) ∧
    (Issues (.fenceRange w) w s → now → len ≤ 2 ^ 32 → (s.slot.ea w.a).toNat + len ≤ 2 ^ 48 → goes (.fenceRange w)) ∧
    (∀ i : Instr, i = .gstop w ∨ i = .l2mode w ∨ i = .halt w ∨ i = .pennant w → FreeSup i w s → goes i) ∧
    (FreeSup (.ctxsv w) w s → c % 4096 = 0 → isHbm c = true → (bit (mods w.d) 0 = true → s.slot.clsV = true) →
      (bit (mods w.d) 1 = true → s.slot.clsT = true) → s.quietSlot s.cur = true → goes (.ctxsv w)) ∧
    (FreeSup (.ctxld w) w s → c % 4096 = 0 → isHbm c = true → fld h 47 40 = 1 → (h >>> 48).setWidth 16 = s.asidOf s.cur →
      s.mem8 (c + 0x48) = 0 → s.mem8 (c + 0x7F8) = 0 → (bit h 33 = true → s.slot.clsV = true) → (bit h 34 = true → s.slot.clsT = true) →
      s.ctxZeros c (bit h 33) = true → s.quietSlot s.cur = true → (s.mem8 (c + 8)).toNat % 12 = 0 →
      ∃ t : State, exec (.ctxld w) s = .next (t.moveTo w (s.mem8 (c + 8)) true)) ∧
    (Free (.idle w) w s → exec (.idle w) s = .next ((s.advance w).waitFor (.idle (s.time.cyc + 4096)))))

namespace Sys2Proof.Claims
open Sys2Proof Sys2Proof.Machine

/-- Bytes of an access: 2^(TYPE - 1) (R352). -/
def size (m : BitVec 10) : Nat := 2 ^ ((m.toNat / 128) - 1)

/-- A loaded value of `n` bytes, extended by U (R352). -/
def loaded (m : BitVec 10) (n v : Nat) : Word64 := ext (8 * n) (bit m 0) (BitVec.ofNat 64 v)

/-- An access of `n` bytes at `ea` by the current slot reaches the physical address `pa` of this package: it is aligned and canonical,
its translation permits it, and no takeover or denial stands in its way (R329 orders 9 and 10, R253, R219). -/
abbrev Reached (s : State) (ea : Word64) (n : Nat) (a : Acc) (pa : Nat) (unc mir : Bool) : Prop :=
  ea.toNat % n = 0 ∧ ea.toNat < 2 ^ 48 ∧ s.slot.denied a ea.toNat = false ∧
    s.xlate s.cur ea.toNat a = .here pa unc mir ∧ (a ≠ .load → s.mirrorWaits (clusterOf s.cur) mir = false)

/-- The line reached is neither held by a compact nor poisoned for the slot's cluster (R329 order 11). -/
abbrev Clear (s : State) (pa : Nat) : Prop :=
  Tbl.get? s.clines (lineOf pa) = none ∧ s.meetsPoison (clusterOf s.cur) (lineOf pa) = false

/-- The instructions that access `n` aligned bytes at an address operand: their word, that operand, `n` (R352, R353, R355, R364,
R432). -/
def accessRow : Instr → Option (Ins × Operand × Nat)
  | .ld w | .ldw w | .rld w | .rst w | .ratom w => some (w, w.a, size (mods w.d))
  | .st w | .stw w => some (w, w.d, size (mods w.a))
  | .aadd w | .afadd w | .amin w | .amax w | .aamax w | .aand w | .aor w | .axor w | .aswp w | .acas w => some (w, w.a, size (mods w.d))
  | .join w => some (w, w.a, 8)
  | .waitw w => some (w, w.a, size (mods w.d))
  | _ => none

/-- The byte at `a` that cluster `c` reads in order: in a partition its own copy's, else memory's (R214, R218). -/
def view (s : State) (c a : Nat) : Byte :=
  match (if s.partLine (lineOf a) then s.copy c (lineOf a) else none) with
  | some x => BitVec.ofNat 8 (x.data.toNat >>> (8 * (a % 64)))
  | none => Mem.get s.mem a

/-- The atomic operations of R356 on words of `k` bits: from the old value, B and D; none writes nothing. -/
def atomRow : Instr → Option (Ins × (Nat → Nat → Nat → Nat → Option Nat))
  | .aadd w => some (w, fun k old b _ => some ((old + b) % 2 ^ k))
  | .afadd w => some (w, fun _ old b _ => some (encFp .f32 rneOpt (vAdd (decFp .f32 false old) (decFp .f32 false b)).1).1)
  | .amin w => some (w, fun k old b _ => some (if bit (mods w.d) 1 then min old b
      else if (BitVec.ofNat k b).toInt < (BitVec.ofNat k old).toInt then b else old))
  | .amax w => some (w, fun k old b _ => some (if bit (mods w.d) 1 then max old b
      else if (BitVec.ofNat k old).toInt < (BitVec.ofNat k b).toInt then b else old))
  | .aamax w => some (w, fun _ old b _ =>
      let x := decFp .f32 false old
      let y := decFp .f32 false b
      some (if x.isNaN || y.isNaN then 0x7FC00000 else if vLt x.abs y.abs then b % 2 ^ 31 else old % 2 ^ 31))
  | .aand w => some (w, fun _ old b _ => some (old &&& b))
  | .aor w => some (w, fun _ old b _ => some (old ||| b))
  | .axor w => some (w, fun _ old b _ => some (old ^^^ b))
  | .aswp w => some (w, fun _ _ b _ => some b)
  | .acas w => some (w, fun _ old b c => if old = c then some b else none)
  | _ => none

/-- From `s` to `u` nothing has changed but which lines the clusters' directories, the tile caches and the L1 data caches name (R199,
R206). -/
abbrev OnlyCopies (s u : State) : Prop :=
  u = { s with coh := { s.coh with dir := u.coh.dir, tcache := u.coh.tcache, l1d := u.coh.l1d } }

/-- Does the cluster-window form of an atomic apply: bits [63:48] of the address all ones (R355)? -/
def inWindow (ea : Word64) : Bool := decide (2 ^ 64 - 2 ^ 48 ≤ ea.toNat)

end Sys2Proof.Claims

/-- R214, R218, R225: what a load of `k` bytes within a line by slot `n` gives: in order, the bytes that its cluster reads; and it
changes no byte of memory or of a tile store, no register, and no other slot. The lease case of unified mode, where an older copy may
serve, is left to R214's own statement. R251, R256: what the end of a translation leaves of an access whose rest is `t`: at most the L1
copy of its entry, and the access parked no more.

R215, R218, R352: what a store of `k` bytes within a line by slot `n` does: its cluster reads the bytes stored, every other byte
reads as before in every cluster, and no tile store, no register and no other slot changes.
Of the model, not of the rules, are the choices of notes/assumptions 25, 107 and 115. -/
def Obligations.AccessFrames : Prop :=
  ((∀ (s t : State) (n va : Nat) (a : Acc), let u := s.passed n va a t
    u = { t with slots := u.slots, xl := { t.xl with l1 := u.xl.l1 } } ∧ (∀ m, m ≠ n → u.getSlot m = t.getSlot m) ∧
      u.getSlot n = { t.getSlot n with park := (u.getSlot n).park }) ∧
  ∀ (s : State) (n pa k : Nat) (unc : Bool), pa % 64 + k ≤ 64 → pa < 2 ^ 52 →
    let t := (s.load n pa k unc).2
    t.mem = s.mem ∧ t.ts = s.ts ∧ (∀ m, m ≠ n → t.getSlot m = s.getSlot m) ∧
      (t.getSlot n) = { s.getSlot n with lclock := (t.getSlot n).lclock } ∧
      (∀ c a, a < 2 ^ 52 → view t c a = view s c a) ∧
      ((s.partLine (lineOf pa) = true ∧ s.isPt (lineOf pa) = false ∨ s.coh.part = true ∨ s.copy (clusterOf n) (lineOf pa) = none) →
        ∀ j, j < k → BitVec.ofNat 8 ((s.load n pa k unc).1 >>> (8 * j)) =
          if s.isPt (lineOf pa) = true then Mem.get s.mem (pa + j) else view s (clusterOf n) (pa + j))) ∧
  (∀ (s : State) (n pa k v : Nat) (unc : Bool), pa % 64 + k ≤ 64 → pa < 2 ^ 52 → s.isPt (lineOf pa) = false →
    let t := s.store n pa k v unc
    t.ts = s.ts ∧ (∀ m, m ≠ n → t.getSlot m = s.getSlot m) ∧
      (t.getSlot n) = { s.getSlot n with lclock := (t.getSlot n).lclock } ∧
      (∀ c a, a < 2 ^ 52 → (a < pa ∨ pa + k ≤ a) → view t c a = view s c a) ∧
      (∀ j, j < k → view t (clusterOf n) (pa + j) = BitVec.ofNat 8 (v >>> (8 * j))))

/-- R353, R197, R198, R181: LDW and STW within the reach of the window: a read or write of a tile store; every other byte of every
tile store is unchanged.
Of the model, not of the rules, are the choices of notes/assumptions 48. -/
def Obligations.WindowAccesses : Prop :=
  ∀ (w : Ins) (s : State) (t off : Nat),
    (Issues (.ldw w) w s → (s.slot.ea w.a).toNat % size (mods w.d) = 0 → s.window (s.slot.ea w.a).toNat = some (t, off) →
      s.tsPoison.contains (t * 2 ^ 14 + off / 64) = false →
      Done (.ldw w) w s (s.put 6 (.s (num w.d) (loaded (mods w.d) (size (mods w.d)) (s.tsRead t off (size (mods w.d))))))) ∧
    (Issues (.stw w) w s → (s.slot.ea w.d).toNat % size (mods w.a) = 0 → s.window (s.slot.ea w.d).toNat = some (t, off) →
      s.tsPoison.contains (t * 2 ^ 14 + off / 64) = false →
      let k := size (mods w.a)
      let u := s.tsWrite t off k ((s.slot.getS (num w.a)).toNat % 2 ^ (8 * k))
      Done (.stw w) w s u ∧ u = { s with ts := u.ts } ∧
        ∀ a, (a < t * 2 ^ 20 + off ∨ t * 2 ^ 20 + off + k ≤ a) → Mem.get u.ts a = Mem.get s.ts a) ∧
    -- what the window reaches
    (∀ o, s.window o = some (t, off) → o < 48 * 2 ^ 20 ∧ t = clusterOf s.cur * 48 + o / 2 ^ 20 ∧ off = o % 2 ^ 20 ∧
      (s.compact = true → t = tileOf s.cur) ∧ (s.compact = false → off < (s.tile t).scr.toNat * 65536))

/-- R329 orders 9 and 10, R352, R353, R355, R364, R432: a scalar access whose address is no multiple of its size traps ALIGN, and a
global one past 2^48 traps PROT, with INFO the address [47:0]; nothing is posted.

R253, R255, R257: a load or store whose translation faults posts a message and parks; the pc stays at the instruction.
Of the model, not of the rules, are the choices of notes/assumptions 83 and 105. -/
def Obligations.AccessChecks : Prop :=
  (∀ (i : Instr) (w : Ins) (o : Operand) (n : Nat) (s : State), accessRow i = some (w, o, n) → Free i w s →
    ((s.slot.ea o).toNat % n ≠ 0 → exec i s = .next (s.trapAt w .align ((s.slot.ea o).toNat % 2 ^ 48))) ∧
    ((s.slot.ea o).toNat % n = 0 → 2 ^ 48 ≤ (s.slot.ea o).toNat → inWindow (s.slot.ea o) = false →
      exec i s = .next (s.trapAt w .prot ((s.slot.ea o).toNat % 2 ^ 48)))) ∧
  (∀ (w : Ins) (s : State) (kind : Nat), isTsc s.cur = false →
    (Free (.ld w) w s → (s.slot.ea w.a).toNat % size (mods w.d) = 0 → (s.slot.ea w.a).toNat < 2 ^ 48 →
      s.slot.denied .load (s.slot.ea w.a).toNat = false →
      s.xlate s.cur (s.slot.ea w.a).toNat .load = .fault kind →
      exec (.ld w) s = .next (s.parkAt s.cur kind .load (s.slot.ea w.a).toNat)) ∧
    (Free (.st w) w s → (s.slot.ea w.d).toNat % size (mods w.a) = 0 → (s.slot.ea w.d).toNat < 2 ^ 48 →
      s.slot.denied .store (s.slot.ea w.d).toNat = false →
      s.xlate s.cur (s.slot.ea w.d).toNat .store = .fault kind →
      exec (.st w) s = .next (s.parkAt s.cur kind .store (s.slot.ea w.d).toNat)) ∧
    (∀ (a : Acc) (va eng : Nat), let t := s.parkAt s.cur kind a va eng
      (t.getSlot s.cur).wait = .fault ∧ (t.getSlot s.cur).pc = s.slot.pc ∧ (t.getSlot s.cur).s = s.slot.s ∧ t.mem = s.mem ∧
      ((s.slot.park = none ∧ (s.cluster (clusterOf s.cur)).mailbox.length < 256) →
        ∃ m, (t.cluster (clusterOf s.cur)).mailbox = (s.cluster (clusterOf s.cur)).mailbox ++ [m] ∧
          fld m.w0 63 60 = kind % 16 ∧ fld m.w0 47 0 = va % 2 ^ 48 ∧ m.w2 = s.slot.pc)))

/-- R352, R145, R225, R190: LD and ST of 1, 2, 4 or 8 bytes in free mode, at an address of this package: LD writes D with the extended
value that the cluster's load gives, or that a boundary has given it; ST stores the low bytes of A there.

R354: PREF and FLUSHL complete: PREF moves at most its tile's directory entry; FLUSHL drops its tile's copy of the line, or with
`.i` the line of its instruction cache; neither changes a register or a byte of memory.
Of the model, not of the rules, are the choices of notes/assumptions 23, 25 and 107. -/
def Obligations.LoadsStoresAndHints : Prop :=
  (∀ (w : Ins) (s : State) (pa : Nat) (unc mir : Bool),
    (Free (.ld w) w s → Reached s (s.slot.ea w.a) (size (mods w.d)) .load pa unc mir →
      let done (u : State) (v : Nat) : Prop := Done (.ld w) w s (s.passed s.cur (s.slot.ea w.a).toNat .load
        (u.put 6 (.s (num w.d) (loaded (mods w.d) (size (mods w.d)) v))))
      let r := s.load s.cur pa (size (mods w.d)) unc
      (Clear s pa → s.slot.servedLine (lineOf pa) = none → done r.2 r.1) ∧
      (∀ v : Served, s.slot.servedLine (lineOf pa) = some v → v.bad = false → done s (sliceBytes v.data (pa % 64) (size (mods w.d))))) ∧
    (Free (.st w) w s → Reached s (s.slot.ea w.d) (size (mods w.a)) .store pa unc mir → Clear s pa → s.ptHeld (lineOf pa) = false →
      Done (.st w) w s (s.passed s.cur (s.slot.ea w.d).toNat .store
        ((s.store s.cur pa (size (mods w.a)) ((s.slot.getS (num w.a)).toNat % 2 ^ (8 * size (mods w.a))) unc).mirrored
          (clusterOf s.cur) (lineOf pa) mir)))) ∧
  (∀ (w : Ins) (s : State),
    let t := tileOf s.cur
    (Issues (.pref w) w s → ∃ u : State, Done (.pref w) w s u ∧ OnlyCopies s u ∧
      (s.compact = true ∨ 2 ^ 48 ≤ (s.slot.ea w.a).toNat ∨
        (∀ pa unc mir, s.xlate s.cur (s.slot.ea w.a).toNat (if bit (mods w.d) 0 then .store else .load) ≠ .here pa unc mir) → u = s)) ∧
    (∀ pa unc mir, Free (.flushl w) w s → Reached s (s.slot.ea w.a) 1 .load pa unc mir →
      let done (u : State) : Prop := Done (.flushl w) w s (s.passed s.cur (s.slot.ea w.a).toNat .load u)
      (bit (mods w.d) 0 = true → done { s with icache := Tbl.erase s.icache (t * 2 ^ 46 + pa / 64) }) ∧
      (bit (mods w.d) 0 = false → ∃ u : State, done u ∧ OnlyCopies s u ∧
        ∀ d, u.dirOf (t / 48) (pa / 64) = some d → bit d.sharers (t % 48) = false)))

/-- R355, R356, R229, R234, R353: the atomics in free mode at an address of this package, outside the MSA: the release of ORD, the
indivisible operation, the acquire of ORD, and the old value in D.

R355, R353: the atomics of the cluster window: on a tile store, at the tile's port.
Of the model, not of the rules, are the choices of notes/assumptions 25, 115 and 116. -/
def Obligations.Atomics : Prop :=
  (∀ (i : Instr) (w : Ins) (f : Nat → Nat → Nat → Nat → Option Nat) (s : State) (pa : Nat) (unc mir : Bool),
    atomRow i = some (w, f) → Free i w s →
    let m := mods w.d
    let n := size m
    let sc := Forms.scopeOf m
    let ea := s.slot.ea w.a
    let rel := Forms.ordOf m = 2 ∨ Forms.ordOf m = 3
    let acq (t : State) : State := if Forms.ordOf m = 1 ∨ Forms.ordOf m = 3 then t.acquire sc else t
    let op (old : Nat) : Option Nat := f (8 * n) old ((s.slot.opS w.b).toNat % 2 ^ (8 * n)) ((s.slot.getS (num w.d)).toNat % 2 ^ (8 * n))
    let s1 := if rel then s.release sc else s
    let done (u : State) : Prop := Done i w s (s.passed s.cur ea.toNat .atomic u)
    inWindow ea = false → Reached s ea n .atomic pa unc mir → (rel → s.relWaits sc = false) →
    -- at its home, or in the cluster
    (Clear s pa → (s.poisoned (lineOf pa) && wideScope sc) = false → s.isPt (lineOf pa) = false → s.slot.reply = none →
      s.atMsa pa sc = false →
      let r := s1.rmw s.cur pa n sc unc op (decide (i = .aswp w) || decide (i = .acas w))
      let u := (acq r.2).put 8 (.s (num w.d) (BitVec.ofNat 64 r.1))
      done (if (op r.1).isSome then u.mirrored (clusterOf s.cur) (lineOf pa) mir else u)) ∧
    -- at the MSA: once it has answered
    (∀ v : Word64, s.atMsa pa sc = true → s.slot.reply = some (0, v) →
      done (((acq s).put 8 (.s (num w.d) v)).mirrored (clusterOf s.cur) (lineOf pa) mir))) ∧
  (∀ (i : Instr) (w : Ins) (f : Nat → Nat → Nat → Nat → Option Nat) (s : State) (t off : Nat),
    atomRow i = some (w, f) → Issues i w s →
    let m := mods w.d
    let n := size m
    let sc := Forms.scopeOf m
    let o := (s.slot.ea w.a).toNat % 2 ^ 48
    let rel := Forms.ordOf m = 2 ∨ Forms.ordOf m = 3
    let acq (t : State) : State := if Forms.ordOf m = 1 ∨ Forms.ordOf m = 3 then t.acquire sc else t
    let op (old : Nat) : Option Nat := f (8 * n) old ((s.slot.opS w.b).toNat % 2 ^ (8 * n)) ((s.slot.getS (num w.d)).toNat % 2 ^ (8 * n))
    let s1 := if rel then s.release sc else s
    inWindow (s.slot.ea w.a) = true → o % n = 0 → s.window o = some (t, off) → s.tsPoison.contains (t * 2 ^ 14 + off / 64) = false →
      (rel → s.relWaits sc = false) →
      let old := s.tsRead t off n
      let u := match op old with
        | some v => s1.tsWrite t off n v
        | none => s1
      Done i w s ((acq u).put 8 (.s (num w.d) (BitVec.ofNat 64 old))))

/-- R358, R359, R231-R233, R351, R44: FENCE and its range form, the latter on the lines of its range: nothing in compact mode; a release,
an acquire, or both; about a ticket of the SC order the release, then the wait for the ticket, then the acquire; a release at `.pod`
waits while fabric stores of the strand are not visible at system scope, for which it asks by markers; the range form only where a page of
its range has no entry, so that it acts as the full fence. The range form does nothing for length 0 and, in free mode, traps on a range it
does not admit.

R231, R218, R222: a release at device scope or wider leaves the cluster no dirty byte of a partition line, and memory holds every
byte that was dirty in a line without poison; a release or acquire changes no register and no tile store.
Of the model, not of the rules, are the choices of notes/assumptions 25 and 115. -/
def Obligations.FencesAndReleases : Prop :=
  (∀ (w : Ins) (s : State),
    let o := Forms.ordOf (mods w.d)
    let sc := Forms.scopeOf (mods w.d)
    let ticket := o = 3 ∧ (sc = 5 ∨ sc = 6) ∧ s.coh.part = true
    let base := (s.slot.ea w.a).toNat
    let len := (s.slot.opU w.b).toNat
    let fences (i : Instr) (within : Nat → Bool) (full : Bool) : Prop :=
      let r := if 2 ≤ o then s.release sc within else s
      (s.compact = true → Done i w s s) ∧
      (s.compact = false → ¬ ticket →
        ((o < 2 ∨ full = false ∨ s.relWaits sc = false) → Done i w s (if o = 1 ∨ o = 3 then r.acquire sc within else r)) ∧
        (2 ≤ o → full = true → s.relWaits sc = true → exec i s = .next (s.sendMarks.waitFor .home))) ∧
      (s.compact = false → ticket →
        (s.slot.reply.isSome = true → Done i w s (s.acquire sc within)) ∧
        (s.slot.reply = none → s.scq.contains s.cur = true → exec i s = .next (s.waitFor .home)) ∧
        (s.slot.reply = none → s.scq.contains s.cur = false →
          exec i s = .next ({ r with scq := r.scq ++ [r.cur] }.waitFor .home)))
    (Issues (.fence w) w s → fences (.fence w) (fun _ => true) true) ∧
    (Issues (.fenceRange w) w s →
      (len = 0 → Done (.fenceRange w) w s s) ∧ (s.compact = true → Done (.fenceRange w) w s s) ∧
      (s.compact = false → 2 ^ 32 < len → exec (.fenceRange w) s = .next (s.trapAt w .countRange (len % 2 ^ 48))) ∧
      (s.compact = false → 0 < len → len ≤ 2 ^ 32 → 2 ^ 48 < base + len → exec (.fenceRange w) s = .next (s.trapAt w .prot (base % 2 ^ 48))) ∧
      (0 < len → len ≤ 2 ^ 32 → base + len ≤ 2 ^ 48 →
        let pages := s.rangePages base (base + len) (len / 4096 + 2)
        fences (.fenceRange w) (rangeHas base (base + len) pages) (pages.contains .all)))) ∧
  (∀ (s : State) (sc : Nat), s.compact = false →
    let c := clusterOf s.cur
    let t := s.release sc
    let u := s.acquire sc
    t.slots = s.slots ∧ t.ts = s.ts ∧ u.slots = s.slots ∧ u.ts = s.ts ∧ u.mem = s.mem ∧
      (5 ≤ sc → ∀ l x, s.copy c l = some x → s.partLine l = true → l < 2 ^ 46 →
        (s.poisoned l = false → (∃ y, t.copy c l = some y ∧ y.dirty = 0 ∧ y.data = x.data) ∧
          ∀ j, j < 64 → bit x.dirty j = true → Mem.get t.mem (64 * l + j) = BitVec.ofNat 8 (x.data.toNat >>> (8 * j))) ∧
        (x.dirty = 0 → u.copy c l = none)) ∧
      (sc < 5 → t = s ∧ u = s))

namespace Sys2Proof.Claims
open Sys2Proof Sys2Proof.Machine

/-- The words of the record that a SPAWN or SPAWNG reads at physical address `pa` (R360). -/
def template (s : State) (pa : Nat) : List Word64 := (List.range 8).map fun i => s.dom8 (clusterOf s.cur) (pa + 8 * i)

/-- The release that ORD `.rel` asks for (R360, R366, R369). -/
def released (w : Ins) (s : State) : State := if Forms.ordOf (mods w.d) = 2 then s.release (Forms.scopeOf (mods w.d)) else s

/-- No fabric store of the strand stands in the way of that release (R231). -/
abbrev MayRelease (w : Ins) (s : State) : Prop := Forms.ordOf (mods w.d) = 2 → s.relWaits (Forms.scopeOf (mods w.d)) = false

/-- A status word in D at once (R362). -/
def status (w : Ins) (s : State) (v : Word64) : State := s.put 1 (.s (num w.d) v)

/-- Every record queued in the cluster lies on a 64-byte boundary (R111). -/
def QueuedAligned (s : State) (c : Nat) : Prop := ∀ q e a, e ∈ s.queue c q → a ∈ e.recs → a % 64 = 0

/-- The record at `a` has its state word on no poisoned line (R222). -/
abbrev RecordClear (s : State) (a : Nat) : Prop := ∀ j, j < 8 → s.poisoned (lineOf (a + 8 + j)) = false

/-- SIGNAL's one atomic on the record at `a` (R366): the state after and the STATUS code. -/
def signalled (s : State) (a : Nat) : State × Nat :=
  if s.recState a = 2 then
    match s.clusters.find? fun c => c.2.suspended.contains a with
    | some (k, c) => ((((s.releaseAt k 6 fun _ => true).setRecState a 0).setCluster k
        { c with suspended := c.suspended.filter (· != a) }).requeue k (fld (s.recWord a 1) 6 4) a, 0)
    | none => (s, 6)
  else if s.recState a = 1 then
    match s.slots.find? fun x => x.2.occ && x.2.recAddr.toNat == a with
    | some (n, x) => (s.putSlot n { x with wake := true }, 0)
    | none => (s, 0)
  else (s, 6)

/-- An arrival at barrier `k` with count `n` (R367): what the barrier then holds. -/
def afterArrival (b : Barrier) (n : Nat) : Barrier :=
  let m := if b.cnt = 0 then n else b.n
  if b.cnt + 1 = m then ⟨b.gen + 1, 0, m⟩ else ⟨b.gen, b.cnt + 1, m⟩

end Sys2Proof.Claims

/-- R360, R118, R362: SPAWN of a well-formed record, whose join word is zero or lies on this package: the release, the join word
incremented, the record READY and at the tail of its run queue, D 0; BADCLU, BADREC and ASFULL otherwise.

R361, R118, R362: SPAWNG of n records, 1 to 768, from a gang's template: all formed in order of their index and queued as one
entry.
Of the model, not of the rules, are the choices of notes/assumptions 26, 32, 101 and 103. -/
def Obligations.SpawnsCreate : Prop :=
  (∀ (w : Ins) (s s1 : State) (c pa asx : Nat), Free (.spawn w) w s → (s.slot.ea w.a).toNat % 64 = 0 → s.slot.making = none →
    MayRelease w s →
    let tpl := template s pa
    let word (k : Nat) : Word64 := tpl.getD k 0
    let prio := fld (word 1) 6 4
    (s.pickCluster (s.slot.opS w.b).toNat = none → Done (.spawn w) w s (status w s 0x0400000000000000)) ∧
    (s.pickCluster (s.slot.opS w.b).toNat = some c → s.pagesOf [(s.slot.ea w.a).toNat] = .pas [pa] → Clear s pa →
      (badTemplate false (word 0) (word 1) (word 2) (word 7) ≠ 0 → ∃ v, Done (.spawn w) w s (status w s v) ∧ fld v 63 56 = 2) ∧
      (badTemplate false (word 0) (word 1) (word 2) (word 7) = 0 →
        (s.asidEntry c (s.asidOf s.cur) 1 = none → Done (.spawn w) w s (status w s 0x0300000000000000)) ∧
        (s.asidEntry c (s.asidOf s.cur) 1 = some (asx, s1) → s.failed (.clu c) = false →
          ∀ s2, (word 6 = 0 ∧ s2 = s1) ∨
              (∃ j mir, word 6 ≠ 0 ∧ s.joinAt (word 6) = .here j mir ∧ s.joinHeld j = false ∧ s.ptHeld (lineOf j) = false ∧
                s2 = s1.addDev j 1 mir) →
            let t := ((released w s2).formRecord pa tpl asx false 1 0).enqTail c prio ⟨[pa], false, s.time.ns⟩
            Done (.spawn w) w s (status w t 0) ∧
              (QueuedAligned s c → t.recState pa = 0 ∧ t.recWord pa 0 = word 0 ∧
                t.queue c prio = s.queue c prio ++ [⟨[pa], false, s.time.ns⟩]))))) ∧
  (∀ (w : Ins) (s s1 : State) (c tp asx : Nat) (pas : List Nat), Free (.spawng w) w s → (s.slot.ea w.a).toNat % 64 = 0 → s.slot.making = none →
    MayRelease w s →
    let base := (s.slot.getS (num w.d)).toNat
    let n := fld (s.slot.opS w.b) 9 0
    let tpl := template s tp
    let word (k : Nat) : Word64 := tpl.getD k 0
    base % 64 = 0 → 1 ≤ n →
    (768 < n → Done (.spawng w) w s (status w s 0x0100000000000000)) ∧
    (n ≤ 768 → s.pickCluster (fld (s.slot.opS w.b) 20 16) = some c →
      s.pagesOf ((s.slot.ea w.a).toNat :: (List.range n).map fun i => base + 64 * i) = .pas (tp :: pas) → Clear s tp →
      s.slot.servedLine (lineOf tp) = none → s.failed (.clu c) = false →
      (∀ a, a ∈ pas → s.joinHeld a = false) →
      badTemplate true (word 0) (word 1) (word 2) (word 7) = 0 → s.asidEntry c (s.asidOf s.cur) pas.length = some (asx, s1) →
      ∀ s2, (word 6 = 0 ∧ s2 = s1) ∨
        (∃ j mir, word 6 ≠ 0 ∧ s.joinAt (word 6) = .here j mir ∧ s.joinHeld j = false ∧ s.ptHeld (lineOf j) = false ∧
          s2 = s1.addDev j pas.length mir) →
        Done (.spawng w) w s (status w (((released w s2).formRecords tpl asx true pas.length pas 0).enqTail c (fld (word 1) 6 4)
          ⟨pas, false, s.time.ns⟩) 0)))

/-- R119: a SPAWNG with n = 0 enqueues nothing, leaves the join word untouched and performs its release; a JOIN on a join word of 0
returns at once. -/
def Obligations.EmptyGangAndJoin : Prop :=
  (∀ (w : Ins) (s : State), Free (.spawng w) w s → s.slot.making = none → (s.slot.ea w.a).toNat % 64 = 0 →
    (s.slot.getS (num w.d)).toNat % 64 = 0 →
    fld (s.slot.opS w.b) 9 0 = 0 → MayRelease w s → Done (.spawng w) w s (status w (released w s) 0) ∧ (released w s).clusters = s.clusters) ∧
  (∀ (w : Ins) (s : State) (pa : Nat) (unc mir : Bool), Free (.join w) w s → Reached s (s.slot.ea w.a) 8 .load pa unc mir →
    Clear s pa → s.slot.servedLine (lineOf pa) = none → (s.load s.cur pa 8 unc).1 = 0 →
      Done (.join w) w s (s.passed s.cur (s.slot.ea w.a).toNat .load ((s.load s.cur pa 8 unc).2.acquire 6)))

/-- R363, R116, R140: SUSPEND, YIELD and EXIT stop the strand once the operations that it has queued have completed: its slot becomes
idle and its record SUSPENDED, READY at the tail of its queue, or DONE; until then they wait. A SUSPEND that finds WAKE latched clears it
and goes on.

R364, R365: JOIN and WAITW: a condition that holds lets the strand go on, with the acquire; one that does not parks the record with
a watch and leaves the slot idle.
Of the model, not of the rules, are the choices of notes/assumptions 20, 30, 32 and 101. -/
def Obligations.StopsAndWaits : Prop :=
  (∀ (w : Ins) (s : State),
    let x := s.slot
    let a := x.recAddr.toNat
    let k := clusterOf s.cur
    (Free (.suspend w) w s → x.wake = true → Done (.suspend w) w s (Here s fun y => { y with wake := false })) ∧
    (∀ i : Instr, i = .suspend w ∧ x.wake = false ∨ i = .yield w ∨ i = .exit w → Free i w s → s.queueClear = false →
      exec i s = .next (s.waitFor .retry)) ∧
    (Free (.suspend w) w s → x.wake = false → s.queueClear = true → RecordClear s a →
      ∃ t, exec (.suspend w) s = .next t ∧ t.getSlot s.cur = Slot.reset ∧ t.recState a = 2 ∧ a ∈ (t.cluster k).suspended) ∧
    (Free (.yield w) w s → s.queueClear = true → RecordClear s a → QueuedAligned s k → a % 64 = 0 → x.prio.toNat < 8 →
      ∃ t, exec (.yield w) s = .next t ∧ t.getSlot s.cur = Slot.reset ∧ t.recState a = 0 ∧
        t.queue k x.prio.toNat = s.queue k x.prio.toNat ++ [⟨[a], false, s.time.ns⟩]) ∧
    (Issues (.exit w) w s → (s.compact = true ∨ s.queueClear = true) → RecordClear s a → s.recWord a 6 = 0 →
      ∃ t, exec (.exit w) s = .next t ∧ t.recState a = 5 ∧
        (s.compact = false → t.getSlot s.cur = Slot.reset) ∧ (s.compact = true → (t.getSlot s.cur).gone = true)) ∧
    (∀ pa mir, Issues (.exit w) w s → (s.compact = true ∨ s.queueClear = true) → s.recWord a 6 ≠ 0 →
      s.exitJoin (s.recWord a 6) = .here pa mir →
      (s.joinHeld pa = false → x.reply = none → s.ptHeld (lineOf pa) = false → exec (.exit w) s = .next ((s.releaseAt k 6 fun _ => true).addDev pa (2 ^ 64 - 1) mir).exitDone) ∧
      (s.joinHeld pa = true → exec (.exit w) s = .next (s.trapAt w .compactHeld ((s.recWord a 6).toNat % 2 ^ 48))))) ∧
  (∀ (w : Ins) (s : State) (pa : Nat) (unc mir : Bool),
    let k := clusterOf s.cur
    let r8 := s.load s.cur pa 8 unc
    let n := size (mods w.d)
    let r := s.load s.cur pa n unc
    let b := (s.slot.opS w.b).toNat % 2 ^ (8 * n)
    let c := Forms.oth2 (mods w.d)
    let met := (c = 0 ∧ r.1 = b) ∨ (c = 1 ∧ r.1 ≠ b) ∨ (c = 2 ∧ b ≤ r.1) ∨ (c = 3 ∧ r.1 < b)
    (Free (.join w) w s → Reached s (s.slot.ea w.a) 8 .load pa unc mir → Clear s pa → s.slot.servedLine (lineOf pa) = none →
      r8.1 ≠ 0 → (s.cluster k).watch.length < 1024 → s.queueClear = true → RecordClear s s.slot.recAddr.toNat →
      ∃ t, exec (.join w) s = .next t ∧ t.getSlot s.cur = Slot.reset ∧ t.recState s.slot.recAddr.toNat = 3 ∧
        (t.cluster k).watch = (s.cluster k).watch ++ [⟨s.slot.recAddr.toNat, pa, true, 0, 0, some 6⟩]) ∧
    (Free (.waitw w) w s → Reached s (s.slot.ea w.a) n .load pa unc mir → Clear s pa → s.slot.servedLine (lineOf pa) = none →
      (met → Done (.waitw w) w s (s.passed s.cur (s.slot.ea w.a).toNat .load
        (if Forms.ordOf (mods w.d) = 1 then r.2.acquire (Forms.scopeOf (mods w.d)) else r.2))) ∧
      (¬ met → (s.cluster k).watch.length < 1024 → s.queueClear = true → RecordClear s s.slot.recAddr.toNat →
        ∃ t wt, exec (.waitw w) s = .next t ∧ t.getSlot s.cur = Slot.reset ∧ t.recState s.slot.recAddr.toNat = 3 ∧
          (t.cluster k).watch = (s.cluster k).watch ++ [wt] ∧ wt.recAddr = s.slot.recAddr.toNat ∧ wt.pa = pa ∧ wt.cond = c ∧
          wt.val.toNat = b)))

/-- R366, R329, R362: SIGNAL completes, whatever the state of the record that it names in this package's HBM: a SUSPENDED one becomes
READY at the tail of its queue, a RUNNING one has WAKE latched, both with status OK; any other gives NOTSUSP; the release that ORD asks for
comes first. A page of no record of this package gives BADADDR. A misaligned address traps ALIGN, a non-canonical one PROT.

R367, R368: BARA, BARW and BAR complete. BARA arrives, after its release, and gives the generation; at `.pod` once no fabric store of
the strand is awaited and no edge of its barrier is due. BARW goes on, with its acquire, once the generation differs from the value of B,
and waits until then. BAR that has arrived does as BARW with the generation of D and leaves that in D; one that has not arrives, and goes on
if it was the last, else waits with bit 63 of D set. At `.pod` it waits for the edge, also as the last. A number or a count out of range traps COUNT_RANGE.
Of the model, not of the rules, are the choices of notes/assumptions 32 and 85. -/
def Obligations.SignalsAndBarriers : Prop :=
  (∀ (w : Ins) (s : State), Free (.signal w) w s →
    let ea := s.slot.ea w.a
    (∀ a, ea.toNat % 64 = 0 → ea.toNat < 2 ^ 48 → s.pagesOf [ea.toNat] = .pas [a] → Clear s a → MayRelease w s →
      let r := signalled (released w s) a
      Done (.signal w) w s (status w r.1 (BitVec.ofNat 64 (r.2 * 2 ^ 56)))) ∧
    (ea.toNat % 64 = 0 → ea.toNat < 2 ^ 48 → s.pagesOf [ea.toNat] = .bad → Done (.signal w) w s (status w s 0x0500000000000000)) ∧
    (ea.toNat % 64 ≠ 0 → exec (.signal w) s = .next (s.trapAt w .align (ea.toNat % 2 ^ 48))) ∧
    (ea.toNat % 64 = 0 → 2 ^ 48 ≤ ea.toNat → exec (.signal w) s = .next (s.trapAt w .prot (ea.toNat % 2 ^ 48)))) ∧
  (∀ (w : Ins) (s : State),
    let sc := Forms.scopeOf (mods w.d)
    let num' := (s.slot.opS w.a).toNat
    let n := (s.slot.opS w.b).toNat
    let k := barKey sc s.cur num'
    let b := s.barrier k
    let d := s.slot.getS (num w.d)
    let inRange := num' ≤ 15 ∧ 1 ≤ n ∧ n ≤ unitSlots sc
    (Free (.bara w) w s → sc ≤ 6 → inRange →
      Done (.bara w) w s (((s.release sc).arrive sc k n).2.put 1 (.s (num w.d) (b.gen.setWidth 64))) ∧
        ((s.release sc).arrive sc k n).2.barrier k = afterArrival b n) ∧
    (Free (.bara w) w s → sc = 7 → inRange → s.relWaits 7 = false → s.podPending 7 k = false →
      Done (.bara w) w s (((s.release 7).arrive 7 k n).2.put 1 (.s (num w.d) (b.gen.setWidth 64)))) ∧
    (Free (.barw w) w s → num' ≤ 15 →
      (b.gen.toNat ≠ n → Done (.barw w) w s (s.acquire sc)) ∧
      (b.gen.toNat = n → exec (.barw w) s = .next (s.waitFor (.barrier k n)))) ∧
    (Free (.bar w) w s → inRange → bit d 63 = true →
      (b.gen ≠ d.setWidth 32 →
        Done (.bar w) w s ((s.acquire sc).put 1 (.s (num w.d) ((d.setWidth 32 : Word32).setWidth 64)))) ∧
      (b.gen = d.setWidth 32 → ∃ t, exec (.bar w) s = .next t ∧ (t.getSlot s.cur).wait = .barrier k b.gen.toNat)) ∧
    (Free (.bar w) w s → inRange → bit d 63 = false → sc ≤ 6 →
      (afterArrival b n = ⟨b.gen + 1, 0, if b.cnt = 0 then n else b.n⟩ →
        Done (.bar w) w s ((((s.release sc).arrive sc k n).2.acquire sc).put 1 (.s (num w.d) (b.gen.setWidth 64)))) ∧
      ((afterArrival b n).gen = b.gen →
        ∃ t, exec (.bar w) s = .next t ∧ (t.getSlot s.cur).wait = .barrier k b.gen.toNat ∧ t.barrier k = afterArrival b n ∧
          (t.getSlot s.cur).getS (num w.d) = BitVec.ofNat 64 (2 ^ 63 + b.gen.toNat))) ∧
    (Free (.bar w) w s → sc = 7 → inRange → bit d 63 = false → s.relWaits 7 = false → s.podPending 7 k = false →
      ∃ t, exec (.bar w) s = .next t ∧ (t.getSlot s.cur).wait = .barrier k b.gen.toNat ∧ (t.barrier k).cnt = b.cnt + 1 ∧ (t.barrier k).gen = b.gen ∧
        (t.getSlot s.cur).getS (num w.d) = BitVec.ofNat 64 (2 ^ 63 + b.gen.toNat)) ∧
    (∀ i : Instr, i = .bara w ∨ i = .bar w → Free i w s → num' ≤ 15 → ¬ inRange → exec i s = .next (s.trapAt w .countRange (n % 2 ^ 48))) ∧
    (∀ i : Instr, i = .bara w ∨ i = .bar w ∨ i = .barw w → Free i w s → 15 < num' →
      exec i s = .next (s.trapAt w .countRange (num' % 2 ^ 48))))

/-- R369, R370, R371, R372: SEND puts a message under way to a ready tile and awaits its status; RPOST takes the oldest matching
message of the overflow queue or waits for one in its entry; RWAIT takes the message of the strand's oldest entry of its spec, or
from the overflow queue; RPROBE reports it and takes nothing.
Of the model, not of the rules, are the choices of notes/assumptions 34. -/
def Obligations.Messages : Prop :=
  ∀ (w : Ins) (s : State),
    let x := s.slot
    let k := coreOf s.cur
    let tl := tileOf s.cur
    let a := x.opS w.a
    let spec : BitVec 32 := a.setWidth 32
    let c := s.core k
    let mine := fun e : Posted => e.slot == s.cur && specSame e.spec spec
    let dest := fld a 9 0
    (Free (.send w) w s → MayRelease w s → (dest ≤ 767 ∧ s.ready (.clu (dest / 48)) = true) →
      ∃ t : State, Done (.send w) w s (t.await (num w.d)) ∧
        t = { released w s with sent := (released w s).sent ++ [⟨dest, s.cur, num w.d, x.recAddr, s.asidOf s.cur,
          s.roundStamp (dieOf s.cur), ⟨BitVec.ofNat 12 k, BitVec.ofNat 16 (fld a 31 16), x.opS w.b, 0⟩⟩] }) ∧
    (Free (.send w) w s → MayRelease w s → (767 < dest ∨ s.ready (.clu (dest / 48)) = false) →
      Done (.send w) w s (status w (released w s) 0x0200000000000000)) ∧
    (Free (.rpost w) w s → 32 ≤ c.posted.length →
      Done (.rpost w) w s (status w s (BitVec.ofNat 64 (2 ^ 56 + c.posted.length)))) ∧
    (Free (.rpost w) w s → c.posted.length < 32 → takeMsg spec (s.tile tl).overflow = none →
      Done (.rpost w) w s (status w (s.setCore k { c with posted := c.posted ++ [⟨s.cur, spec, none, s.time.steps⟩] })
        (BitVec.ofNat 64 (c.posted.length + 1)))) ∧
    (∀ m r, Free (.rpost w) w s → c.posted.length < 32 → takeMsg spec (s.tile tl).overflow = some (m, r) →
      Done (.rpost w) w s (status w ((s.setTile tl { s.tile tl with overflow := r }).setCore k
        { c with posted := c.posted ++ [⟨s.cur, spec, some m, s.time.steps⟩] }) (BitVec.ofNat 64 (c.posted.length + 1)))) ∧
    (∀ e r g, Free (.rwait w) w s → takeFirst mine c.posted = some (e, r) → e.got = some g →
      let t := s.setPosted k r
      Done (.rwait w) w s (status w (if Forms.ordOf (mods w.d) = 1 then t.acquire (Forms.scopeOf (mods w.d)) else t) g.payload)) ∧
    (∀ g r, Free (.rwait w) w s → takeFirst mine c.posted = none → takeMsg spec (s.tile tl).overflow = some (g, r) →
      let t := s.setTile tl { s.tile tl with overflow := r }
      Done (.rwait w) w s (status w (if Forms.ordOf (mods w.d) = 1 then t.acquire (Forms.scopeOf (mods w.d)) else t) g.payload)) ∧
    (Free (.rwait w) w s → takeFirst mine c.posted = none → takeMsg spec (s.tile tl).overflow = none → c.posted.length < 32 →
      exec (.rwait w) s = .next ((s.setCore k { c with posted := c.posted ++ [⟨s.cur, spec, none, s.time.steps⟩] }).waitFor .recv)) ∧
    (∀ g, Free (.rprobe w) w s →
      ((∃ e r, takeFirst mine c.posted = some (e, r) ∧ e.got = some g) ∨
        (takeFirst mine c.posted = none ∧ ∃ r, takeMsg spec (s.tile tl).overflow = some (g, r))) →
      Done (.rprobe w) w s (status w s (BitVec.ofNat 64 (2 ^ 63 + g.tag.toNat * 2 ^ 32 + g.src.toNat)))) ∧
    (Free (.rprobe w) w s → takeFirst mine c.posted = none → takeMsg spec (s.tile tl).overflow = none →
      Done (.rprobe w) w s (status w s 0))

/-- R373, R176-R178: CSIGN of an admissible descriptor whose members are all of this package, with no join word: the release, the
member tiles held and their strands asked to stop, D awaited. A refused one gives its status and changes nothing.

R374, R375, R377: CDISS asks a compact to dissolve; XFER puts n units of the tile's store into the send buffer; SSTEP ends the
phase and arrives at the barrier, where the slot waits; in a stalled compact it traps COMPACT_TIMEOUT and sets TOUT (R187, R189).
Of the model, not of the rules, are the choices of notes/assumptions 31, 70, 85 and 120. -/
def Obligations.CompactControl : Prop :=
  (∀ (w : Ins) (s : State) (dw mt xt rt : List Word64), Free (.csign w) w s → (s.slot.ea w.a).toNat % 128 = 0 →
    s.vread (s.slot.ea w.a).toNat 16 = .words dw →
    let d := parseDesc dw
    let tables := d.ok = true ∧ d.mtab % 128 = 0 ∧ d.rtab % 32 = 0 ∧ d.xtab % 256 = 0 ∧ d.mtab < 2 ^ 48 ∧ d.rtab < 2 ^ 48 ∧
      d.xtab < 2 ^ 48 ∧ d.join = 0 ∧ (d.isOpen = true ∨ d.scnt ≠ 0)
    let role (i : Nat) : Nat := fld (mt.getD (16 * i) 0) 40 32
    let top := ((List.range (d.nmem + 1)).map role).foldl max 0
    let ent (i : Nat) : List Word64 := (mt.drop (16 * i)).take 16
    let rol (i : Nat) : List Word64 := (rt.drop (4 * role i)).take 4
    let sch (i : Nat) : List Word64 := (xt.drop (32 * i)).take 32
    let desc (i : Nat) : MemberDesc := parseMember (ent i) (rol i) (sch i)
    let pages (i : Nat) : VRead := s.rangePagesOf d.asid (desc i).ranges
    let bases (i : Nat) : List Nat := match pages i with
      | .words l => l.map BitVec.toNat
      | _ => []
    let ms := s.withImages ((List.range (d.nmem + 1)).map fun i => { desc i with pages := bases i })
    Tbl.get? s.compacts d.cid = none → tables → s.vread d.mtab (16 * (d.nmem + 1)) = .words mt →
    s.vread d.xtab (32 * (d.nmem + 1)) = .words xt → s.vread d.rtab (4 * (top + 1)) = .words rt →
    (∀ i, i ≤ d.nmem → (desc i).pkg = s.fab.me ∧ memberWhy (ent i) (rol i) (sch i) d.nmem (pages i) = 0) → ms.2 = none →
    spanOf ms.1 ≤ d.scope →
    (s.signRefusal d ms.1 none = none → Done (.csign w) w s ((s.release 6).beginSigning d ms.1 none (num w.d))) ∧
    (∀ st mem, s.signRefusal d ms.1 none = some (st, mem) → Done (.csign w) w s (status w s (csignStatus st mem 0 0)))) ∧
  (∀ (w : Ins) (s : State),
    let v := (s.slot.opU w.a).toNat
    let t := tileOf s.cur
    (∀ m c, Issues (.cdiss w) w s → s.compact = true → s.myCompact = some (m, c) → v = m.cid.toNat →
      Done (.cdiss w) w s (s.setCompact v { c with diss := true })) ∧
    (∀ c, Free (.cdiss w) w s → 1 ≤ v → v ≤ 65535 → Tbl.get? s.compacts v = some c → c.asid = s.asidOf s.cur →
      Done (.cdiss w) w s ((s.setCompact v { c with diss := true, wait := c.wait ++ [(s.sysLanding (num w.d) 0, s.time.ns)] }).await (num w.d))) ∧
    (∀ m c, Issues (.xfer w) w s → s.compact = true → s.slot.ended = true → s.myCompact = some (m, c) →
      s.slot.sentUnits = 0 → s.slot.xargs = none →
      let n := (s.slot.opS w.b).toNat
      let from' := (s.slot.opS w.a).toNat
      let d := s.slot.getS (num w.d)
      let at0 := max m.sendAt (s.core (coreOf s.cur)).cycle
      from' % 64 = 0 → fld d 35 16 % 64 = 0 → from' + 64 * n ≤ 2 ^ 20 → fld d 35 16 + 64 * n ≤ 2 ^ 20 → fld d 9 0 < c.mems.length →
      m.send.length + n ≤ 32 → 1 ≤ n →
      ∃ units : List XferUnit, units.length = n ∧
        (∀ i, i < n → units[i]? = some ⟨m.cid, m.idx, fld d 9 0, fld d 35 16 + 64 * i,
          BitVec.ofNat 512 (s.tsRead t (from' + 64 * i) 64), s.tsPoison.contains (t * 2 ^ 14 + (from' + 64 * i) / 64), at0 + i,
          c.step, (0, 0)⟩) ∧
        Done (.xfer w) w s (Here (s.setTile t { s.tile t with held := some { m with send := m.send ++ units, sendAt := at0 + n } })
          fun x => { x with sentUnits := 0, xargs := none })) ∧
    (∀ m c, Issues (.sstep w) w s → s.compact = true → s.myCompact = some (m, c) →
      (c.st ≠ .stalled → ∃ u, exec (.sstep w) s = .next u ∧
        u.getSlot s.cur = { s.slot with ended := true, arrived := true, wait := .expect } ∧
        Tbl.get? u.compacts m.cid.toNat = some { c with arr := max c.arr (s.core (coreOf s.cur)).cycle, arrNs := s.time.ns }) ∧
      (c.st = .stalled → exec (.sstep w) s = .next ((s.setTile t { s.tile t with held := some { m with tout := true } }).trapAt w
        .compactTimeout (c.step % 2 ^ 32)))))

/-- R376, R182: EXPECT, whole. -/
def Obligations.ExpectAdds : Prop :=
  ∀ (w : Ins) (s : State) (m : Member) (c : Compact), Issues (.expect w) w s → s.compact = true → s.myCompact = some (m, c) →
    let src := (s.slot.opS w.a).toNat
    let n := (s.slot.opS w.b).toNat
    let old := Tbl.get m.exp src 0
    let listed := ∃ d e, c.mems[m.idx]? = some d ∧ e ∈ d.srcs ∧ e.1 = src
    (s.slot.ended = false → exec (.expect w) s = .next (s.trapAt w .prot 0)) ∧
    (s.slot.ended = true → 63 < src → exec (.expect w) s = .next (s.trapAt w .countRange (src % 2 ^ 48))) ∧
    (s.slot.ended = true → src ≤ 63 → (65535 < n ∨ ¬ listed ∨ 65535 < old + n) →
      exec (.expect w) s = .next (s.trapAt w .countRange (n % 2 ^ 48))) ∧
    (s.slot.ended = true → src ≤ 63 → n ≤ 65535 → listed → old + n ≤ 65535 →
      Done (.expect w) w s (s.setTile (tileOf s.cur)
        { s.tile (tileOf s.cur) with held := some { m with exp := Tbl.set m.exp src (old + n) } }))

/-- R378: LFWD, whole: one word popped from the link of A, pushed to the opposite link, and written to D; an empty link gives 0, sets
its UND bit and pushes nothing. The push to a full FIFO or an absent neighbour is discarded with OVR set. -/
def Obligations.LinkForward : Prop :=
  (∀ (w : Ins) (s : State), Issues (.lfwd w) w s → s.compact = true →
    let east := decide (num w.a = 0)
    let k := coreOf s.cur
    let c := s.core k
    let fifo := if east then c.le else c.lw
    (∀ v r, fifo = v :: r →
      Done (.lfwd w) w s (((s.setCore k (if east then { c with le := r } else { c with lw := r })).put 1 (.s (num w.d) v)).put 1
        (.link (!east) v))) ∧
    (fifo = [] →
      Done (.lfwd w) w s ((s.setCore k { c with lnk := setBit c.lnk (if east then 1 else 0) true }).put 1 (.s (num w.d) 0)))) ∧
  (∀ (s : State) (n : Nat) (east : Bool) (v : Word64),
    let k := coreOf n
    let c := s.core k
    let lost := s.setCore k { c with lnk := setBit c.lnk (if east then 3 else 2) true }
    s.landWrite n (.link east v) = match s.linkPeer (tileOf n) (k % 4) east with
      | none => lost
      | some u =>
        let y := s.core (u * 4 + k % 4)
        if 4 ≤ (if east then y.lw else y.le).length then lost
        else s.setCore (u * 4 + k % 4) (if east then { y with lw := y.lw ++ [v] } else { y with le := y.le ++ [v] }))

namespace Sys2Proof.Claims
open Sys2Proof Sys2Proof.Machine

/-- A vector instruction in free mode, no v-register bound to a stream, a place free in the core's vector queue (R152, R400). -/
abbrev VecFree (i : Instr) (w : Ins) (s : State) : Prop :=
  Free i w s ∧ s.slot.streams = Vector.replicate 4 none ∧ s.vqFull = false

/-- The state with one more operation of the current slot in its core's vector queue (R156). -/
def queued (s : State) : State :=
  s.setCore (coreOf s.cur) { s.core (coreOf s.cur) with vq := (s.core (coreOf s.cur)).vq ++ [s.cur] }

/-- A queued vector operation's result and flags (R287). -/
def vecTo (s : State) (lat : Nat) (r : RegWrite) (fl : Flags) : State :=
  let t := (queued s).put lat r
  if fl = 0 then t else t.put lat (.flags fl)

/-- v-register `n` passes a check for format `f`: `.any`, or its tag is `f` (R266). -/
abbrev Tagged (any : Bool) (x : Slot) (n : Nat) (f : Fmt) : Prop := any = true ∨ (x.getV n).tag = some f

/-- The mask, Z, and the format of an instruction's modifiers (R380). -/
def maskOfIns (w : Ins) (x : Slot) : Word64 := x.getM ((mods w.a).toNat % 4)
/-- Z. -/
def zeroing (w : Ins) : Bool := bit (mods w.a) 2
/-- FMT of D's modifier bits. -/
def fmtD (w : Ins) : Fmt := Forms.fmtOf (mods w.d)
/-- Is D read for its inactive lanes (R382)? -/
abbrev mergesOld (w : Ins) : Prop := (mods w.a).toNat % 4 ≠ 0 ∧ zeroing w = false

/-- Element `e` of a B that may be broadcast (R381). -/
def bValueOf (x : Slot) (c : Nat) (o : Operand) (e : Nat) : Nat :=
  if Forms.clsOf o = 2 then elem c (x.getV (num o)).val e else (x.opS o).toNat % 2 ^ c

/-- An integer brought into format `f`, clamped or modulo (R288). -/
def toType (f : Fmt) (sat : Bool) (x : Int) : Nat :=
  let lo : Int := if f.isI then -(2 ^ (f.container - 1)) else 0
  let hi : Int := if f.isI then 2 ^ (f.container - 1) - 1 else 2 ^ f.container - 1
  ((if sat then (if x < lo then lo else if hi < x then hi else x) else x) % 2 ^ f.container).toNat

/-- One rounding to nearest even, with the flags (R282, R287). -/
def rounded (f : Fmt) (x : FVal × Flags) : Nat × Flags := ((encFp f rneOpt x.1).1, (encFp f rneOpt x.1).2 ||| x.2)

/-- An arithmetic element: on values, or on integers (R384). -/
def mixed (w : Ins) (f : Fmt) (x : FVal × Flags) (i : Int) : Nat × Flags :=
  if f.isInt then (toType f (bit (mods w.d) 0) i, 0) else rounded f x

/-- The value of a float element. -/
def valF (f : Fmt) (x : Nat) : FVal := decFp f false x

/-- R385, R392: latency, whether B and D are sources, and the result on elements a, b and d. -/
def elemRow : Instr → Option (Ins × Nat × Bool × Bool × (Fmt → Nat → Nat → Nat → Nat × Flags))
  | .vadd w => some (w, 8, true, false, fun f a b _ => mixed w f (vAdd (valF f a) (valF f b)) (decInt f a + decInt f b))
  | .vsub w => some (w, 8, true, false, fun f a b _ => mixed w f (vAdd (valF f a) (valF f b).negate) (decInt f a - decInt f b))
  | .vmul w => some (w, 8, true, false, fun f a b _ => mixed w f (vMul (valF f a) (valF f b)) (decInt f a * decInt f b))
  | .vfma w => some (w, 8, true, true, fun f a b d =>
      mixed w f (vFma (valF f a) (valF f b) (valF f d)) (decInt f a * decInt f b + decInt f d))
  | .vmin w => some (w, 8, true, false, fun f a b _ =>
      if f.isInt then (if decInt f a ≤ decInt f b then a else b, 0) else fMinMax f true a b)
  | .vmax w => some (w, 8, true, false, fun f a b _ =>
      if f.isInt then (if decInt f b ≤ decInt f a then a else b, 0) else fMinMax f false a b)
  | .vabs w => some (w, 8, false, false, fun f a _ _ =>
      if f.isInt then (toType f (bit (mods w.d) 0) |decInt f a|, 0)
      else if (valF f a).isNaN then (canonNaN f, if (valF f a).isSig then fNV else 0) else (a % 2 ^ (f.container - 1), 0))
  | .vneg w => some (w, 8, false, false, fun f a _ _ =>
      if f.isInt then (toType f (bit (mods w.d) 0) (-decInt f a), 0)
      else if (valF f a).isNaN then (canonNaN f, if (valF f a).isSig then fNV else 0)
      else ((a + 2 ^ (f.container - 1)) % 2 ^ f.container, 0))
  | .vand w => some (w, 8, true, false, fun _ a b _ => (a &&& b, 0))
  | .vor w => some (w, 8, true, false, fun _ a b _ => (a ||| b, 0))
  | .vxor w => some (w, 8, true, false, fun _ a b _ => (a ^^^ b, 0))
  | .vshl w => some (w, 8, true, false, fun f a b _ => (toType f (bit (mods w.d) 0) (decInt f a * 2 ^ (b % f.container)), 0))
  | .vshr w => some (w, 8, true, false, fun f a b _ => (a / 2 ^ (b % f.container), 0))
  | .vsar w => some (w, 8, true, false, fun f a b _ =>
      (toType f false ((BitVec.ofNat f.container a).toInt / 2 ^ (b % f.container)), 0))
  | .vexp w => some (w, 12, false, false, fun f a _ _ => rounded f (vExp2 (valF f a)))
  | .vrcp w => some (w, 12, false, false, fun f a _ _ => rounded f (vDiv (.fin false 1 1) (valF f a)))
  | .vrsq w => some (w, 12, false, false, fun f a _ _ => rounded f (vRsq (valF f a)))
  | .vlog w => some (w, 12, false, false, fun f a _ _ => rounded f (vLog2 (valF f a)))
  | _ => none

/-- One lane of a reduction or scan: 0 add, 1 min, 2 max, 3 and, 4 or, 5 xor (R387). -/
def redStepOp (f : Fmt) (op a b : Nat) : Nat × Flags :=
  if op = 0 then (if f.isInt then ((a + b) % 2 ^ 32, 0) else rounded f (vAdd (valF f a) (valF f b)))
  else if op = 1 then (if f.isInt then (if decInt f a ≤ decInt f b then a else b, 0) else fMinMax f true a b)
  else if op = 2 then (if f.isInt then (if decInt f b ≤ decInt f a then a else b, 0) else fMinMax f false a b)
  else if op = 3 then (a &&& b, 0) else if op = 4 then (a ||| b, 0) else (a ^^^ b, 0)

/-- The operation's identity (R293). -/
def redUnit (f : Fmt) (op : Nat) : Nat :=
  if op = 0 then (if f.isInt then 0 else 0x80000000)
  else if op = 1 then (if f = .f32 then 0x7F800000 else if f = .i32 then 0x7FFFFFFF else 0xFFFFFFFF)
  else if op = 2 then (if f = .f32 then 0xFF800000 else if f = .i32 then 0x80000000 else 0)
  else if op = 3 then 0xFFFFFFFF else 0

/-- The reduction tree of R293: `r k i` is lane i after the step of width 2^k. -/
def RedTree (f : Fmt) (op : Nat) (a : Nat → Nat) (r : Nat → Nat → Nat) : Prop :=
  (∀ i, i < 64 → r 6 i = a i) ∧
    ∀ k, k < 6 → ∀ i, i < 2 ^ k → r k i = (redStepOp f op (r (k + 1) i) (r (k + 1) (i + 2 ^ k))).1

/-- The scan tree of R388: `r k i` is lane i after k steps. -/
def ScanTree (f : Fmt) (op : Nat) (a : Nat → Nat) (r : Nat → Nat → Nat) : Prop :=
  (∀ i, i < 64 → r 0 i = a i) ∧
    ∀ k, k < 6 → ∀ i, i < 64 → r (k + 1) i = if 2 ^ k ≤ i then (redStepOp f op (r k (i - 2 ^ k)) (r k i)).1 else r k i

/-- Moved lanes carry A's tag, or none under `.any` (R390). -/
def movedFmt (w : Ins) (x : Slot) : Option Fmt := if Forms.anyOf (mods w.d) then none else (x.getV (num w.a)).tag

/-- Is the address of every active element of a strided access a multiple of its byte width (R398)? -/
def StrideAligned (f : Fmt) (mask ea st : Word64) : Prop :=
  ∀ e, e < 2048 / f.container → (bit mask (e * f.container / 32) = true ∨ f.container = 64 ∧ bit mask (2 * e + 1) = true) →
    (ea + BitVec.ofNat 64 e * st).toNat % (f.container / 8) = 0

/-- Memory instructions of group A: their word, whether they load, the pieces of the access in D's or A's format, and whether the
operands are aligned (R396-R399). -/
def vmemRow : Instr → Option (Ins × Bool × (Slot → Fmt → Word64 → List Piece) × (Slot → Prop))
  | .vld w => some (w, true, fun x f m => contigPieces f m (x.ea w.a), fun x => (x.ea w.a).toNat % 4 = 0)
  | .vst w => some (w, false, fun x f m => contigPieces f m (x.ea w.d), fun x => (x.ea w.d).toNat % 4 = 0)
  | .vlds w => some (w, true, fun x f m => stridePieces f m (x.ea w.a) (x.opS w.b), fun x =>
      StrideAligned (fmtD w) (x.getM ((mods w.d).toNat % 4)) (x.ea w.a) (x.opS w.b))
  | .vsts w => some (w, false, fun x f m => stridePieces f m (x.ea w.d) (x.opS w.b), fun x =>
      StrideAligned (Forms.fmtOf (mods w.a)) (x.getM ((mods w.a).toNat % 4)) (x.ea w.d) (x.opS w.b))
  | .vgth w => some (w, true, fun x _ m => indexPieces m (x.ea w.a) (x.getV (num w.b)), fun x =>
      ∀ p, p ∈ indexPieces (x.getM ((mods w.d).toNat % 4)) (x.ea w.a) (x.getV (num w.b)) → p.va.toNat % 4 = 0)
  | .vsct w => some (w, false, fun x _ m => indexPieces m (x.ea w.d) (x.getV (num w.b)), fun x =>
      ∀ p, p ∈ indexPieces (x.getM ((mods w.a).toNat % 4)) (x.ea w.d) (x.getV (num w.b)) → p.va.toNat % 4 = 0)
  | _ => none

/-- Every piece lies where `l` says, in no line held by a compact, and meets no poison (R396, R329 orders 10 and 11). -/
abbrev Placed (s : State) (win : Bool) (a : Acc) (pcs : List Piece) (l : List (Piece × Loc)) : Prop :=
  s.locate win a pcs = .inr l ∧ ∀ e, e ∈ l → s.heldAt e.2 = false ∧ s.poisonAt e.2 = false

/-- Does byte `a` of memory or of the tile stores lie in none of the pieces? -/
def OutsideTs (l : List (Piece × Loc)) (a : Nat) : Prop :=
  ∀ p t o, (p, Loc.ts t o) ∈ l → a < t * 2 ^ 20 + o ∨ t * 2 ^ 20 + o + p.n ≤ a

end Sys2Proof.Claims

/-- R384, R385, R392, R382, R383: the element-wise instructions: every active element by its row of the table, the others zero or
D's, the tag f, the flags of the active elements; the latency.

R266, R383, R438: a v-register A of the element-wise instructions that does not carry the format traps FMT, with INFO naming the
field and the tag.
Of the model, not of the rules, are the choices of notes/assumptions 12 and 13. -/
def Obligations.ElementWise : Prop :=
  (∀ (i : Instr) (w : Ins) (lat : Nat) (hasB readsD : Bool) (op : Fmt → Nat → Nat → Nat → Nat × Flags) (s : State),
    elemRow i = some (w, lat, hasB, readsD, op) → VecFree i w s →
    let x := s.slot
    let f := fmtD w
    let c := f.container
    let any := Forms.anyOf (mods w.d)
    let av := (x.getV (num w.a)).val
    let dv := (x.getV (num w.d)).val
    let one (e : Nat) : Nat × Flags := op f (elem c av e) (if hasB then bValueOf x c w.b e else 0) (if readsD then elem c dv e else 0)
    Tagged any x (num w.a) f → (hasB = true → Forms.clsOf w.b = 2 → Tagged any x (num w.b) f) →
    (readsD = true ∨ mergesOld w → Tagged any x (num w.d) f) →
      ∃ (r : BitVec 2048) (fl : Flags), Done i w s (vecTo s lat (.v (num w.d) ⟨some f, r⟩) fl) ∧
        (∀ e, e < 2048 / c → elem c r e = if bit (maskOfIns w x) (e * c / 32) then (one e).1 % 2 ^ c
          else if zeroing w then 0 else elem c dv e) ∧
        (∀ k, bit fl k = true ↔ ∃ e, e < 2048 / c ∧ bit (maskOfIns w x) (e * c / 32) = true ∧ bit (one e).2 k = true)) ∧
  (∀ (i : Instr) (w : Ins) (lat : Nat) (hasB readsD : Bool) (op : Fmt → Nat → Nat → Nat → Nat × Flags) (s : State),
    elemRow i = some (w, lat, hasB, readsD, op) → VecFree i w s → Forms.anyOf (mods w.d) = false →
    let x := s.slot
    let f := fmtD w
    ((x.getV (num w.a)).tag ≠ some f → exec i s = .next (s.trapAt w .fmt (2 ^ 16 + tagByte (x.getV (num w.a)).tag))) ∧
    ((x.getV (num w.a)).tag = some f → hasB = true → Forms.clsOf w.b = 2 → (x.getV (num w.b)).tag ≠ some f →
      exec i s = .next (s.trapAt w .fmt (2 * 2 ^ 16 + tagByte (x.getV (num w.b)).tag))))

/-- R386, R387, R388, R389, R293: VCMP, VSEL, VRED, VSCAN and VAMAX.
Of the model, not of the rules, are the choices of notes/assumptions 13. -/
def Obligations.ComparesAndReductions : Prop :=
  ∀ (w : Ins) (s : State),
    let x := s.slot
    let f := fmtD w
    let c := f.container
    let any := Forms.anyOf (mods w.d)
    let av := (x.getV (num w.a)).val
    let mask := maskOfIns w x
    let active (op i : Nat) : Nat := if bit mask i then laneOf av i else redUnit f op
    let op := (mods w.d).toNat % 8
    Tagged any x (num w.a) f → (Forms.clsOf w.b = 2 → Tagged any x (num w.b) f) →
    (VecFree (.vcmp w) w s → ∃ (m : Word64) (fl : Flags), Done (.vcmp w) w s (vecTo s 8 (.m (num w.d) m) fl) ∧
      ∀ i, i < 64 → bit m i =
        if bit mask i then
          (if f.isInt then holds op (decInt f (laneOf av i)) (decInt f (bValueOf x 32 w.b i))
           else (fCmp op (valF f (laneOf av i)) (valF f (bValueOf x 32 w.b i))).1)
        else if zeroing w then false else bit (x.getM (num w.d)) i) ∧
    (VecFree (.vsel w) w s → ∃ r : BitVec 2048, Done (.vsel w) w s (vecTo s 8 (.v (num w.d) ⟨some f, r⟩) 0) ∧
      ∀ e, e < 2048 / c → elem c r e = if bit mask (e * c / 32) then elem c av e else bValueOf x c w.b e) ∧
    (VecFree (.vred w) w s → ∃ (fl : Flags) (r : Nat → Nat → Nat), RedTree f op (active op) r ∧
      Done (.vred w) w s (vecTo s 14 (.s (num w.d)
        (if f.isI then sext (BitVec.ofNat 64 (r 0 0)) 32 else BitVec.ofNat 64 (r 0 0))) fl)) ∧
    (VecFree (.vscan w) w s → (mergesOld w → Tagged any x (num w.d) f) →
      ∃ (v : BitVec 2048) (fl : Flags) (r : Nat → Nat → Nat), ScanTree f op (active op) r ∧
        Done (.vscan w) w s (vecTo s 14 (.v (num w.d) ⟨some f, v⟩) fl) ∧
        ∀ i, i < 64 → laneOf v i =
          if bit mask i then (if bit (mods w.d) 3 then (if i = 0 then redUnit f op else r 6 (i - 1)) else r 6 i)
          else if zeroing w then 0 else laneOf (x.getV (num w.d)).val i) ∧
    (VecFree (.vamax w) w s → ∃ (v : Nat) (fl : Flags), Done (.vamax w) w s (vecTo s 14 (.s (num w.d) (BitVec.ofNat 64 v)) fl) ∧
      let on (e : Nat) : Prop := e < 2048 / c ∧ bit mask (e * c / 32) = true
      ((∃ e, on e ∧ (valF f (elem c av e)).isNaN = true) → v = 0x7FC00000) ∧
      ((∀ e, ¬ on e) → v = 0) ∧
      ((∃ e, on e) → (∀ e, on e → (valF f (elem c av e)).isNaN = false) →
        (∃ e, on e ∧ v = (encFp .f32 rneOpt (valF f (elem c av e)).abs).1) ∧
          ∀ e, on e → vLt (valF .f32 v) (valF f (elem c av e)).abs = false))

/-- R390, R393: VPERM, VSLIDE, VEXT, VINS, VBCAST, VTAG and VGTAG.
Of the model, not of the rules, are the choices of notes/assumptions 36. -/
def Obligations.LaneMovement : Prop :=
  ∀ (w : Ins) (s : State),
    let x := s.slot
    let any := Forms.anyOf (mods w.d)
    let a := x.getV (num w.a)
    let d := x.getV (num w.d)
    let mask := maskOfIns w x
    let at0 := any = true ∨ a.tag ≠ none
    let dOk := mergesOld w → any = true ∨ d.tag = a.tag
    let lane (src : Nat → Nat) (r : BitVec 2048) : Prop := ∀ i, i < 64 →
      laneOf r i = if bit mask i then src i else if zeroing w then 0 else laneOf d.val i
    let k := (x.opU w.b).toNat
    (VecFree (.vperm w) w s → at0 → (any = true ∨ (x.getV (num w.b)).tag = some .i32 ∨ (x.getV (num w.b)).tag = some .z32) → dOk →
      ∃ r : BitVec 2048, Done (.vperm w) w s (vecTo s 8 (.v (num w.d) ⟨movedFmt w x, r⟩) 0) ∧
        lane (fun i => laneOf a.val (laneOf (x.getV (num w.b)).val i % 64)) r) ∧
    (VecFree (.vslide w) w s → at0 → dOk →
      ∃ r : BitVec 2048, Done (.vslide w) w s (vecTo s 8 (.v (num w.d) ⟨movedFmt w x, r⟩) 0) ∧
        lane (fun i => let j := (i : Int) + (x.opS w.b).toInt
          if bit (mods w.d) 0 then laneOf a.val (j % 64).toNat else if 0 ≤ j ∧ j ≤ 63 then laneOf a.val j.toNat else 0) r) ∧
    (VecFree (.vext w) w s → at0 →
      (k ≤ 63 → Done (.vext w) w s (vecTo s 8 (.s (num w.d) (BitVec.ofNat 64 (laneOf a.val k))) 0)) ∧
      (63 < k → exec (.vext w) s = .next (s.trapAt w .countRange (k % 2 ^ 48)))) ∧
    (VecFree (.vins w) w s → (any = true ∨ d.tag ≠ none) →
      (k ≤ 63 → ∃ r : BitVec 2048, Done (.vins w) w s (vecTo s 8 (.v (num w.d) ⟨d.tag, r⟩) 0) ∧
        ∀ i, i < 64 → laneOf r i = if i = k then (x.getS (num w.a)).toNat % 2 ^ 32 else laneOf d.val i) ∧
      (63 < k → exec (.vins w) s = .next (s.trapAt w .countRange (k % 2 ^ 48)))) ∧
    (VecFree (.vbcast w) w s → ∃ r : BitVec 2048, Done (.vbcast w) w s (vecTo s 8 (.v (num w.d) ⟨some (fmtD w), r⟩) 0) ∧
      ∀ e, e < 2048 / (fmtD w).container → elem (fmtD w).container r e = (x.opS w.a).toNat % 2 ^ (fmtD w).container) ∧
    (VecFree (.vtag w) w s →
      let t : Option Fmt := if bit (mods w.d) 0 then none else some (fmtD w)
      Done (.vtag w) w s (vecTo s 8 (if Forms.clsOf w.d = 2 then .v (num w.d) ⟨t, d.val⟩
        else .t (num w.d) ⟨t, (x.getT (num w.d)).val, 0⟩) 0)) ∧
    (VecFree (.vgtag w) w s →
      Done (.vgtag w) w s (vecTo s 8 (.s (num w.d) (BitVec.ofNat 64
        (tagByte (if Forms.clsOf w.a = 2 then a.tag else (x.getT (num w.a)).tag)))) 0))

/-- R391, R394, R395: VDOT4 and VCVT: the elements of the converted range, lane by lane under the mask; the rest of D kept, or zero
for part 0.
Of the model, not of the rules, are the choices of notes/assumptions 14, 16, 37, 38 and 114. -/
def Obligations.DotProductsAndConversions : Prop :=
  ∀ (w : Ins) (s : State),
    let x := s.slot
    let any := Forms.anyOf (mods w.d)
    let f := fmtD w
    let g := Forms.fmtOf (mods w.a)
    let a := (x.getV (num w.a)).val
    let d := (x.getV (num w.d)).val
    let mask := maskOfIns w x
    Tagged any x (num w.a) g →
    (VecFree (.vdot4 w) w s → (Forms.clsOf w.b = 2 → Tagged any x (num w.b) g) → Tagged any x (num w.d) f →
      ∃ (r : BitVec 2048) (fl : Flags), Done (.vdot4 w) w s (vecTo s 8 (.v (num w.d) ⟨some f, r⟩) fl) ∧
        ∀ i, i < 64 →
          let p (j : Nat) : Nat := elem 8 a (4 * i + j)
          let q (j : Nat) : Nat := bValueOf x 8 w.b (4 * i + j)
          (bit mask i = false → laneOf r i = if zeroing w then 0 else laneOf d i) ∧
          (bit mask i = true → f = .i32 → laneOf r i = toType .i32 (bit (mods w.d) 0) (decInt .i32 (laneOf d i) +
            decInt g (p 0) * decInt g (q 0) + decInt g (p 1) * decInt g (q 1) + decInt g (p 2) * decInt g (q 2) +
            decInt g (p 3) * decInt g (q 3))) ∧
          (bit mask i = true → f = .f32 → ∀ u0 u1 u2 u3 v0 v1 v2 v3 z : ℚ, ratio (valF g (p 0)) = some u0 → ratio (valF g (p 1)) = some u1 →
            ratio (valF g (p 2)) = some u2 → ratio (valF g (p 3)) = some u3 → ratio (valF g (q 0)) = some v0 →
            ratio (valF g (q 1)) = some v1 → ratio (valF g (q 2)) = some v2 → ratio (valF g (q 3)) = some v3 →
            ratio (valF .f32 (laneOf d i)) = some z →
            ∃ y : FVal, ratio y = some (z + u0 * v0 + u1 * v1 + u2 * v2 + u3 * v3) ∧ laneOf r i = (encFp .f32 rneOpt y).1 % 2 ^ 32)) ∧
    (VecFree (.vcvt w) w s →
      let ct := f.container
      let part := (mods w.a).toNat / 8 % 4
      let m := min g.count f.count
      let lo := if g.count < f.count then part * g.count else 0
      let blk := g.isBlock ∨ f.isBlock
      (blk → Tagged any x (num w.b) (if g.isBlock then g.companion else f.companion)) →
      (g.count < f.count ∧ part ≠ 0 ∨ mergesOld w → Tagged any x (num w.d) f) →
      let one (e : Nat) : Nat :=
        let se := e - lo + (if f.count < g.count then part * f.count else 0)
        let k := if g.isBlock then se else e
        let st := if bit (mods w.d) 3 then srSteps (srSeed (x.opS w.b).toNat (e * ct / 32)) (32 * (e % max 1 (32 / ct) + 1)) else 0
        (vcvtElem g f (cvtOpt (mods w.d) st) (elem 8 (x.getV (num w.b)).val (k / (if g.isBlock then g else f).block))
          (elem g.container a se % 2 ^ g.memBits)).1
      ∃ (r conv : BitVec 2048) (fl : Flags), Done (.vcvt w) w s (vecTo s 8 (.v (num w.d) ⟨some f, r⟩) fl) ∧
        (∀ e, lo ≤ e → e < lo + m → elem ct conv e = one e % 2 ^ ct) ∧
        ∀ i, i < 64 → laneOf r i =
          if lo * ct ≤ 32 * i ∧ 32 * i < (lo + m) * ct then
            (if bit mask i then laneOf conv i else if zeroing w then 0 else laneOf d i)
          else if part = 0 then 0 else laneOf d i)

/-- R396-R399, R254, R222: the vector loads: once every active piece is aligned and reached, D's active lanes receive the bytes read,
in order; the others are zero or D's. From the cluster window they are those of the tile stores, and nothing else changes.
Of the model, not of the rules, are the choices of notes/assumptions 39. -/
def Obligations.VectorLoads : Prop :=
  ∀ (i : Instr) (w : Ins) (pieces : Slot → Fmt → Word64 → List Piece) (al : Slot → Prop) (s : State) (l : List (Piece × Loc)),
    vmemRow i = some (w, true, pieces, al) → VecFree i w s →
    let x := s.slot
    let f := fmtD w
    let m := mods w.d
    let mask := x.getM (m.toNat % 4)
    let z := bit m 2
    let win := bit m 3
    let old := (x.getV (num w.d)).val
    al x → (m.toNat % 4 ≠ 0 ∧ z = false → Tagged (Forms.anyOf m) x (num w.d) f) →
    (Forms.clsOf w.b = 2 → Forms.anyOf m = true ∨ (x.getV (num w.b)).tag = some .i32 ∨ (x.getV (num w.b)).tag = some .z32) →
    Placed s win .load (pieces x f mask) l →
      ∃ r : BitVec 2048,
        Done i w s (s.passedAll win .load (pieces x f mask) (vecTo (s.readAll l 0).2 14 (.v (num w.d) ⟨some f, r⟩) 0)) ∧
        (∀ j, j < 64 → bit mask j = false → laneOf r j = if z then 0 else laneOf old j) ∧
        (∀ j, j < 64 → bit mask j = true → laneOf r j = laneOf (BitVec.ofNat 2048 (regBits f (s.readAll l 0).1)) j) ∧
        (win = true → (s.readAll l 0).2 = s ∧
          ∀ p t o, (p, Loc.ts t o) ∈ l → (s.readAll l 0).1 >>> p.place % 2 ^ (8 * p.n) = s.tsRead t o p.n)

/-- R396-R399, R225, R222, R262: the vector stores: once every active piece is aligned and reached, the bytes stored are those of the
source as memory packs them, in the tile stores or as this cluster then reads them; every other byte, of memory and of the tile stores,
is as before.
Of the model, not of the rules, are the choices of notes/assumptions 39. -/
def Obligations.VectorStores : Prop :=
  ∀ (i : Instr) (w : Ins) (pieces : Slot → Fmt → Word64 → List Piece) (al : Slot → Prop) (s : State) (l : List (Piece × Loc)),
    vmemRow i = some (w, false, pieces, al) → VecFree i w s →
    let x := s.slot
    let m := mods w.a
    let f := Forms.fmtOf m
    let mask := x.getM (m.toNat % 4)
    let win := bit m 3
    let a := x.getV (num w.a)
    let buddy := buddyOf (clusterOf s.cur / 4)
    al x → Tagged (Forms.anyOf m) x (num w.a) f →
    (Forms.clsOf w.b = 2 → Forms.anyOf m = true ∨ (x.getV (num w.b)).tag = some .i32 ∨ (x.getV (num w.b)).tag = some .z32) →
    Placed s win .store (pieces x f mask) l →
    (∀ p pa unc mir, (p, Loc.mem pa unc mir) ∈ l → pa < 2 ^ 52 ∧ pa % 64 + p.n ≤ 64 ∧ s.isPt (lineOf pa) = false ∧
      s.ptHeld (lineOf pa) = false ∧ (mir = true → buddy ∉ s.ring.gone ∧ buddy ∉ s.ring.suspect ∧ s.coh.mirror.length + l.length ≤ 8192)) →
      ∃ (u : State) (img : Nat), Done i w s (s.passedAll win .store (pieces x f mask) (queued u)) ∧ (∀ n, n ≠ s.cur → u.getSlot n = s.getSlot n) ∧
        u.getSlot s.cur = { s.slot with lclock := (u.getSlot s.cur).lclock } ∧
        (∀ b, OutsideTs l b → Mem.get u.ts b = Mem.get s.ts b) ∧
        (f.memBits ≠ 6 → img = a.val.toNat) ∧
        (f.memBits = 6 → ∀ e, e < 256 → img >>> (6 * e) % 64 = elem 8 a.val e % 64) ∧
        (win = true → u = { s with ts := u.ts, tsPoison := u.tsPoison }) ∧
        (win = false → u.ts = s.ts ∧ ∀ c b, b < 2 ^ 52 →
          (∀ p pa unc mir, (p, Loc.mem pa unc mir) ∈ l → b < pa ∨ pa + p.n ≤ b) → view u c b = view s c b) ∧
        (l.Pairwise (fun p q => p.2.line ≠ q.2.line ∨ p.2.byte + p.1.n ≤ q.2.byte ∨ q.2.byte + q.1.n ≤ p.2.byte) →
          (∀ p t o, (p, Loc.ts t o) ∈ l → u.tsRead t o p.n = img >>> p.place % 2 ^ (8 * p.n)) ∧
          (∀ p pa unc mir j, (p, Loc.mem pa unc mir) ∈ l → j < p.n →
            view u (clusterOf s.cur) (pa + j) = BitVec.ofNat 8 (img >>> (p.place + 8 * j))))

namespace Sys2Proof.Claims
open Sys2Proof Sys2Proof.Machine

/-- A tile-store operand of `n` bytes that passes its checks in free mode (R408): aligned, in the scratch partition of a tile that
no compact holds, and, for a read, free of poison. -/
abbrev ScratchOk (s : State) (o : Word64) (n : Nat) (reads : Bool) : Prop :=
  let t := tileOf s.cur
  o.toNat % 64 = 0 ∧ (s.tile t).held = none ∧ o.toNat + n ≤ (s.tile t).scr.toNat * 65536 ∧
    (reads = true → ∀ g, g ∈ s.tsPoison → g < t * 2 ^ 14 + o.toNat / 64 ∨ t * 2 ^ 20 + o.toNat + n ≤ 64 * g)

/-- v- or t-register tags for a matrix instruction, `.any` apart (R266). -/
def TaggedT (any : Bool) (x : Slot) (n : Nat) (ok : Fmt → Prop) : Prop := any = true ∨ ∃ f, (x.getT n).tag = some f ∧ ok f

/-- The offset of a TS operand as its command holds it. -/
def offArg (x : Slot) (o : Operand) : Word64 := x.ea o

/-- Rows of group B that enter the MX queue: the word, the operation number, its register values, whether A is a v pair, and what
the instruction asks of its operands (R408, R415-R417). -/
def mxRow : Instr → Option (Ins × Nat × (Slot → List Word64) × (State → Prop))
  | .mld w => some (w, 0x2C2, fun x => [x.ea w.a], fun s => ScratchOk s (s.slot.ea w.a) 4096 true)
  | .mst w => some (w, 0x2C3, fun x => [x.ea w.d], fun s =>
      TaggedT (Forms.anyOf (mods w.a)) s.slot (num w.a) (· = Forms.fmtOf (mods w.a)) ∧ ScratchOk s (s.slot.ea w.d) 4096 false)
  | .mzero w => some (w, 0x2C4, fun _ => [], fun _ => True)
  | .mcvt w => some (w, 0x2C7, fun x => [x.opS w.b], fun s =>
      TaggedT (Forms.anyOf (mods w.d)) s.slot (num w.a) fun f => f = .f32 ∨ f = .i32)
  | .mscale w => some (w, 0x2C8, fun _ => [], fun s => Tagged (Forms.anyOf (mods w.d)) s.slot (num w.a) .f32 ∧
      TaggedT (Forms.anyOf (mods w.d)) s.slot (num w.d) (· = .f32) ∧ s.slot.streams = Vector.replicate 4 none)
  | .mtrans w => some (w, 0x2C9, fun _ => [], fun s =>
      TaggedT (Forms.anyOf (mods w.d)) s.slot (num w.a) fun f => f = .f32 ∨ f = .i32 ∨ f = .z32 ∨ f = .f32x3)
  | .seminc w => some (w, 0x2CA, fun x => [x.opU w.a, x.opU w.b], fun s =>
      (mods w.d).toNat % 4 = 1 ∧ (s.slot.opU w.a).toNat ≤ 15 ∧ (s.slot.opU w.b).toNat ≤ 65535)
  | .semwait w => some (w, 0x2CB, fun x => [x.opU w.a, x.opU w.b], fun s =>
      (mods w.d).toNat % 4 = 1 ∧ (s.slot.opU w.a).toNat ≤ 15 ∧ (s.slot.opU w.b).toNat ≤ 65535)
  | .mmac w => if Forms.isMem w.a then
      some (w, 0x2C5, fun x => [x.getS (num w.b), x.ea w.a], fun s =>
        fld (s.slot.getS (num w.b)) 63 35 = 0 ∧ ScratchOk s (s.slot.ea w.a) (aExtent (fmtD w) (s.slot.getS (num w.b))) true)
    else if Forms.clsOf w.a = 2 then
      some (w, 0x2C5, fun x => [x.getS (num w.b), 0], fun s => fld (s.slot.getS (num w.b)) 63 35 = 0 ∧
        fld (s.slot.getS (num w.b)) 18 9 + 1 ≤ 128 / (fmtD w).container ∧ Tagged (Forms.anyOf (mods w.d)) s.slot (num w.a) (fmtD w) ∧
        Tagged (Forms.anyOf (mods w.d)) s.slot (num w.a + 1) (fmtD w) ∧ s.slot.streams = Vector.replicate 4 none)
    else
      some (w, 0x2C5, fun x => [x.getS (num w.b), 0], fun s => fld (s.slot.getS (num w.b)) 63 35 = 0 ∧
        fld (s.slot.getS (num w.b)) 18 9 + 1 ≤ 1024 / (fmtD w).container ∧
        TaggedT (Forms.anyOf (mods w.d)) s.slot (num w.a) (· = fmtD w))
  | .mldb w => if bit (mods w.d) 0 then
      let c := (fmtD w).hasCompanion
      some (w, 0x2C1, fun x =>
        [BitVec.ofNat 64 (fld (x.getS (num w.d)) 8 0), BitVec.ofNat 64 (fld (x.getS (num w.d)) 24 16 + 1), 1, x.getS (num w.a),
          if c then x.getS (num w.b) else 0], fun s =>
        let d := s.slot.getS (num w.d)
        let n := fld d 24 16 + 1
        d &&& 0xFFFFFFFFFE00FE00 = 0 ∧ fld d 8 0 + n ≤ 512 ∧ (fmtD w = .f32x3 → n % 3 = 0) ∧
          ScratchOk s (s.slot.getS (num w.a)) (512 * n) false ∧ (c = true → ScratchOk s (s.slot.getS (num w.b)) (192 * n) false))
    else none
  | _ => none

/-- The tile of the current slot with a command more in its MX queue; its t-registers and v-registers are busy until then
(R145, R151, R159). -/
def mxQueued (s : State) (c : Cmd) (pair : Bool) : State :=
  let t := tileOf s.cur
  (s.setTile t { s.tile t with mxq := (s.tile t).mxq ++ [c] }).modSlot s.cur fun x => x.markOp c.w pair true

/-- A descriptor address that passes its checks: on its boundary, and, but in the cluster window, below 2^48 (R298, R419). -/
def DescAt (ea : Word64) (n : Nat) (win : Bool) : Prop := ea.toNat % n = 0 ∧ (win = true ∨ ea.toNat < 2 ^ 48)

/-- Rows of group C: the word, the command number, the queue, its places, the register values, and what is asked of the operands
(R419-R426). -/
def engRow : Instr → Option (Ins × Nat × (State → Nat) × Nat × (Slot → List Word64) × (Slot → Prop))
  | .copy w => some (w, 0x301, State.myCe, 8, fun x => [x.getS (num w.d), x.getS (num w.a), x.getS (num w.b)], fun x =>
      fld (x.getS (num w.d)) 63 40 = 0)
  | .copy2d w => some (w, 0x302, State.myCe, 8, fun x =>
      [x.getS (num w.d), x.getS (num w.a), x.getS (num w.b), x.getS (num w.a + 1), x.getS (num w.b + 1)], fun x =>
      fld (x.getS (num w.d)) 63 48 = 0)
  | .gather w => some (w, 0x303, State.myCe, 8, fun x => [0, x.getS (num w.a), x.ea w.b], fun x => DescAt (x.ea w.b) 32 false)
  | .scatter w => some (w, 0x304, State.myCe, 8, fun x => [0, x.getS (num w.a), x.ea w.b], fun x => DescAt (x.ea w.b) 32 false)
  | .stream w => some (w, 0x305, State.myCe, 8, fun x => [0, 0, x.ea w.b], fun x => DescAt (x.ea w.b) 32 (bit (mods w.d) 1))
  | .strend w => some (w, 0x306, State.myCe, 8, fun _ => [], fun _ => True)
  | .routeDsp w => some (w, 0x307, fun s => tileOf s.cur * 8 + 4, 4, fun x => [0, 0, x.ea w.a], fun x => DescAt (x.ea w.a) 128 false)
  | .routeCmb w => some (w, 0x308, fun s => tileOf s.cur * 8 + 4, 4, fun x => [0, 0, x.ea w.a], fun x => DescAt (x.ea w.a) 128 false)
  | .routeStat w => some (w, 0x309, fun s => tileOf s.cur * 8 + 4, 4, fun x => [0, 0, x.ea w.a], fun x => DescAt (x.ea w.a) 128 false)
  | _ => none

/-- The descriptor address of an engine command, its boundary, and whether it lies in the cluster window (R422, R424, R425). -/
def descRow : Instr → Option (Ins × Operand × Nat × Bool)
  | .gather w | .scatter w => some (w, w.b, 32, false)
  | .stream w => some (w, w.b, 32, bit (mods w.d) 1)
  | .routeDsp w | .routeCmb w | .routeStat w => some (w, w.a, 128, false)
  | _ => none

/-- The status and data registers of a fabric instruction (R431), and its request (R41, R432). -/
def fabRequest (x : Slot) (pa : Nat) : Instr → Option (Ins × Request × FabUse × Bool)
  | .rld w => some (w, mkRequest 0 0 pa (size (mods w.d)) 0 [], .rld (num w.d) (size (mods w.d)) (bit (mods w.d) 0), true)
  | .ratom w =>
    let n := size (mods w.d)
    some (w, mkRequest 2 0 pa n (mods w.b).toNat (bytesOfNat n ((x.getS (num w.b)).toNat % 2 ^ (8 * n)) ++
      bytesOfNat n ((x.getS (num w.d + 1)).toNat % 2 ^ (8 * n))), .ratom (num w.d) n, true)
  | .rst w =>
    let n := size (mods w.d)
    some (w, mkRequest 1 (Forms.oth2 (mods w.d)) pa n 0 (bytesOfNat n ((x.opS w.b).toNat % 2 ^ (8 * n))),
      .rst (num w.d) (Forms.oth2 (mods w.d) = 0), false)
  | _ => none

/-- The operand of a fabric instruction lies on a page of package `pkg` (R431). -/
abbrev OnPackage (s : State) (ea : Word64) (n : Nat) (a : Acc) (pkg pa : Nat) : Prop :=
  ea.toNat % n = 0 ∧ ea.toNat < 2 ^ 48 ∧ s.slot.denied a ea.toNat = false ∧ s.xlate s.cur ea.toNat a = .far pkg pa

/-- The access kind of a fabric instruction. -/
def fabAcc : Instr → Acc
  | .rst _ => .store
  | .ratom _ => .atomic
  | _ => .load

end Sys2Proof.Claims

/-- R408, R413, R415-R417, R151, R159: the matrix instructions in free mode enter the MX queue of their tile, their registers busy
until the unit has run; with the queue full they wait.

R409, R414: MLDB from memory, its pages translated, and MMACR, which holds its slot until the unit has run it.
Of the model, not of the rules, are the choices of notes/assumptions 41. -/
def Obligations.MatrixIssue : Prop :=
  (∀ (i : Instr) (w : Ins) (op : Nat) (args : Slot → List Word64) (ok : State → Prop) (s : State),
    mxRow i = some (w, op, args, ok) → Free i w s → ok s →
      ((s.tile (tileOf s.cur)).mxq.length < 8 →
        Done i w s (mxQueued s (mkCmd s op w (args s.slot)) (decide (op = 0x2C5 ∧ Forms.clsOf w.a = 2)))) ∧
      (8 ≤ (s.tile (tileOf s.cur)).mxq.length → exec i s = .next (s.waitFor .full))) ∧
  (∀ (w : Ins) (s : State),
    let x := s.slot
    let f := fmtD w
    let d := x.getS (num w.d)
    let n := fld d 24 16 + 1
    let a := x.getS (num w.a)
    let room := (s.tile (tileOf s.cur)).mxq.length < 8
    (∀ ps qs : List Nat, Free (.mldb w) w s → bit (mods w.d) 0 = false → d &&& 0xFFFFFFFFFE00FE00 = 0 → fld d 8 0 + n ≤ 512 →
      (f = .f32x3 → n % 3 = 0) → a.toNat % 64 = 0 → s.mxPages a (512 * n) = .inr ps → room →
      ((f.hasCompanion = true ∧ (x.getS (num w.b)).toNat % 64 = 0 ∧ s.mxPages (x.getS (num w.b)) (192 * n) = .inr qs) ∨
        (f.hasCompanion = false ∧ qs = [])) →
      Done (.mldb w) w s (mxQueued s (mkCmd s 0x2C1 w ([BitVec.ofNat 64 (fld d 8 0), BitVec.ofNat 64 n, 0, a,
        if f.hasCompanion then x.getS (num w.b) else 0] ++ (ps ++ qs).map (BitVec.ofNat 64))) false)) ∧
    (Free (.mldb w) w s → (d &&& 0xFFFFFFFFFE00FE00 ≠ 0 ∨ 512 < fld d 8 0 + n ∨ (f = .f32x3 ∧ n % 3 ≠ 0)) →
      exec (.mldb w) s = .next (s.trapAt w .engine 0)) ∧
    (Free (.mmacr w) w s →
      let b := x.getS (num w.b)
      (fld b 63 35 ≠ 0 → exec (.mmacr w) s = .next (s.trapAt w .engine 0)) ∧
      (fld b 63 35 = 0 → a.toNat % 4 = 0 → a.toNat < 2 ^ 48 → (∀ p, x.park = some p → p.deny = true → p.acc ≠ Acc.mxFetch.code) → room →
        ((s.tile (tileOf s.cur)).mxq.any fun c => c.op == 0x2C6 && c.slot == s.cur) = false →
        ∃ t, exec (.mmacr w) s = .next t ∧ (t.getSlot s.cur).wait = .full ∧ (t.getSlot s.cur).pc = x.pc ∧
          (t.tile (tileOf s.cur)).mxq = (s.tile (tileOf s.cur)).mxq ++ [mkCmd s 0x2C6 w [b, a]])))

/-- R417, R161: SEMINC and SEMWAIT by the strand itself, and at the copy engine; a count or a number out of range traps
COUNT_RANGE. -/
def Obligations.TileSemaphores : Prop :=
  ∀ (w : Ins) (s : State),
    let x := s.slot
    let t := tileOf s.cur
    let i := (x.opU w.a).toNat
    let n := (x.opU w.b).toNat
    let e := (mods w.d).toNat % 4
    let ok := i ≤ 15 ∧ n ≤ 65535
    let q := (s.core (coreOf s.cur)).ceq
    (Free (.seminc w) w s → ok → e = 0 → Done (.seminc w) w s (s.semAdd t i n) ∧
      (s.semAdd t i n).semVal t i = min (s.semVal t i + n) 65535 ∧
      ∀ j, j ≠ i → (s.semAdd t i n).semVal t j = s.semVal t j) ∧
    (Free (.semwait w) w s → ok → e = 0 →
      (n = 0 → Done (.semwait w) w s s) ∧
      (0 < n → n ≤ s.semVal t i → (s.tile t).semw = [] →
        ∃ u : State, Done (.semwait w) w s u ∧ u.semVal t i = s.semVal t i - n) ∧
      (s.semVal t i < n → (s.tile t).semw = [] →
        ∃ u : State, exec (.semwait w) s = .next u ∧ (u.getSlot s.cur).wait = .sem i ∧ (u.tile t).semw = [⟨i, s.cur, n, w⟩] ∧
          u.semVal t i = s.semVal t i)) ∧
    (∀ j op, (j = .seminc w ∧ op = 0x2CA) ∨ (j = .semwait w ∧ op = 0x2CB) → Free j w s →
      (ok → e = 2 → q.length < 8 → Done j w s (s.setCore (coreOf s.cur)
        { s.core (coreOf s.cur) with ceq := q ++ [mkCmd s op w [x.opU w.a, x.opU w.b]] })) ∧
      (15 < i → exec j s = .next (s.trapAt w .countRange (i % 2 ^ 48))) ∧
      (i ≤ 15 → 65535 < n → exec j s = .next (s.trapAt w .countRange (n % 2 ^ 48))))

/-- R412, R289: a multiply-accumulate of integers with a register A, without SAT: every element of D gains its sum of products
modulo 2^32; D's tag stays, the queue goes on.
Of the model, not of the rules, are the choices of notes/assumptions 41. -/
def Obligations.MultiplyAccumulate : Prop :=
  ∀ (t : Nat) (c : Cmd) (rest : List Cmd) (s : State) (p : MxPlan), s.power = true →
    (s.tile t).mxq = c :: rest → c.op = 0x2C5 →
    s.engWaits (t * 8 + 5) c = false → s.compactAt c.slot = false →
    let x := s.getSlot c.slot
    let f := fmtD c.w
    let kt := fld (c.arg 0) 18 9
    let dn := num c.w.d
    let r := x.getT dn
    mxPlan (s.tile t) r.tag f (fld (c.arg 0) 8 0) kt = some p → f.isInt = true → p.fb.isInt = true →
    bit (mods c.w.d) 0 = false → c.acc = [] → c.pos = 0 → dn < 2 → x.late = [] → (Forms.clsOf c.w.a = 2 ∨ Forms.clsOf c.w.a = 4) →
    (kt + 1) * f.container ≤ (if Forms.clsOf c.w.a = 2 then 128 else 1024) →
    let av (i k : Nat) : Int := decInt f ((if Forms.clsOf c.w.a = 2
      then (x.getV (num c.w.a + i / 16)).val.toNat >>> (128 * (i % 16)) else (x.getT (num c.w.a)).val.toNat >>> (1024 * i)) >>> (k * f.container))
    let per := min 32 (128 / p.fb.memBits)
    let bv (k j : Nat) : Int := match Tbl.get? (s.tile t).ws (fld (c.arg 0) 8 0 + k / per) with
      | some e => decInt p.fb (e.data.toNat >>> (128 * j + k % per * p.fb.memBits))
      | none => 0
      ∃ u : State, exec (.mxOpStart t) s = .next u ∧ (u.tile t).mxq = rest ∧ u.mem = s.mem ∧ u.ts = s.ts ∧
        ((u.getSlot c.slot).getT dn).tag = r.tag ∧
        ∀ i j, i < 32 → j < 32 → tElem ((u.getSlot c.slot).getT dn).val i j =
          ((decInt .i32 (tElem r.val i j) + ((List.range (kt + 1)).map fun k => av i k * bv k j).sum) % 2 ^ 32).toNat

/-- R408, R412, R415, R416, R404: MX_OP_START runs the head of the queue: MLD, MST, MZERO, MTRANS, MSCALE and MCVT leave their result;
a multiply-accumulate whose slices or tag do not fit leaves D without a tag; MMACR then lets its slot go on.
Of the model, not of the rules, are the choices of notes/assumptions 41, 43 and 106. -/
def Obligations.MatrixOperations : Prop :=
  ∀ (t : Nat) (c : Cmd) (rest : List Cmd) (s : State), s.power = true →
    (s.tile t).mxq = c :: rest → s.engWaits (t * 8 + 5) c = false →
    s.compactAt c.slot = false → num c.w.d < 2 →
    let x := s.getSlot c.slot
    let w := c.w
    let dn := num w.d
    let d := x.getT dn
    let a := x.getT (num w.a)
    let leaves (r : TReg → Prop) : Prop := ∃ u : State, exec (.mxOpStart t) s = .next u ∧ (u.tile t).mxq = rest ∧ u.mem = s.mem ∧
      u.ts = s.ts ∧ r ((u.getSlot c.slot).getT dn) ∧ (u.getSlot c.slot).s = x.s ∧ (u.getSlot c.slot).v = x.v
    (c.op = 0x2C2 → leaves fun r => r = ⟨some (fmtD w), BitVec.ofNat 32768 (s.tsRead t (c.arg 0).toNat 4096), 0⟩) ∧
    (c.op = 0x2C3 → ∃ u : State, exec (.mxOpStart t) s = .next u ∧ (u.tile t).mxq = rest ∧ u.mem = s.mem ∧
      ((c.arg 0).toNat + 4096 ≤ 2 ^ 20 → tileOf c.slot = t → u.tsRead t (c.arg 0).toNat 4096 = a.val.toNat ∧
        ∀ b, (b < t * 2 ^ 20 + (c.arg 0).toNat ∨ t * 2 ^ 20 + (c.arg 0).toNat + 4096 ≤ b) → Mem.get u.ts b = Mem.get s.ts b)) ∧
    (c.op = 0x2C4 → leaves fun r => r = ⟨some (fmtD w), 0, 0⟩) ∧
    (c.op = 0x2C9 → leaves fun r => r.tag = a.tag ∧ ∀ i j, i < 32 → j < 32 → tElem r.val i j = tElem a.val j i) ∧
    (c.op = 0x2C8 → leaves fun r => r.tag = some .f32 ∧ ∀ i j, i < 32 → j < 32 → tElem r.val i j =
      (encFp .f32 rneOpt (vMul (valF .f32 (tElem d.val i j))
        (valF .f32 (laneOf (x.getV (num w.a)).val (if bit (mods w.d) 0 then j else i)))).1).1 % 2 ^ 32) ∧
    (c.op = 0x2C7 → bit (mods w.d) 3 = false → (fmtD w).container ≤ 32 → leaves fun r => r.tag = some (fmtD w) ∧ ∀ e, e < 1024 →
      r.val.toNat >>> ((fmtD w).container * e) % 2 ^ (fmtD w).container =
        (cvtElem (a.tag.getD .f32) (fmtD w) (cvtOpt (mods w.d) 0) (tElem a.val (e / 32) (e % 32))).1 % 2 ^ (fmtD w).container) ∧
    ((c.op = 0x2C5 ∨ c.op = 0x2C6) → mxPlan (s.tile t) d.tag (fmtD w) (fld (c.arg 0) 8 0) (fld (c.arg 0) 18 9) = none →
      leaves fun r => r.tag = none) ∧
    (c.op = 0x2C6 → mxPlan (s.tile t) d.tag (fmtD w) (fld (c.arg 0) 8 0) (fld (c.arg 0) 18 9) = none →
      ∃ u : State, exec (.mxOpStart t) s = .next u ∧ (u.getSlot c.slot).pc = x.pc + 12 ∧ (u.getSlot c.slot).wait = .none)

/-- R419-R426, R170: the copy, stream and routing instructions in free mode enter their queue, D awaiting the status word; a full
queue gives D QFULL at once, a misaligned descriptor traps ALIGN, one past the address space PROT, reserved bits of a length trap
ENGINE. The package's clock (notes/assumptions 115) is no state of the spec.
Of the model, not of the rules, are the choices of notes/assumptions 45. -/
def Obligations.EngineIssue : Prop :=
  (∀ (i : Instr) (w : Ins) (op cap : Nat) (q : State → Nat) (args : Slot → List Word64) (ok : Slot → Prop) (s : State),
    engRow i = some (w, op, q, cap, args, ok) → Free i w s → ok s.slot →
      ((s.queueOf (q s)).length < cap →
        Done i w s (((s.setQueueOf (q s) (s.queueOf (q s) ++ [mkCmd s op w (args s.slot)])).raiseClock s.slot.lclock).await (num w.d))) ∧
      (cap ≤ (s.queueOf (q s)).length → Done i w s (s.put 1 (.s (num w.d) 0x0100000000000000)))) ∧
  (∀ (i : Instr) (w : Ins) (o : Operand) (n : Nat) (win : Bool) (s : State), descRow i = some (w, o, n, win) → Free i w s →
    ((s.slot.ea o).toNat % n ≠ 0 → exec i s = .next (s.trapAt w .align ((s.slot.ea o).toNat % 2 ^ 48))) ∧
    ((s.slot.ea o).toNat % n = 0 → win = false → 2 ^ 48 ≤ (s.slot.ea o).toNat →
      exec i s = .next (s.trapAt w .prot ((s.slot.ea o).toNat % 2 ^ 48)))) ∧
  (∀ (w : Ins) (s : State),
    (Free (.copy w) w s → fld (s.slot.getS (num w.d)) 63 40 ≠ 0 → exec (.copy w) s = .next (s.trapAt w .engine 0)) ∧
    (Free (.copy2d w) w s → fld (s.slot.getS (num w.d)) 63 48 ≠ 0 → exec (.copy2d w) s = .next (s.trapAt w .engine 0)))

/-- R421, R418, R198: a COPY within one granule of the cluster window, both sides in scratch partitions of free tiles, whose turn it is: ENGINE_COMMAND_START
moves its bytes and no other, sends its status OK with the count on its way, and takes it from the queue.
Of the model, not of the rules, are the choices of notes/assumptions 22 and 45. -/
def Obligations.CopiesWindowBytes : Prop :=
  ∀ (t k : Nat) (c : Cmd) (rest : List Cmd) (s : State) (du do' su so n : Nat), s.power = true → k < 4 → t < 784 →
    (s.core (coreAt t k)).ceq = c :: rest → c.op = 0x301 → s.engWaits (t * 8 + k) c = false → c.pos = 0 → s.compactAt c.slot = false →
    c.fin = none → c.done = none → c.out = [] → c.pts = [] → c.late = false → (t < 768 → s.ceTurn t = some k) →
    bit (mods c.w.d) 0 = true → bit (mods c.w.d) 1 = true → Forms.ordOf (mods c.w.d) = 0 →
    fld (c.arg 0) 39 0 = n → 0 < n → do' % 64 + n ≤ 64 → so + n ≤ 2 ^ 20 →
    let tile (u : Nat) : Nat := clusterOfTile t * 48 + u
    let free (u off : Nat) : Prop := u < 48 ∧ (s.tile (tile u)).held = none ∧ off + n ≤ (s.tile (tile u)).scr.toNat * 65536 ∧
      ∀ j, j < n → s.tsPoison.contains (tile u * 2 ^ 14 + (off + j) / 64) = false
    (c.arg 1).toNat = du * 2 ^ 20 + do' → (c.arg 2).toNat = su * 2 ^ 20 + so → do' < 2 ^ 20 → free du do' → free su so →
      ∃ u : State, exec (.engineCommandStart t k) s = .next u ∧ u.tsRead (tile du) do' n = s.tsRead (tile su) so n ∧
        (∀ b, (b < tile du * 2 ^ 20 + do' ∨ tile du * 2 ^ 20 + do' + n ≤ b) → Mem.get u.ts b = Mem.get s.ts b) ∧ u.mem = s.mem ∧
        (u.core (coreAt t k)).ceq = rest ∧
        u.landings = s.landings ++ [⟨c.slot, num c.w.d, c.recAddr, c.ctx, c.asid, BitVec.ofNat 64 n⟩]

/-- R431, R432, R53, R434: RLD, RST and RATOM: a request of the strand to the package of the page, its registers awaiting the RESP;
the status of a refusal, or PROT for a page of this package, at once; a RESP already received ends an acquiring one, its status with LATE (R55). RFENCE waits while stores of the strand are not acknowledged at its scope's level,
then acts as FENCE (R433, R44).
Of the model, not of the rules, are the choices of notes/assumptions 29 and 49. -/
def Obligations.FabricAccesses : Prop :=
  (∀ (i : Instr) (w : Ins) (q : Request) (use : FabUse) (pair : Bool) (s : State) (pkg pa : Nat), fabRequest s.slot pa i = some (w, q, use, pair) →
    Free i w s → OnPackage s (s.slot.ea w.a) (size (mods w.d)) (fabAcc i) pkg pa →
    let r := num w.d
    let o := Forms.ordOf (mods w.d)
    let rel := pair = false ∧ o = 2 ∨ fabAcc i = .atomic ∧ 2 ≤ o
    (rel → s.relWaits 7 = false) →
    let s1 := if rel then s.release 7 else s
    let done (t : State) : Prop := Done i w s (s.passed s.cur (s.slot.ea w.a).toNat (fabAcc i) t)
    (pair = true → o ≠ 1 → o ≠ 3 → s1.acceptsMine pkg q = true →
      done (((s1.sendReq pkg q use).await r).await (r + 1))) ∧
    (pair = false → s1.acceptsMine pkg q = true →
      let t := s1.sendReq pkg q use
      done (if Forms.oth2 (mods w.d) = 0 then t.put 1 (.s r 0) else t.await r)) ∧
    (o ≠ 1 → o ≠ 3 → s1.acceptsMine pkg q = false →
      let v : Word64 := if s.member pkg then 0x0500000000000000 else 0x0600000000000000
      done (if fabAcc i = .load then (s1.put 1 (.s r v)).put 1 (.s (r + 1) 0) else s1.put 1 (.s r v)))) ∧
  (∀ (w : Ins) (s : State) (pkg pa : Nat) (v : Word64) (late : Bool), s.slot.reply = some (if late then 0x80 else 0, v) →
    let st : Word64 := if late then 0x80000000000000 else 0
    let done (i : Instr) (a : Acc) (t : State) : Prop := Done i w s (s.passed s.cur (s.slot.ea w.a).toNat a t)
    (Free (.rld w) w s → OnPackage s (s.slot.ea w.a) (size (mods w.d)) .load pkg pa → Forms.ordOf (mods w.d) = 1 →
      done (.rld w) .load (((s.acquire 7).put 1 (.s (num w.d) st)).put 1 (.s (num w.d + 1) (loaded (mods w.d) (size (mods w.d)) v.toNat)))) ∧
    (Free (.ratom w) w s → OnPackage s (s.slot.ea w.a) (size (mods w.d)) .atomic pkg pa → Forms.ordOf (mods w.d) = 1 →
      done (.ratom w) .atomic (((s.acquire 7).put 1 (.s (num w.d) st)).put 1 (.s (num w.d + 1) v)))) ∧
  (∀ (i : Instr) (w : Ins) (s : State) (q : Request) (use : FabUse) (pair : Bool) (pa : Nat) (unc mir : Bool),
    fabRequest s.slot pa i = some (w, q, use, pair) → Free i w s → Reached s (s.slot.ea w.a) (size (mods w.d)) (fabAcc i) pa unc mir →
      let t := s.put 1 (.s (num w.d) 0x0200000000000000)
      Done i w s (if fabAcc i = .load then t.put 1 (.s (num w.d + 1) 0) else t)) ∧
  (∀ (w : Ins) (s : State), Free (.rfence w) w s →
    let o := Forms.ordOf (mods w.d)
    let sc := Forms.scopeOf (mods w.d)
    let level := if sc = 7 then 2 else 1
    (s.awaited level = [] → ¬ (o = 3 ∧ (sc = 5 ∨ sc = 6) ∧ s.coh.part = true) →
      let r := if 2 ≤ o then s.release sc else s
      Done (.rfence w) w s (if o = 1 ∨ o = 3 then r.acquire sc else r)) ∧
    (s.awaited level ≠ [] → exec (.rfence w) s = .next ((s.sendMarks level).waitFor .home)))

namespace Sys2Proof.Claims
open Sys2Proof Sys2Proof.Machine

/-- The system registers that a strand keeps for itself, as MFS reads them (R305). -/
def ownReg (s : State) (k : Nat) : Option Word64 :=
  let x := s.slot
  if k = 0x00 then some (if isTsc s.cur then x.status ||| 1 else x.status)
  else if k = 0x01 then some x.cause else if k = 0x02 then some x.epc else if k = 0x03 then some x.tvec
  else if k = 0x04 then some (x.fflags.setWidth 64) else if k = 0x05 then some (if s.coh.part then 0 else x.lclock)
  else if k = 0x06 then some x.pfb else if k = 0x07 then some (BitVec.ofNat 64 (x.recAddr.toNat / 64 * 64)) else none

/-- The system registers that slots share, as MFS reads them in free mode (R305, R136, R165, R187). -/
def sharedReg (s : State) (k : Nat) : Option Word64 :=
  let n := s.cur
  let c := s.core (coreOf n)
  if k = 0x08 then some (match Tbl.get? s.desig (s.asidOf n).toNat with
    | some a => BitVec.ofNat 64 (2 ^ 63 + a / 64 % 2 ^ 42 * 64)
    | none => 0)
  else if k = 0x10 then some (BitVec.ofNat 64 (c.le.length % 8 * 2 ^ 13 + c.lw.length % 8 * 2 ^ 10 + c.lnk.toNat))
  else if k = 0x11 ∨ k = 0x12 then some 0
  else if k = 0x20 then some ((s.tile (tileOf n)).vweight.setWidth 64) else if k = 0x21 then some ((s.tile (tileOf n)).scr.setWidth 64)
  else if k = 0x30 then some ((s.die (dieOf n)).sdctl.setWidth 64) else if k = 0x31 then some ((s.die (dieOf n)).sdtage.setWidth 64)
  else if k = 0x32 then some ((s.die (dieOf n)).sdquant.setWidth 64) else if k = 0x33 then some (s.cluster (clusterOf n)).sdpool
  else if k = 0x38 then some (if s.coh.part then 1 else 0) else none

/-- The translation entry that TLBWR takes from three registers (R249). -/
def entryAt (x : Slot) (a : Nat) : TlbEnt := ⟨x.getS a, x.getS (a + 1), x.getS (a + 2)⟩

/-- Two entries overlap in an address space of both (R252). -/
abbrev overlaps (e o : TlbEnt) : Prop :=
  (o.asid = e.asid ∨ o.glb = true ∨ e.glb = true) ∧ o.vbase < e.vbase + 2 ^ e.shift ∧ e.vbase < o.vbase + 2 ^ o.shift

/-- The entries that a form of TLBINV removes (R447). -/
def removes (form asid : Nat) (a : Word64) (e : TlbEnt) : Bool :=
  if form = 0 then (e.glb || decide (e.asid = asid)) && decide (e.vbase / 2 ^ e.shift = a.toNat / 2 ^ e.shift)
  else if form = 1 then !e.glb && decide (e.asid = asid)
  else if form = 2 then decide (e.ptLine = a.toNat / 64) else true

end Sys2Proof.Claims

/-- R305, R445, R437, R286, R258: MFS reads, and MTS writes, the system registers of R305, each under its own layout; reserved bits
and values out of range are ignored, read-only registers ignore a write.
Of the model, not of the rules, are the choices of notes/assumptions 21 and 35. -/
def Obligations.SystemRegisters : Prop :=
  ∀ (w : Ins) (s : State),
    let k := num w.d
    let v := s.slot.opU w.a
    let mts (f : Slot → Slot) : Prop := Done (.mts w) w s (Here s f)
    let low := v.toNat % 2 ^ 48
    (Issues (.mfs w) w s → ∀ u, ownReg s (num w.a) = some u → Done (.mfs w) w s (s.put 1 (.s (num w.d) u))) ∧
    (Free (.mfs w) w s → (sysReadPriv (num w.a) = true → s.sup s.cur = true) → ∀ u, sharedReg s (num w.a) = some u →
      Done (.mfs w) w s (s.put 1 (.s (num w.d) u))) ∧
    (Free (.mts w) w s → (sysWritePriv k = true → s.sup s.cur = true) →
      (k = 0x00 → mts fun x => { x with status := BitVec.ofNat 64 (v.toNat % 8) }) ∧
      (k = 0x01 → mts fun x => { x with cause := v &&& 0xFFFFFFFFFFFF07FF }) ∧
      (k = 0x02 → mts fun x => if low % 12 = 0 then { x with epc := BitVec.ofNat 64 low } else x) ∧
      (k = 0x03 → mts fun x => if low % 12 = 0 then { x with tvec := BitVec.ofNat 64 low } else x) ∧
      (k = 0x04 → mts fun x => { x with fflags := v.setWidth 6 }) ∧
      (k = 0x05 → s.coh.part = true → Done (.mts w) w s s) ∧
      (k = 0x05 → s.coh.part = false → mts fun x => { x with lclock := if x.lclock ≤ v then v else x.lclock }) ∧
      (k = 0x06 → mts fun x => if 8 ≤ v.toNat % 32 ∧ v.toNat % 32 ≤ 30 then { x with pfb := BitVec.ofNat 64 (v.toNat % 32) } else x) ∧
      (k = 0x08 → Done (.mts w) w s (s.setDesig (s.asidOf s.cur) (some s.slot.recAddr.toNat))) ∧
      (k = 0x10 → Done (.mts w) w s (s.setCore (coreOf s.cur)
        { s.core (coreOf s.cur) with lnk := (s.core (coreOf s.cur)).lnk &&& ~~~(v.setWidth 4) })) ∧
      (k = 0x07 ∨ k = 0x11 ∨ k = 0x12 ∨ k = 0x38 → Done (.mts w) w s s) ∧
      (k = 0x20 → ∃ t : State, Done (.mts w) w s t ∧ (t.tile (tileOf s.cur)).vweight = v.setWidth 16 ∧
        ∀ j, j < 4 → (t.core (tileOf s.cur * 4 + j)).acc = 0) ∧
      (k = 0x21 → Done (.mts w) w s (if v.toNat % 32 ≤ 16 ∧ (s.tile (tileOf s.cur)).scr ≠ v.setWidth 5 then
        s.setTile (tileOf s.cur) { s.tile (tileOf s.cur) with load := some (v.setWidth 5), loadAt := s.time.ns } else s)) ∧
      (s.frozen (1 + dieOf s.cur) = false →
        (k = 0x30 → Done (.mts w) w s (s.setDie (dieOf s.cur) { s.die (dieOf s.cur) with sdctl := v.setWidth 32 &&& 0xFF })) ∧
        (k = 0x31 → Done (.mts w) w s (if 1000 ≤ v.toNat % 2 ^ 32 ∧ v.toNat % 2 ^ 32 ≤ 10000000 then
          s.setDie (dieOf s.cur) { s.die (dieOf s.cur) with sdtage := v.setWidth 32, ages := (s.die (dieOf s.cur)).ages ++
            [(s.time.ns, (s.die (dieOf s.cur)).sdtage.toNat)] } else s)) ∧
        (k = 0x32 → Done (.mts w) w s (if 10000 ≤ v.toNat % 2 ^ 32 ∧ v.toNat % 2 ^ 32 ≤ 100000000 then
          s.setDie (dieOf s.cur) { s.die (dieOf s.cur) with sdquant := v.setWidth 32 } else s)) ∧
        (k = 0x33 → Done (.mts w) w s (s.setCluster (clusterOf s.cur)
          { s.cluster (clusterOf s.cur) with sdpool := v &&& 0x800FFFFFFFC00000 }))))

/-- R446-R448, R250-R252, R261: TLBWR installs its entry, removes those it overlaps, and registers the cache at the entry's PT line;
TLBRD reads an entry; TLBINV removes every entry that its form selects; MBXPOST sends a reply; MBXWAIT takes the oldest message.
Of the model, not of the rules, are the choices of notes/assumptions 17 and 51. -/
def Obligations.TranslationInstructions : Prop :=
  ∀ (w : Ins) (s : State),
    let x := s.slot
    let d := num w.d
    (FreeSup (.tlbwr w) w s →
      let e := entryAt x (num w.a)
      let c := (x.opS w.b).toNat
      let up := (c < 768 → s.ready (.clu (c / 48)) = true) ∧ (768 ≤ c → s.ready (.tscf (c - 768)) = true)
      (783 < c → exec (.tlbwr w) s = .next (s.takeTrap .reserved 0)) ∧
      (c ≤ 783 → ¬ up → Done (.tlbwr w) w s (s.put 1 (.s d 0x0200000000000000))) ∧
      (c ≤ 783 → up → tlbRefusal s e ≠ 0 →
        Done (.tlbwr w) w s (s.put 1 (.s d (BitVec.ofNat 64 (2 ^ 56 + tlbRefusal s e * 2 ^ 48))))) ∧
      (c ≤ 783 → up → tlbRefusal s e = 0 → ∃ u : State, Done (.tlbwr w) w s (u.await d) ∧
        e ∈ u.cache c ∧ (∀ o, o ∈ u.cache c → o = e ∨ (o ∈ s.cache c ∧ ¬ overlaps e o)) ∧
        (∀ k, k ≠ c → u.cache k = s.cache k) ∧
        (((s.cache c).length < (if c < 768 then 1024 else 64)) → ∀ o, o ∈ s.cache c → ¬ overlaps e o → o ∈ u.cache c) ∧
        (∃ p, Tbl.get? u.xl.ptl e.ptLine = some p ∧ c ∈ p.holders) ∧
        u.tlbRegs = s.tlbRegs ++ [⟨s.cur, d, x.recAddr, x.ctx, s.asidOf s.cur, 0⟩])) ∧
    (FreeSup (.tlbrd w) w s →
      let c := (x.opS w.b).toNat
      let i := (x.opU w.a).toNat
      let e := ((s.cache c)[i]?).getD ⟨0, 0, 0⟩
      c ≤ 783 → i ≤ 1023 →
        Done (.tlbrd w) w s (((s.put 64 (.s d e.e0)).put 64 (.s (d + 1) e.e1)).put 64 (.s (d + 2) e.e2))) ∧
    (FreeSup (.tlbinv w) w s → (∀ c, s.cacheBusy c = false) →
      let sel := removes ((mods w.d).toNat % 4) ((x.opU w.b).toNat % 2 ^ 16) (x.getS (num w.a))
      ∃ (u : State) (n : Nat), Done (.tlbinv w) w s (u.put 1 (.s d (BitVec.ofNat 64 n))) ∧ (∀ c, u.cache c = (s.cache c).filter fun e => !sel e) ∧
        (n < 2 ^ 48 - 1 → n = (s.xl.caches.map fun c => (c.2.filter fun e => e.valid && sel e).length).sum) ∧
        u.slots = s.slots ∧ u.mem = s.mem) ∧
    (FreeSup (.mbxpost w) w s →
      let a := (x.getS (num w.a)).toNat
      let reply : Nat × BitVec 4 × Word64 := (a / 2 ^ 34 % 2 ^ 14, BitVec.ofNat 4 (a / 2 ^ 30), x.getS (num w.b))
      Done (.mbxpost w) w s { s with xl := { s.xl with replies := s.xl.replies ++ [reply] } }) ∧
    (FreeSup (.mbxwait w) w s →
      let k := clusterOf s.cur
      let c := s.cluster k
      (∀ m r, c.mailbox = m :: r → Done (.mbxwait w) w s (((((s.setCluster k { c with mailbox := r }).put 1 (.s d m.w0)).put 1
        (.s (d + 1) m.w1)).put 1 (.s (d + 2) m.w2)).put 1 (.s (d + 3) m.w3))) ∧
      (c.mailbox = [] → bit (mods w.d) 0 = true → Done (.mbxwait w) w s (s.put 1 (.s d 0))) ∧
      (c.mailbox = [] → bit (mods w.d) 0 = false → exec (.mbxwait w) s = .next (s.waitFor .mailbox)))

namespace Sys2Proof.Claims
open Sys2Proof Sys2Proof.Machine

/-- Where the T part of a slot's block begins (R115). -/
def tPart (x : Slot) : Nat := if x.clsV then 0x5000 else 0x1000

/-- The block at `c` of memory `u` is the full context of slot `x` of address space `asid` (R115, R450): FULL set, the V and T parts
those asked for, EPEND, the inbox and every word that the layout gives as zero zero. -/
def Saved (u : State) (c : Nat) (x : Slot) (asid : BitVec 16) (vp tp : Bool) : Prop :=
  let at8 (o : Nat) : Word64 := u.mem8 (c + o)
  let zero (o k : Nat) : Prop := ∀ b, o ≤ b → b < o + k → Mem.get u.mem (c + b) = 0
  let h := at8 0
  (fld h 63 48 = asid.toNat ∧ fld h 47 40 = 1 ∧ bit h 39 = false ∧ bit h 38 = x.lh ∧ bit h 37 = x.lm.isSome ∧ bit h 36 = false ∧
    bit h 35 = x.wake ∧ bit h 34 = tp ∧ bit h 33 = vp ∧ bit h 32 = true ∧ fld h 31 12 = 0 ∧ fld h 11 0 = (x.lm.map BitVec.toNat).getD 0) ∧
  (at8 0x008 = x.pc + 12 ∧ at8 0x010 = x.status ∧ at8 0x018 = x.cause ∧ at8 0x020 = x.epc ∧ at8 0x028 = x.tvec ∧
    at8 0x030 = x.fflags.setWidth 64 ∧ at8 0x038 = x.lclock ∧ at8 0x040 = x.pfb) ∧
  zero 0x048 184 ∧ (∀ i, i < 64 → at8 (0x100 + 8 * i) = x.getS i) ∧
  (∀ i, i < 16 → bit (at8 0x300) i = x.getP i) ∧ zero 0x302 6 ∧ (∀ i, i < 4 → at8 (0x308 + 8 * i) = x.getM i) ∧
  at8 0x328 = x.lc.setWidth 64 ∧ at8 0x330 = BitVec.ofNat 64 x.loops.length ∧
  (∀ i, i < 4 → match x.loops.reverse[i]? with
    | some e => at8 (0x338 + 24 * i) = e.start ∧ at8 (0x340 + 24 * i) = e.stop ∧ at8 (0x348 + 24 * i) = e.count.setWidth 64
    | none => zero (0x338 + 24 * i) 24) ∧
  (∀ i, i < 16 → Mem.get u.mem (c + 0x398 + i) = BitVec.ofNat 8 (tagByte (x.getV i).tag)) ∧
  (∀ i, i < 2 → Mem.get u.mem (c + 0x3A8 + i) = BitVec.ofNat 8 (tagByte (x.getT i).tag) ∧ at8 (0x3B0 + 8 * i) = (x.getT i).prog) ∧
  zero 0x3AA 6 ∧ zero 0x3C0 3136 ∧
  (vp = true → (∀ i, i < 16 → u.memRead (c + 0x1000 + 256 * i) 256 = (x.getV i).val.toNat) ∧
    (∀ r, r < 4 → match x.streams[r]?.getD none with
      | some b => at8 (0x2000 + 64 * r) = b.w0 ∧ at8 (0x2008 + 64 * r) = b.w1 ∧ at8 (0x2010 + 64 * r) = b.w2 ∧ zero (0x2018 + 64 * r) 40
      | none => zero (0x2000 + 64 * r) 64) ∧ zero 0x2100 12032) ∧
  (tp = true → ∀ i, i < 2 → u.memRead (c + tPart x + 4096 * i) 4096 = (x.getT i).val.toNat)

/-- Slot `y` is slot `x` with every register taken from the block at `c` (R115, R451): LCLOCK the larger one, or 0 in partitioned mode
(R218), a part that the block does
not mark valid without tags and with the bits it had (the model's reading, notes/assumptions 52), the stream bindings those of the V part. -/
def Restored (s : State) (c : Nat) (x y : Slot) : Prop :=
  let at8 (o : Nat) : Word64 := s.mem8 (c + o)
  let vp := bit (at8 0) 33
  let tp := bit (at8 0) 34
  let depth := min ((at8 0x330).toNat % 8) 4
  let ceil := (at8 0x040).toNat % 32
  (y.status = at8 0x010 &&& 7 ∧ y.cause = at8 0x018 ∧ y.epc = at8 0x020 ∧ y.tvec = at8 0x028 ∧ y.fflags = (at8 0x030).setWidth 6 ∧
    y.lclock = (if s.coh.part = true then 0 else if x.lclock.toNat ≤ (at8 0x038).toNat then at8 0x038 else x.lclock) ∧
    y.pfb = if 8 ≤ ceil ∧ ceil ≤ 30 then BitVec.ofNat 64 ceil else 20) ∧
  (∀ i, 0 < i → i < 64 → y.getS i = at8 (0x100 + 8 * i)) ∧ (∀ i, 0 < i → i < 16 → y.getP i = bit (at8 0x300) i) ∧
  (∀ i, 0 < i → i < 4 → y.getM i = at8 (0x308 + 8 * i)) ∧
  (y.loops.length = depth ∧ ∀ i e, y.loops.reverse[i]? = some e → e.start = at8 (0x338 + 24 * i) ∧ e.stop = at8 (0x340 + 24 * i) ∧
    e.count = if i + 1 = depth then (at8 0x328).setWidth 32 else (at8 (0x348 + 24 * i)).setWidth 32) ∧
  (∀ i, i < 16 → (vp = true → (y.getV i).tag = tagOfByte (Mem.get s.mem (c + 0x398 + i)).toNat ∧
    (y.getV i).val.toNat = s.memRead (c + 0x1000 + 256 * i) 256) ∧ (vp = false → (y.getV i).tag = none ∧ (y.getV i).val = (x.getV i).val)) ∧
  (∀ i, i < 2 → (tp = true → (y.getT i).tag = tagOfByte (Mem.get s.mem (c + 0x3A8 + i)).toNat ∧
    (y.getT i).val.toNat = s.memRead (c + tPart x + 4096 * i) 4096 ∧ (y.getT i).prog = at8 (0x3B0 + 8 * i)) ∧
    (tp = false → (y.getT i).tag = none ∧ (y.getT i).val = (x.getT i).val)) ∧
  (∀ r, r < 4 → (y.streams[r]?.getD none).map (fun b => (b.w0, b.w1, b.w2)) =
    if vp = true ∧ bit (at8 (0x2000 + 64 * r)) 63 = true then
      some (at8 (0x2000 + 64 * r), at8 (0x2008 + 64 * r), at8 (0x2010 + 64 * r)) else none) ∧
  y.occ = x.occ ∧ y.recAddr = x.recAddr ∧ y.asx = x.asx ∧ y.cls = x.cls ∧ y.gid = x.gid ∧ y.prio = x.prio ∧ y.ctx = x.ctx ∧
    y.wake = x.wake ∧ y.lh = x.lh ∧ y.lm = x.lm

/-- Does CTXLD take the block at `c` for the current slot (R451)? -/
def accepted (s : State) (c : Nat) : Prop :=
  let h := s.mem8 c
  fld h 47 40 = 1 ∧ (h >>> 48).setWidth 16 = s.asidOf s.cur ∧ s.mem8 (c + 0x48) = 0 ∧ s.mem8 (c + 0x7F8) = 0 ∧
    (bit h 33 = true → s.slot.clsV = true) ∧ (bit h 34 = true → s.slot.clsT = true) ∧ s.ctxZeros c (bit h 33) = true

end Sys2Proof.Claims

/-- R450, R451, R115: CTXSV writes the whole block of the current strand, and no byte but its 4,096 and those of the V and T parts asked
for; CTXLD takes every register of a block that it accepts and goes to the block's pc, which traps ALIGN afterwards when it is no
multiple of 12; both wait for what the strand still awaits, and trap ALIGN and PROT by R450 and R451.

R449, R132, R193, R452-R456: GSTOP asks the running members of a gang or compact to stop, those without a context block as far as
the pools reach, and counts the queued ones, a compact's only while it is RUNNING (R192); of a compact that is being signed it is held; L2MODE asks for a switch; HALT, PENNANT, SENSE,
TIME and IDLE have their whole effect.
Of the model, not of the rules, are the choices of notes/assumptions 21, 32, 52 and 85. -/
def Obligations.ContextsAndDevices : Prop :=
  (∀ (w : Ins) (s : State),
    let x := s.slot
    let c := (x.getS (num w.a)).toNat
    let vp := bit (mods w.d) 0
    let tp := bit (mods w.d) 1
    let named := (vp = true → x.clsV = true) ∧ (tp = true → x.clsT = true)
    let prot (i : Instr) : Prop := exec i s = .next (s.trapAt w .prot (c % 2 ^ 48))
    (∀ i, i = .ctxsv w ∨ i = .ctxld w → FreeSup i w s →
      (c % 4096 ≠ 0 → exec i s = .next (s.trapAt w .align (c % 2 ^ 48))) ∧ (c % 4096 = 0 → isHbm c = false → prot i)) ∧
    (FreeSup (.ctxsv w) w s → c % 4096 = 0 → isHbm c = true →
      (¬ named → prot (.ctxsv w)) ∧
      (named → s.quietSlot s.cur = false → exec (.ctxsv w) s = .next (s.waitFor .status)) ∧
      (named → s.quietSlot s.cur = true → ∃ u : State, Done (.ctxsv w) w s u ∧ Saved u c x (s.asidOf s.cur) vp tp ∧
        u = { s with mem := u.mem, touched := u.touched, coh := u.coh } ∧ u.coh.part = s.coh.part ∧
        ∀ b, (b < c ∨ c + 0x1000 ≤ b) → (vp = true → b < c + 0x1000 ∨ c + 0x5000 ≤ b) →
          (tp = true → b < c + tPart x ∨ c + tPart x + 0x2000 ≤ b) → Mem.get u.mem b = Mem.get s.mem b)) ∧
    (FreeSup (.ctxld w) w s → c % 4096 = 0 → isHbm c = true →
      (¬ accepted s c → prot (.ctxld w)) ∧
      (accepted s c → s.quietSlot s.cur = false → exec (.ctxld w) s = .next (s.waitFor .status)) ∧
      (accepted s c → s.quietSlot s.cur = true → ∃ y : Slot, Restored s c x y ∧
        let pc := s.mem8 (c + 8)
        (pc.toNat % 12 = 0 → exec (.ctxld w) s = .next ((s.setSlot y).moveTo w pc true)) ∧
        (pc.toNat % 12 ≠ 0 → exec (.ctxld w) s =
          .next (((s.setSlot y).modSlot s.cur fun z => { z with wait := .none }).enterTrap s.cur .align (pc.toNat % 2 ^ 48) false pc))))) ∧
  (∀ (w : Ins) (s : State),
    let d := num w.d
    let v := s.slot.opU w.a
    let land (u : Word64) : Landing := ⟨s.cur, d, s.slot.recAddr, s.slot.ctx, s.asidOf s.cur, u⟩
    let sc := (mods w.d).toNat / 4 % 8
    (FreeSup (.gstop w) w s →
      let cid : Option Nat := if bit (mods w.d) 0 = true then some (v.toNat % 65536) else none
      let signing (k : Nat) (c : Compact) : Prop := cid = some k ∧ Tbl.get? s.compacts k = some c ∧ c.st = .signing ∧ c.asid = s.asidOf s.cur
      let running : Bool := ((cid.bind fun k => Tbl.get? s.compacts k).map fun c => decide (c.st = .running)).getD true
      let run := if running = true then s.gangSlots sc cid (v.setWidth 32) else []
      let q := if cid = none then s.gangQueued sc (v.setWidth 32) else 0
      (∀ k c, signing k c → Done (.gstop w) w s
        ({ (s.setCompact k { c with stopPending := true }) with gstops := s.gstops ++ [GangStop.mk (land 0) sc cid [] 0 false] }.await d)) ∧
      ((∀ k c, ¬ signing k c) → run = [] → q = 0 → Done (.gstop w) w s (s.put 1 (.s d 0x0100000000000000))) ∧
      ((∀ k c, ¬ signing k c) → (run ≠ [] ∨ q ≠ 0) → ∃ go : List Nat, (∀ n, n ∈ go → n ∈ run) ∧
        (∀ n, n ∈ run → (s.getSlot n).ctx ≠ 0 → n ∈ go) ∧
        (∀ k, (go.filter fun n => clusterOf n == k && (s.getSlot n).ctx == 0).length =
          min (s.poolRoom k) (run.filter fun n => clusterOf n == k && (s.getSlot n).ctx == 0).length) ∧
        Done (.gstop w) w s ({ (go.foldl (fun (t : State) (n : Nat) => t.modSlot n fun y => { y with stop := .gang }) s) with
          gstops := s.gstops ++ [GangStop.mk (land 0) sc cid go q (decide (go.length ≠ run.length))] }.await d))) ∧
    (FreeSup (.l2mode w) w s →
      let now := (s.l2sw.getLast?.map L2Switch.part).getD s.coh.part
      (1 < v.toNat → Done (.l2mode w) w s (s.put 1 (.s d 0x0300000000000000))) ∧
      (v.toNat ≤ 1 → now = decide (v.toNat = 1) → Done (.l2mode w) w s (s.put 1 (.s d 0x0100000000000000))) ∧
      (v.toNat ≤ 1 → now ≠ decide (v.toNat = 1) → s.compacts ≠ [] → Done (.l2mode w) w s (s.put 1 (.s d 0x0200000000000000))) ∧
      (v.toNat ≤ 1 → now ≠ decide (v.toNat = 1) → s.compacts = [] →
        let q : L2Switch := ⟨decide (v.toNat = 1), land 0, s.time.ns⟩
        Done (.l2mode w) w s ({ s with l2sw := s.l2sw ++ [q] }.await d))) ∧
    (FreeSup (.halt w) w s → Done (.halt w) w s (s.setCore (coreOf s.cur) { s.core (coreOf s.cur) with halted := true })) ∧
    (FreeSup (.pennant w) w s →
      let r := s.rounds
      let pod := decide (sc = 7)
      let k : Word64 := (if pod = true then r.pod else r.dev) + (if (if pod = true then r.podRun else r.devRun) = true then 2 else 1)
      Done (.pennant w) w s ({ s with rounds := { r with
        podWant := pod || r.podWant, devWant := !pod || r.devWant,
        waits := r.waits ++ [(pod, k, land (BitVec.ofNat 64 (k.toNat % 2 ^ 48)))] } }.await d)) ∧
    (Issues (.sense w) w s →
      Done (.sense w) w s (s.put 64 (.s d (if v.toNat ≤ 6191 then (Tbl.get s.therm.words v.toNat 0).setWidth 64 else 0)))) ∧
    (Issues (.time w) w s →
      Done (.time w) w s (s.put 1 (.s d (BitVec.ofNat 64 (if bit (mods w.d) 0 then s.time.cyc else s.time.ns))))) ∧
    (Free (.idle w) w s → exec (.idle w) s = .next ((s.advance w).waitFor (.idle (s.time.cyc + 4096)))))

namespace Sys2Proof.Claims
open Sys2Proof Sys2Proof.Machine

/-- The move `i` completes with an effect that satisfies `P`. -/
def Moves (i : Instr) (s : State) (P : State → Prop) : Prop := ∃ t : State, exec i s = .next t ∧ P t

/-- A sensor's word (R22): valid, KIND, SRC and the 16-bit VALUE. -/
def word (kind src value : Nat) : Word32 := BitVec.ofNat 32 (2 ^ 31 + kind * 2 ^ 28 + src * 2 ^ 16 + value)

/-- Device memory is unchanged: every byte below the host's (R195), where the event queue lies (R89). -/
def SameDevice (s t : State) : Prop := ∀ a, a < hostBase → Mem.get t.mem a = Mem.get s.mem a

/-- The functions whose bit may be set now (R26): the NMC, then each DC, then the others. -/
abbrev mayCome (s : State) (f : Func) : Prop :=
  f = .nmc ∨ s.ready .nmc = true ∧ ((∃ d, f = .dcr d) ∨ ∀ d, d < 4 → s.ready (.dcr d) = true ∨ s.failed (.dcr d) = true)

end Sys2Proof.Claims

/-- R26, R28, R108, R27, R58, R436: a cold reset clears the readiness map and every strand slot and keeps memory, images and floors; the
loss of power loses memory too and stops every step until power returns; a function that may come sets its bit and counts RDYGEN, a
translation firmware starting its strand in supervisor state; a SerDes group not yet brought up starts its bring-up in RETRAIN instead
(its bit comes with BIND_COMPLETE); one that fails ends with FAIL set and RDY clear. One that comes too early, has come or has failed
changes nothing.

R17, R18, R20-R23: a temperature sample becomes its sensor's word; above 105 C a DC that acts needs full throttling, above 95 C a
level more, above 110 C a fatal error is declared; a stack above 85 C refreshes at twice the rate and above 100 C fails; a throttle step
moves one level in at least 10 us; droops count up to 65,535 and become words at the window's end; a power sample becomes its domain's
word, and above the domain's limit every DC throttles by a level. The level in force follows the level needed by one level in at least
10 us, at once where no compact joins dies (notes/assumptions 112).
Of the model, not of the rules, are the choices of notes/assumptions 4, 10, 56, 93, 94, 95, 110, 112 and 119. -/
def Obligations.PowerAndSensors : Prop :=
  (∀ s : State,
    (Moves .standbyPowerGood s fun t => t = { s with power := true }) ∧
    (s.power = true →
      (Moves .coldReset s fun t => t.rdy = 0 ∧ t.fail = 0 ∧ t.slots = [] ∧ t.mem = s.mem ∧ t.nmc.images = s.nmc.images ∧
        t.nmc.floors = s.nmc.floors ∧ t.nmc.act = s.nmc.act ∧ t.ports = [] ∧ t.compacts = []) ∧
      (Moves .powerLoss s fun t => t.power = false ∧ t.rdy = 0 ∧ t.slots = [] ∧ t.mem = [] ∧ t.nmc.images = s.nmc.images ∧
        t.nmc.floors = s.nmc.floors ∧ ∀ i, i ≠ .standbyPowerGood → exec i t = .fault .noPower) ∧
      (∀ f : Func, (s.ready f = true ∨ s.failed f = true ∨ ¬ mayCome s f) → Moves (.functionReady f) s fun t => t = s) ∧
      (∀ f : Func, (∀ g, f ≠ .sds g) → rdyIndex f < 128 → s.ready f = false → s.failed f = false → mayCome s f →
        Moves (.functionReady f) s fun t => t.ready f = true ∧ t.rdygen = s.rdygen + 1 ∧ t.fail = s.fail ∧ SameDevice s t ∧
          (∀ g, rdyIndex g ≠ rdyIndex f → t.ready g = s.ready g) ∧
          ∀ c, f = .tscf c → (t.getSlot (slotCount + c)).occ = true ∧ t.sup (slotCount + c) = true) ∧
      (∀ g : Nat, s.ready (.sds g) = false → s.failed (.sds g) = false → mayCome s (.sds g) →
        Moves (.functionReady (.sds g)) s fun t =>
          t = if (s.group g).st = .off then s.setGroup g { s.group g with st := .retrain } else s) ∧
      (∀ f : Func, (s.failed f = true ∨ ¬ mayCome s f) → Moves (.functionFailure f) s fun t => t = s) ∧
      (∀ f : Func, rdyIndex f < 128 → s.failed f = false → mayCome s f →
        Moves (.functionFailure f) s fun t => t.failed f = true ∧ t.ready f = false ∧ ((∀ p, f ≠ .opt p) → SameDevice s t)))) ∧
  (∀ s : State, s.power = true →
    let own (t : State) : Prop := SameDevice s t ∧ t.slots = s.slots ∧ t.ts = s.ts
    let read (t : State) (k : Nat) : Word32 := Tbl.get t.therm.words k 0
    let slow (d : Nat) : Prop := 10000 ≤ s.time.ns - Tbl.get s.therm.moved d 0
    let forced (d : Nat) : Prop := 10000 ≤ s.time.ns - Tbl.get s.therm.lmoved d 0
    (∀ (k : Nat) (v : BitVec 16), k < 3072 → Moves (.temperatureSample k v) s fun t =>
      own t ∧ read t k = word 0 k v.toNat ∧
        (420 < v.toInt → s.acting (1 + k / 768) = true → t.need (k / 768) = 8) ∧
        (380 < v.toInt → v.toInt ≤ 420 → s.acting (1 + k / 768) = true → s.need (k / 768) < 8 → slow (k / 768) →
          t.need (k / 768) = s.need (k / 768) + 1) ∧
        (s.acting (1 + k / 768) = false → t.therm.need = s.therm.need) ∧
        (440 < v.toInt → s.nmc.fatal = none → ∃ ns, t.nmc.fatal = some (1, ns)) ∧ (v.toInt ≤ 440 → t.nmc = s.nmc ∧ t.mem = s.mem)) ∧
    (∀ (d : Nat) (v : BitVec 16), d < 8 → Moves (.temperatureSample (6160 + d) v) s fun t =>
      own t ∧ read t (6160 + d) = word 3 d v.toNat ∧ (d ∈ t.therm.refresh ↔ 340 < v.toInt) ∧
        (400 < v.toInt → mayCome s (.hbm d) → t.failed (.hbm d) = true)) ∧
    (∀ (p : Nat) (v : BitVec 16), p < 16 → Moves (.temperatureSample (6176 + p) v) s fun t =>
      read t (6176 + p) = word 4 p v.toNat ∧ (v.toInt ≤ 300 → own t)) ∧
    (∀ d l : Nat, d < 4 → Moves (.throttleStep d l) s fun t => own t ∧
      let may := (l = s.need d + 1 ∨ l + 1 = s.need d) ∧ slow d ∧ s.acting (1 + d) = true
      (may → t.need d = l ∧ Tbl.get t.therm.moved d 0 = s.time.ns ∧ (∀ e, e ≠ d → t.need e = s.need e) ∧
        (s.compacts = [] → s.level d = s.need d → forced d → t.level d = l)) ∧
      (¬ may → t.therm.need = s.therm.need ∧ t.therm.moved = s.therm.moved) ∧
      (∀ e, t.level e = s.level e ∨ e < 4 ∧ forced e ∧ Tbl.get t.therm.lmoved e 0 = s.time.ns ∧
        (t.level e = s.level e + 1 ∨ t.level e + 1 = s.level e))) ∧
    (∀ c : Nat, c < 3072 → Moves (.droopEvent c) s fun t => own t ∧ t.therm.words = s.therm.words ∧
      Tbl.get t.therm.droops c 0 = min (Tbl.get s.therm.droops c 0 + 1) 65535) ∧
    (Moves .droopWindowClose s fun t => own t ∧ t.therm.droops = [] ∧
      ∀ c, c < 3072 → Tbl.get s.therm.droops c 0 ≤ 65535 → read t (3072 + c) = word 1 c (Tbl.get s.therm.droops c 0)) ∧
    (∀ (d : Nat) (v : BitVec 16), d < 6 → Moves (.powerSampleUpdate d v) s fun t =>
      let limit := [7600, 3120, 1840, 840, 5800, 19200].getD d 0
      own t ∧ read t (6144 + d) = word 2 d v.toNat ∧ (v.toNat ≤ limit → t.therm.need = s.therm.need) ∧
        (limit < v.toNat → ∀ c, c < 4 → s.acting (1 + c) = true → s.need c < 8 → slow c → t.need c = s.need c + 1)))

namespace Sys2Proof.Claims
open Sys2Proof Sys2Proof.Machine

/-- The lines of the atomics that have reached their memory-side unit before the `i`-th (R138, R221). -/
def msaBefore (s : State) (i : Nat) (q : MsaReq) : List Nat :=
  (((s.msaq.take i).filter fun e => s.msaHere e && e.pa / stackSize == q.pa / stackSize).map fun e => lineOf e.pa).eraseDups

/-- RESP_FLIT brings the flit `b` as its header and the bytes behind it. -/
def respMove (p : Nat) (b : List Byte) : Instr := .respFlit p (b.take 8) (b.drop 8)

/-- BOUND brings the flit `b` as header, payload and CRC. -/
def boundMove (p : Nat) (b : List Byte) : Instr := .bound p (b.take 8) ((b.drop 8).take 128) (b.drop 136)

/-- The moves that a sequenced flit `b` at port `p` may come as, and whether it is one of the move's kind, or damaged (R32, R33, R41). -/
def seqMoves (p : Nat) (b : List Byte) : List (Instr × Bool) :=
  [(.reqLoad p b, isReq 0 b), (.reqStore p b, isReq 1 b), (.reqAtomic p b, isReq 2 b), (.dataFlit p b, isType 2 b),
   (respMove p b, isType 3 b), (.markFlit p b, isType 4 b), (.pennantFlit (p / 4) (3 + p % 4) true b, isType 5 b)]

/-- The moves that a LINK flit may come as (R37). -/
def linkMoves (p : Nat) (b : List Byte) : List (Instr × Bool) :=
  [(.linkAck p b, isLink 0 b), (.linkNak p b, isLink 1 b), (.stripeReq p b, isLink 2 b), (.stripeAck p b, isLink 3 b), (boundMove p b, isLink 4 b)]

/-- The request of a REQ flit, with the data of its first flit (R41). -/
def requestOf (b : List Byte) : Request :=
  let r : Request := ⟨BitVec.ofNat 64 (payWord (flitPay b) 0), BitVec.ofNat 64 (payWord (flitPay b) 1), []⟩
  { r with data := ((flitPay b).drop 16).take (min 112 r.dataLen) }

/-- The receiving port after it has taken an intact flit in order (R36): the next number awaited, an acknowledgement due, the flit's own
acknowledgement taken. -/
def taken (s : State) (p : Nat) (b : List Byte) : State :=
  let x := s.port p
  s.setPort p ({ x.counted with want := x.want + 1, nak := false, ackDue := true }.acked s.time.ns (flitHead b).ack)

/-- A flit that meets a trained port, intact and with nothing waiting before it (R33, R47, R138). -/
abbrev Arrives (s : State) (p : Nat) (b : List Byte) : Prop :=
  (s.port p).rx.live = true ∧ flitOk b = true ∧ (s.port p).behind = [] ∧ s.waitsBehind p b = false

/-- It is the next one, and for this package (R34, R36). -/
abbrev ForMe (s : State) (p : Nat) (b : List Byte) : Prop :=
  Arrives s p b ∧ (flitHead b).seq = (s.port p).want ∧ (flitHead b).dst.toNat = s.fab.me

/-- A request that is not malformed, over a range in service, before whose lines no atomic waits (R42, R43, R254). -/
abbrev Servable (s : State) (r : Request) : Prop :=
  r.malformed = false ∧ s.rangeStatus r.pa r.len = 0 ∧ ∀ q, q ∈ s.msaq → lineOf q.pa ∉ linesIn r.pa r.len

end Sys2Proof.Claims

/-- R33, R34, R36, R41-R46, R138, R190, R221: a sequenced flit that arrives damaged is asked for again; one behind a pennant waits; one
out of order is discarded, and one ahead is asked for; one for another package goes on by its path with HOP counted, on a
port that carries traffic (R47). In order and for this package, a load's bytes, or its poison, return in its response, or it is parked at a line held by a compact; a store's bytes and no others
change; an atomic joins the home's queue; data completes what awaits it, a response its request, and the last marker of its paths is
answered; a malformed request is answered so.

R33, R36-R39, R47-R55, R221: an intact LINK flit brings its acknowledgement and what its subtype asks for: a replay after a NAK, the
restripe over the masks of a STRIPE_REQ, REPLAY after the awaited STRIPE_ACK, other packages' bounds; a damaged one is asked for again; a
reserved one does nothing. The timers of acknowledgement and replay act when due, the eighth loss of a flit fails the port; light lost
opens HOLD and refuses new work, or fails the port; a port trains, ends its replay, publishes its bound, drains; a route configuration is
refused, held, drained for or put into force; the home executes an atomic.
Of the model, not of the rules, are the choices of notes/assumptions 2, 54, 56, 86, 87, 88, 89, 90, 91, 92, 110, 118 and 119. -/
def Obligations.OpticalEngine : Prop :=
  (∀ (s : State) (p : Nat) (b : List Byte), s.power = true →
    let x := s.port p
    let h := flitHead b
    let pay := flitPay b
    let r := requestOf b
    let u := taken s p b
    (∀ e, e ∈ seqMoves p b →
      ((e.2 = false ∨ x.rx.live = false) → exec e.1 s = .next s) ∧
      (e.2 = true → x.rx.live = true → flitOk b = false → exec e.1 s = .next (s.setPort p (x.askFor s.time.ns))) ∧
      (e.2 = true → x.rx.live = true → flitOk b = true → (x.behind ≠ [] ∨ s.waitsBehind p b = true) →
        exec e.1 s = .next (s.setPort p { x with behind := x.behind ++ [b] })) ∧
      (e.2 = true → Arrives s p b → h.seq ≠ x.want → ∃ z : OPort, exec e.1 s = .next (s.setPort p z) ∧ z.want = x.want ∧
        (2048 < (x.want - h.seq).toNat → z.nak = true)) ∧
      (e.2 = true → Arrives s p b → h.seq = x.want → h.dst.toNat ≠ s.fab.me →
        exec e.1 s = .next (match (s.route h.dst.toNat).bind fun e => e.via.find? fun v => v.1 == h.path.toNat with
          | some (_, q) => if (u.port q).tx.live = true then u.enqueue q [⟨h.typ.toNat, h.dst, h.src, h.path, h.hop + 1, h.tag, pay, none⟩] else u
          | none => u))) ∧
    (ForMe s p b → h.typ = 1 →
      (∀ i, (i, true) ∈ (seqMoves p b).take 3 → r.malformed = true → exec i s = .next (u.respond h sMALFORMED [])) ∧
      (r.op = 0 → Servable s r →
        (s.rangeHeld r.pa r.len = true →
          exec (.reqLoad p b) s = .next { u with optic := { u.optic with parked := u.optic.parked ++ [⟨h, r⟩] } }) ∧
        (s.rangeHeld r.pa r.len = false → s.rangeBad r.pa r.len = true → exec (.reqLoad p b) s = .next (u.respond h sPOISON [])) ∧
        (s.rangeHeld r.pa r.len = false → s.rangeBad r.pa r.len = false →
          exec (.reqLoad p b) s = .next (u.respond h 0 (s.rangeBytes r.pa r.len)))) ∧
      (r.op = 1 → Servable s r → r.len ≤ 112 → s.rangeHeld r.pa r.len = false → s.partialBad r.pa r.len = false →
        Moves (.reqStore p b) s fun t => (∀ i, i < r.len → some (Mem.get t.mem (r.pa + i)) = (pay.drop 16)[i]?) ∧
          ∀ a, (a < r.pa ∨ r.pa + r.len ≤ a) → Mem.get t.mem a = Mem.get s.mem a) ∧
      (r.op = 2 → Servable s r → exec (.reqAtomic p b) s = .next { u with msaq := s.msaq ++
        [⟨r.pa, r.len, r.aop, natOfBytes (r.data.take r.len), natOfBytes ((r.data.drop r.len).take r.len), .remote h, (0, 0)⟩] })) ∧
    (ForMe s p b → h.typ = 2 →
      let mine := s.optic.asm.find? fun a => a.h.src == h.src && a.h.path == h.path && a.h.tag == h.tag
      (mine = none → exec (.dataFlit p b) s = .next u) ∧
      ∀ a, mine = some a →
        let d := (a.data ++ pay).take a.want
        let v : State := { u with optic := { u.optic with asm := u.optic.asm.erase a } }
        (d.length < a.want → exec (.dataFlit p b) s = .next { v with optic := { v.optic with asm := v.optic.asm ++ [{ a with data := d }] } }) ∧
        (a.want ≤ d.length → ∀ q, a.req = some q → exec (.dataFlit p b) s = .next (v.serveReq a.h { q with data := d })) ∧
        (a.want ≤ d.length → a.req = none → ∀ q, s.reqOf a.h.src.toNat a.h.tag = some q →
          exec (.dataFlit p b) s = .next (v.completeReq q a.status.toNat d))) ∧
    (ForMe s p b → h.typ = 3 →
      (s.reqOf h.src.toNat h.tag = none → exec (Claims.respMove p b) s = .next u) ∧
      ∀ q, s.reqOf h.src.toNat h.tag = some q →
        let st := payWord pay 0
        let want := if st = 0 then q.respLen else 0
        (want ≤ 120 → exec (Claims.respMove p b) s = .next (u.completeReq q st ((pay.drop 8).take want))) ∧
        (120 < want → Moves (Claims.respMove p b) s fun t => t.optic.asm = s.optic.asm ++ [⟨h, none, BitVec.ofNat 8 st, want, (pay.drop 8).take 120⟩]) ∧
        (want ≤ 8 → q.use = .scalar → ∀ n, s.slotOf q.slot q.recAddr = some n → Moves (Claims.respMove p b) s fun t =>
          (t.getSlot n).reply = some (BitVec.ofNat 8 (st + (s.isLate q).toNat * 128), BitVec.ofNat 64 (natOfBytes ((pay.drop 8).take want))) ∧
            (t.getSlot n).wait ≠ .home ∧ ∀ o, o ∈ t.fab.out → o.id ≠ q.id)) ∧
    (ForMe s p b → h.typ = 4 →
      let same (e : BitVec 9 × BitVec 12 × BitVec 16) : Bool := e.1 == h.src && e.2.1 == h.tag
      let seen : BitVec 16 := setBit (((s.optic.marks.find? same).map fun e => e.2.2).getD 0) h.path.toNat true
      let rest := s.optic.marks.filter fun e => !same e
      let paths := natOfBytes (pay.take 1)
      (popCount seen 16 < paths → exec (.markFlit p b) s = .next { u with optic := { u.optic with marks := rest ++ [(h.src, h.tag, seen)] } }) ∧
      (paths ≤ popCount seen 16 → exec (.markFlit p b) s = .next ({ u with optic := { u.optic with marks := rest } }.respond h 0 [])))) ∧
  (∀ (s : State) (p : Nat) (b : List Byte) (m : Word64), s.power = true →
    let x := s.port p
    let h := flitHead b
    let now := s.time.ns
    let word := BitVec.ofNat 64 (payWord (flitPay b) 1)
    let y := x.acked now h.ack
    let port (f : OPort → Prop) (t : State) : Prop := f (t.port p)
    let put (z : OPort) : State := s.setPort p z
    let lost (z : OPort) (q : BitVec 12) : OPort :=
      { z with
        lost := q, losses := if z.lost = q then z.losses + 1 else 1, advAt := now
        los := z.los.map fun r => if r.recv then r else { r with nrep := r.nrep + z.buf.length } }
    let sends (z : OPort) : Prop := z.tx = .up ∨ z.tx = .replay
    let intact (k : Nat) : Prop := x.rx.live = true ∧ flitOk b = true ∧ h.typ = 6 ∧ linkSub (flitPay b) = k ∧ badBound (flitPay b) = false
    (∀ e, e ∈ linkMoves p b →
      ((e.2 = false ∨ x.rx.live = false) → exec e.1 s = .next s) ∧
      (e.2 = true → x.rx.live = true → flitOk b = false → exec e.1 s = .next (put (x.askFor now))) ∧
      (e.2 = true → x.rx.live = true → flitOk b = true → h.typ = 6 → (4 < linkSub (flitPay b) ∨ badBound (flitPay b) = true) →
        exec e.1 s = .next s)) ∧
    (∀ pre f post, x.buf = pre ++ (h.ack, f) :: post → (∀ e, e ∈ pre → e.1 ≠ h.ack) → x.queue = [] → y.buf = post ∧ y.losses = 0) ∧
    (intact 0 → exec (.linkAck p b) s = .next (put y)) ∧
    (intact 1 → ((y.buf = [] ∨ ¬ sends y) → exec (.linkNak p b) s = .next (put y)) ∧
      ∀ q f post, y.buf = (q, f) :: post → sends y →
        ((lost y q).losses < 8 → exec (.linkNak p b) s = .next (put ((lost y q).resend now))) ∧
        (8 ≤ (lost y q).losses → Moves (.linkNak p b) s (port fun z => z.tx = .failed))) ∧
    (intact 2 → y.tx = .up →
      ((stripeOf word).2 ≠ 0 → Moves (.stripeReq p b) s (port fun z => z.tx = .replay ∧ z.txLive = word ∧ z.fset = (stripeOf word).1 ∧
        z.n = (stripeOf word).2 ∧ z.buf = y.buf ∧ z.open_ = false)) ∧
      ((stripeOf word).2 = 0 → Moves (.stripeReq p b) s (port fun z => z.tx = .failed))) ∧
    (intact 3 → exec (.stripeAck p b) s = .next (put (if y.rx = .hold ∧ word = y.rxLive then { y with rx := .replay } else y))) ∧
    (intact 4 → Moves (Claims.boundMove p b) s fun t => ∀ i, i < natOfBytes (((flitPay b).drop 2).take 1) →
      Tbl.get? t.optic.bounds (p * 16 + natOfBytes (((flitPay b).drop 1).take 1) + i) = some (BitVec.ofNat 64 (payWord (flitPay b) (1 + i)))) ∧
    (let due := x.linked = true ∧ x.ackAt + 256 ≤ now;
      (due → exec (.ackTimer p) s = .next (put (x.emitWord now 0 0))) ∧ (¬ due → exec (.ackTimer p) s = .next s)) ∧
    ((x.buf = [] ∨ now < x.advAt + 2000 ∨ ¬ sends x) → exec (.replayTimeout p) s = .next s) ∧
    (∀ q f post, x.buf = (q, f) :: post → x.advAt + 2000 ≤ now → sends x →
      ((lost x q).losses < 8 → exec (.replayTimeout p) s = .next (put ((lost x q).resend now))) ∧
      (8 ≤ (lost x q).losses → Moves (.replayTimeout p) s (port fun z => z.tx = .failed))) ∧
    (∀ c : BitVec 4,
      ((x.rx.live = false ∨ m = x.rxLive) → exec (.lossOfLight p true m c) s = .next s) ∧
      (x.rx.live = true → m ≠ x.rxLive → (stripeOf m).2 ≠ 0 →
        Moves (.lossOfLight p true m c) s (port fun z => z.rx = .hold ∧ z.open_ = false ∧ z.fresh = true ∧ z.rxLive = m)) ∧
      (x.rx.live = true → m ≠ x.rxLive → (stripeOf m).2 = 0 → x.tx ≠ .failed →
        Moves (.lossOfLight p true m c) s (port fun z => z.tx = .failed ∧ z.rx = .failed)) ∧
      (x.lit &&& m = x.lit → exec (.lossOfLight p false m c) s = .next s) ∧
      (x.lit &&& m ≠ x.lit → x.tx.live = true → x.txLive &&& m ≠ x.txLive →
        Moves (.lossOfLight p false m c) s (port fun z => z.tx = .hold ∧ z.lit = x.lit &&& m ∧ z.open_ = false)) ∧
      (x.lit &&& m ≠ x.lit → (x.tx.live = false ∨ x.txLive &&& m = x.txLive) → exec (.lossOfLight p false m c) s = .next (put { x with lit := x.lit &&& m }))) ∧
    (exec (.lightDetect p) s = .next (if x.tx = .down ∧ s.ready (.opt p) = true then put { x with tx := .train, rx := .train } else s)) ∧
    (∀ (rm : Word64) (a c : Nat), let live := m &&& x.lit;
      (x.tx ≠ .train → exec (.trainComplete p (rm, m) a c) s = .next s) ∧
      (x.tx = .train → (stripeOf live).2 ≠ 0 → (stripeOf rm).2 ≠ 0 → Moves (.trainComplete p (rm, m) a c) s (port fun z =>
        z.tx = .up ∧ z.rx = .up ∧ z.txLive = live ∧ z.rxLive = rm ∧ z.fset = (stripeOf live).1 ∧ z.n = (stripeOf live).2 ∧ z.peer = a ∧
          z.pport = c ∧ z.want = 0)) ∧
      (x.tx = .train → ((stripeOf live).2 = 0 ∨ (stripeOf rm).2 = 0) → Moves (.trainComplete p (rm, m) a c) s (port fun z => z.tx = .failed))) ∧
    (exec (.replayEnd (p, true)) s = .next (if x.rx = .replay then put { x with rx := .up } else s)) ∧
    (exec (.replayEnd (p, false)) s = .next (if x.tx = .replay then put ({ x with tx := .up }.pump now x.queue.length) else s)) ∧
    (let may := s.acting (21 + p / 4) = true ∧ x.tx = .up ∧ x.rx = .up;
      (¬ may → exec (.boundPublish p) s = .next s) ∧
      (may → Moves (.boundPublish p) s (port fun z => z.g = boundRate x.txLive ∧ z.l = boundLat z.g ∧ z.fresh = false ∧ z.los = none ∧
        (z.open_ = true ↔ 0 < z.g ∧ x.drain = false)))) ∧
    (∀ (l : List RouteEntry) (tr : List (Nat × Nat)) (d : BitVec 16),
      let c : RouteConf := ⟨l, tr, d⟩
      let ports (q : Nat) : Prop := q < 16 ∧ bit d q = true ∧ (s.port q).tx ≠ .down ∧ (s.port q).tx ≠ .failed
      let good := s.badRoute c = false ∧ ∀ k, k ∈ c.dies → s.serves (21 + k) = true
      ((∃ k, k ∈ c.dies ∧ s.frozen (21 + k) = true) →
        exec (.routeReconfigure l tr d) s = .next { s with nmc := { s.nmc with held := s.nmc.held ++ [.route c] } }) ∧
      ((∀ k, k ∈ c.dies → s.frozen (21 + k) = false) →
        (¬ good → exec (.routeReconfigure l tr d) s = .next s) ∧
        (good → (∀ q, ¬ ports q) → Moves (.routeReconfigure l tr d) s fun t =>
          t.optic.routes = l ∧ t.optic.transit = tr ∧ t.fab.group = l.map RouteEntry.dst ∧ t.mem = s.mem) ∧
        (good → (∃ q, ports q) → Moves (.routeReconfigure l tr d) s fun t =>
          t.optic.pending = some c ∧ t.optic.routes = s.optic.routes ∧ ∀ q, ports q → (t.port q).drain = true ∧ (t.port q).open_ = false))) ∧
    (let may := x.drain = true ∧ x.buf = [] ∧ x.queue = [] ∧ x.tx = .up ∧ x.rx = .up;
      (¬ may → exec (.portDrainComplete p) s = .next s) ∧
      (may → Moves (.portDrainComplete p) s (port fun z => z.tx = .down ∧ z.rx = .down ∧ z.drain = false ∧ z.open_ = false))) ∧
    (∀ i err, s.msaq.length ≤ i → exec (.msaAtomic i err) s = .next s) ∧
    (∀ (i : Nat) (q : MsaReq), s.msaq[i]? = some q →
      ((s.msaHere q = false ∨ (∃ e, e ∈ s.msaq.take i ∧ s.msaHere e = true ∧ lineOf e.pa = lineOf q.pa) ∨
        32 ≤ (Claims.msaBefore s i q).length) → ∀ err, exec (.msaAtomic i err) s = .next s) ∧
      (s.msaHere q = true → (∀ e, e ∈ s.msaq.take i → s.msaHere e = true → lineOf e.pa ≠ lineOf q.pa) → (Claims.msaBefore s i q).length < 32 → Moves (.msaAtomic i false) s fun t =>
        let (st, old, u) := { s with msaq := s.msaq.eraseIdx i }.msaRun q false
        SameDevice u t ∧ t.msaq = s.msaq.eraseIdx i ∧ ∀ n a, q.who = .slot n a → (u.getSlot n).occ = true → (u.getSlot n).recAddr = a →
          (t.getSlot n).reply = some (BitVec.ofNat 8 st, BitVec.ofNat 64 old) ∧ (t.getSlot n).wait = .none)))

/-- R59-R66: a GO is resolved to the first reason that refuses it, or starts the switch with the group's windows withdrawn and its bit
clear; while its controller is frozen it waits. The switch passes through DRAIN, left only with no accepted work, UNBIND, RETRAIN, LOAD
and BIND, while its controller is neither frozen nor failed, to READY with the new personality, its bound and SWGEN counted; a failed training goes back once to the old personality and then
fails; a link failure of a READY group ends its accepted work, withdraws the windows and trains again, one in DRAIN ends the drain, one in
LOAD or BIND acts once READY.

R57, R63, R67-R69, R73, R190: a READY group of personality 0 or 1 executes reads and writes of backed memory, personality 1 atomics
too, of up to 256 bytes, and answers; a read at a line held by a compact waits for its boundary; every other request is answered by the personality's refusal.
A packet at a READY group of personality 2 is taken once: one of its compact's current superstep is handed over, one of the next is held,
and any other, or one that names no compact and member here, is discarded and counted; elsewhere it is answered by a NACK. A packet not
acknowledged is sent again, an acknowledged one leaves; a response answers the oldest access of an engine command through a window.
Of the model, not of the rules, are the choices of notes/assumptions 55, 61, 95, 96, 97, 98, 99 and 119. -/
def Obligations.SerdesGroups : Prop :=
  (∀ (s : State) (g : Nat) (w : Word32), s.power = true →
    let x := s.group g
    let x1 : Group := { x with target := fld w 27 26, role := bit w 25, uem := bit w 24 }
    let withdrawn (t : State) : Prop := ∀ v, v ∈ t.windows → v.group = g → v.drawn = true
    let refused (k : Nat) : Prop := exec (.switchGo g w) s = .next (s.setGroup g { x1 with lastref := k })
    let waits : Prop := ∃ q, q ∈ s.host.parked ∧ q.1 = g
    (bit w 31 = false → exec (.switchGo g w) s = .next (s.setGroup g x1)) ∧
    (bit w 31 = true → s.frozen (25 + g) = true → exec (.switchGo g w) s = .next
      { s.setGroup g x1 with nmc := { s.nmc with held := s.nmc.held ++ [.go g w] } }) ∧
    (bit w 31 = true → s.frozen (25 + g) = false →
      ((x.st ≠ .ready ∨ s.ready (.sgc g) = false) → refused 1) ∧
      (x.st = .ready → s.ready (.sgc g) = true →
        (g = 0 → refused 2) ∧
        (g ≠ 0 → s.carriesCompact g = true → refused 3) ∧
        (g ≠ 0 → s.carriesCompact g = false →
          (fld w 27 26 = 3 → refused 4) ∧
          (fld w 27 26 = x.pers → x.prole = bit w 25 → x.puem = bit w 24 → x.pers < 3 → refused 5) ∧
          (fld w 27 26 < 3 → fld w 27 26 ≠ x.pers → g < 16 → Moves (.switchGo g w) s fun t =>
            (t.group g).st = .drain ∧ (t.group g).lastref = 0 ∧ (t.group g).pend = fld w 27 26 ∧ (t.group g).pers = x.pers ∧
              bit (t.group g).gbnd 63 = false ∧ t.ready (.sds g) = false ∧ withdrawn t ∧ SameDevice s t)))) ∧
    (x.st = .drain → x.out = [] → x.work = [] → ¬ waits → exec (.drainComplete g) s = .next (s.setGroup g { x with st := .unbind })) ∧
    ((x.st ≠ .drain ∨ x.out ≠ [] ∨ x.work ≠ [] ∨ waits) → exec (.drainComplete g) s = .next s) ∧
    (x.st = .unbind → Moves (.unbindComplete g) s fun t => (t.group g).st = .retrain ∧ (t.group g).tries = 2 ∧
      ∀ v, v ∈ (t.group g).wins → bit v.1 63 = false) ∧
    (x.st ≠ .unbind → exec (.unbindComplete g) s = .next s) ∧
    (∀ ok, x.st ≠ .retrain → exec (.retrainComplete g ok) s = .next s) ∧
    (x.st = .retrain → exec (.retrainComplete g true) s = .next (s.setGroup g { x with st := .load })) ∧
    (x.st = .retrain → 1 < x.tries → exec (.retrainComplete g false) s = .next
      (s.setGroup g { x with tries := 1, pend := x.pers, pdrole := x.prole, pduem := x.puem, fb := true })) ∧
    (x.st = .retrain → x.tries ≤ 1 → g < 16 → Moves (.retrainComplete g false) s fun t =>
      (t.group g).st = .failed ∧ (t.group g).work = [] ∧ t.failed (.sds g) = true ∧ t.ready (.sds g) = false ∧ withdrawn t ∧ SameDevice s t) ∧
    (exec (.loadComplete g) s = .next (if x.st = .load ∧ s.loads g = true then s.setGroup g { x with st := .bind } else s)) ∧
    ((x.st ≠ .bind ∨ s.loads g = false) → exec (.bindComplete g) s = .next s) ∧
    (x.st = .bind → s.loads g = true → x.broken = false → g < 16 → Moves (.bindComplete g) s fun t =>
      let y := t.group g
      y.st = .ready ∧ y.pers = x.pend ∧ y.swgen = (if x.sw then x.swgen + 1 else x.swgen) ∧ bit y.gbnd 63 = true ∧ t.ready (.sds g) = true ∧
        SameDevice s t ∧ ∀ v, v ∈ t.windows → v.group = g → v.drawn = false ∧ hbmEnd ≤ v.base) ∧
    ((x.st = .ready ∨ x.st = .bind ∧ x.broken = true ∧ s.loads g = true) → g < 16 →
      Moves (if x.st = .ready then .serdesLinkFailure g else .bindComplete g) s fun t =>
        (t.group g).st = .retrain ∧ (t.group g).tries = 1 ∧ (t.group g).out = [] ∧ (t.group g).work = [] ∧ bit (t.group g).gbnd 63 = false ∧
          t.ready (.sds g) = false ∧ withdrawn t ∧ t.carriesCompact g = false ∧ (∀ q, q ∈ t.host.parked → q.1 ≠ g) ∧ SameDevice s t) ∧
    (x.st = .drain → Moves (.serdesLinkFailure g) s fun t => (t.group g).st = .unbind ∧ (t.group g).out = [] ∧ (t.group g).work = [] ∧
      (∀ q, q ∈ t.host.parked → q.1 ≠ g) ∧ t.mem = s.mem) ∧
    ((x.st = .load ∨ x.st = .bind) → exec (.serdesLinkFailure g) s = .next (s.setGroup g { x with broken := true })) ∧
    ((x.st = .unbind ∨ x.st = .failed ∨ x.st = .off) → exec (.serdesLinkFailure g) s = .next s)) ∧
  (∀ (s : State) (g : Nat) (pa : BitVec 52) (n o : Nat) (d : List Byte), s.power = true →
    let x := s.group g
    let a := pa.toNat
    let answers (i : Instr) (r : Nat × List Byte) : Prop := exec i s = .next (s.setGroup g { x with resp := r })
    let most := if x.pers = 1 then 256 else 4096
    (x.st ≠ .ready ∨ x.pers = 2 → ∀ k,
      answers (.serdesInboundRequest g (k, o) pa n d) (if x.pers = 0 then (if k = 3 then 0x104 else 0x101) else if x.pers = 1 then 0x102 else 0x103, [])) ∧
    (x.st = .ready → x.pers = 0 → answers (.serdesInboundRequest g (2, o) pa n d) (0x101, [])) ∧
    (x.st = .ready → x.pers = 0 → answers (.serdesInboundRequest g (3, o) pa n d) (0x104, [])) ∧
    (x.st = .ready → x.pers = 1 → answers (.serdesInboundRequest g (3, o) pa n d) (0x102, [])) ∧
    (x.st = .ready → x.pers ≠ 2 → 1 ≤ n → n ≤ most → s.rangeStatus a n = 0 →
      (s.rangeHeld a n = true → exec (.serdesInboundRequest g (0, o) pa n d) s = .next
        { s with host := { s.host with parked := s.host.parked ++ [(g, a, n)] } }) ∧
      (s.rangeHeld a n = false → s.rangeBad a n = true → answers (.serdesInboundRequest g (0, o) pa n d) (sPOISON, List.replicate n 0xFF)) ∧
      (s.rangeHeld a n = false → s.rangeBad a n = false → answers (.serdesInboundRequest g (0, o) pa n d) (0, s.rangeBytes a n))) ∧
    (x.st = .ready → x.pers ≠ 2 → 1 ≤ d.length → d.length ≤ most → s.rangeStatus a d.length = 0 →
      (s.rangeHeld a d.length = true → answers (.serdesInboundRequest g (1, o) pa n d) (sHELD, [])) ∧
      (s.rangeHeld a d.length = false → s.partialBad a d.length = true → answers (.serdesInboundRequest g (1, o) pa n d) (sPOISON, [])) ∧
      (s.rangeHeld a d.length = false → s.partialBad a d.length = false → Moves (.serdesInboundRequest g (1, o) pa n d) s fun t =>
        (t.group g).resp = (0, []) ∧ (∀ i, i < d.length → some (Mem.get t.mem (a + i)) = d[i]?) ∧
        ∀ b, (b < a ∨ a + d.length ≤ b) → Mem.get t.mem b = Mem.get s.mem b)) ∧
    (∀ k, (n = 0 ∨ most < n ∨ s.rangeStatus a n ≠ 0) → k ≠ 1 → k ≠ 3 → x.st = .ready → (x.pers = 1 ∨ x.pers = 0 ∧ k ≠ 2) →
      answers (.serdesInboundRequest g (k, o) pa n d) (sMALFORMED, [])) ∧
    (x.st = .ready → x.pers = 1 → 1 ≤ n → n ≤ 256 → s.rangeStatus a n = 0 →
      let bad : Prop := n % 4 ≠ 0 ∨ 4096 < a % 4096 + n ∨ (mkRequest 2 2 a (atomWidth n) o d).malformed = true
      let i : Instr := .serdesInboundRequest g (2, o) pa n d
      (bad → answers i (sMALFORMED, [])) ∧
      (¬ bad → s.rangeHeld a n = true → answers i (sHELD, [])) ∧
      (¬ bad → s.rangeHeld a n = false → s.rangeBad a n = true → answers i (sPOISON, [])) ∧
      (¬ bad → s.rangeHeld a n = false → s.rangeBad a n = false → (∀ q, q ∈ s.msaq → lineOf q.pa ∉ linesIn a n) → Moves i s fun t =>
        (t.group g).resp = (0, bytesOfNat n (s.memRead a n)) ∧
        (∀ j, j < n → some (Mem.get t.mem (a + j)) = (atomWords o n (s.memRead a n) d)[j]?) ∧
        ∀ b, (b < a ∨ a + n ≤ b) → Mem.get t.mem b = Mem.get s.mem b)) ∧
    (∀ (src seq : Nat) (w0 w1 bad : Word64),
      let k : Packet := ⟨(w0 >>> 48).setWidth 16, (w0 >>> 16).setWidth 32, fld w1 63 54, fld w1 53 44, fld w1 43 0, d, bad, 0, seq, 0⟩
      let i : Instr := .compactPacketReceive g (src, seq) (w0, w1) (d, bad)
      let got : Group := { x with got := (src, seq) :: x.got }
      let fits := d.length = 64 * fld w0 15 0 ∧ d ≠ [] ∧ d.length ≤ 4096 ∧ k.off % 64 = 0 ∧ k.off + d.length ≤ 2 ^ 20
      let drops : Prop := exec i s = .next (s.setGroup g { got with errs := x.errs + 1 })
      ((x.st ≠ .ready ∨ x.pers ≠ 2) → answers i (0x103, [])) ∧
      (x.st = .ready → x.pers = 2 →
        ((src, seq) ∈ x.got → exec i s = .next s) ∧
        ((src, seq) ∉ x.got →
          (Tbl.get? s.compacts k.cid.toNat = none → drops) ∧
          ∀ c, Tbl.get? s.compacts k.cid.toNat = some c →
            (¬ fits → drops) ∧
            (c.mems[k.dmem]? = none → drops) ∧
            ∀ m, c.mems[k.dmem]? = some m →
              (m.pkg ≠ s.fab.me → drops) ∧
              (m.pkg = s.fab.me → fits → c.st ≠ .signing →
                (k.sstep = BitVec.ofNat 32 c.step → exec i s = .next ((s.setGroup g got).handPacket c k) ∧
                  ((s.setGroup g got).handPacket c k).mem = s.mem) ∧
                (k.sstep = BitVec.ofNat 32 (c.step + 1) → exec i s = .next (s.setGroup g { got with held := x.held ++ [k] })) ∧
                (k.sstep ≠ BitVec.ofNat 32 c.step → k.sstep ≠ BitVec.ofNat 32 (c.step + 1) → drops))))) ∧
    (∀ i k, x.out[i]? = some k → Moves (.rudRetransmit g i) s fun t =>
      (t.group g).out[i]? = some { k with tries := k.tries + 1 } ∧ (t.group g).out.length = x.out.length ∧ t.mem = s.mem) ∧
    (∀ ok, (∀ q k r, x.work = (q, k) :: r →
        exec (.serdesResponse g ok) s = .next ((s.setGroup g { x with work := r }).answerCmd q (if ok then 0 else sLINKDOWN))) ∧
      (x.work = [] → Moves (.serdesResponse g ok) s fun t => t.mem = s.mem ∧ (t.group g).work = [] ∧ (t.group g).got = x.got ∧
        (x.out = [] → (t.group g).out = []) ∧
        (x.out ≠ [] → ∃ k, k < x.out.length ∧ (t.group g).out = x.out.eraseIdx k))))

namespace Sys2Proof.Claims
open Sys2Proof Sys2Proof.Machine

/-- A line that a host store of `n` bytes at `a` reaches: its stack is in service, no compact holds it, and it is not poisoned or is
stored to as a whole (R73, R190, R222). -/
abbrev StoreReaches (s : State) (a n l : Nat) : Prop :=
  s.ready (.hbm (64 * l / stackSize)) = true ∧ Tbl.get? s.clines l = none ∧ (s.poisoned l = false ∨ a ≤ 64 * l ∧ 64 * l + 64 ≤ a + n)

/-- The state in which an access to the word at `j` finds what the clusters held of a host line given back (R237). -/
abbrev given (s : State) (j : Nat) : State := if hostBase ≤ j then s.surrender (lineOf j) else s

/-- `i` is a move that the host makes through group 0. -/
abbrev HostMove (i : Instr) : Prop :=
  (∃ o k v, i = .registerWrite o k v) ∨ (∃ p v, i = .lpcfgWrite p v) ∨ (∃ p u, i = .lptailWrite p u) ∨ (∃ a n, i = .hostBar2Read a n) ∨
    (∃ a d, i = .hostBar2Write a d) ∨ (∃ u, i = .eqctlWrite u) ∨ (∃ u, i = .eqheadWrite u) ∨ (∃ u, i = .updateGo u) ∨
      ∃ u, i = .debugResume u

end Sys2Proof.Claims

/-- R71-R90, R127, R495: while group 0 does not present the device, nothing that the host does reaches it. While it does, BAR2 reads answer
with the device's bytes, or poisoned, or wait for a compact's boundary, and writes store, line by line, what no failed stack, held line or
poison keeps away; a store to the host's own memory changes no device memory. Registers take writes under their own layouts and rules; a
launch port, in service with its controller,
refuses a tail too far ahead, admits the entries it can and refuses the others by its reason; LPBND shows its bound, while its
controller acts; the join of a launch is incremented by its members, an empty launch stores its word, an access without a usable
translation is reported and the launch goes on; records enter the queue while it has room; an interrupt follows at most once per
microsecond.
Of the model, not of the rules, are the choices of notes/assumptions 53, 60, 62, 63, 100, 102, 104 and 115. -/
def Obligations.HostAccesses : Prop :=
  ∀ (s : State) (pa : BitVec 52) (n : Nat) (d : List Byte) (p : Nat) (v : Word64) (u k : Word32), s.power = true →
    let a := pa.toNat
    let x := s.lp p
    let port (i : Instr) (P : Port → Prop) : Prop := Moves i s fun t => P (t.lp p) ∧ t.slots = s.slots ∧ t.mem = s.mem
    (s.ready (.sds 0) = false → ∀ i, HostMove i → exec i s = .next s) ∧
    (s.ready (.sds 0) = true →
      (s.stackLost a n = false → s.rangeHeld a n = false → s.rangeBad a n = false →
        exec (.hostBar2Read pa n) s = .next { s with host := { s.host with answer := s.rangeBytes a n, bad := false } }) ∧
      (s.stackLost a n = false → s.rangeHeld a n = true →
        exec (.hostBar2Read pa n) s = .next { s with host := { s.host with parked := s.host.parked ++ [(16, a, n)] } }) ∧
      ((s.stackLost a n = true ∨ s.rangeHeld a n = false ∧ s.rangeBad a n = true) →
        exec (.hostBar2Read pa n) s = .next { s with host := { s.host with answer := List.replicate n 0xFF, bad := true } }) ∧
      (a + d.length ≤ hbmEnd → Moves (.hostBar2Write pa d) s fun t =>
        (∀ i, i < d.length → StoreReaches s a d.length (lineOf (a + i)) → some (Mem.get t.mem (a + i)) = d[i]?) ∧
        ∀ b, (b < a ∨ a + d.length ≤ b ∨ ¬ StoreReaches s a d.length (lineOf b)) → Mem.get t.mem b = Mem.get s.mem b) ∧
      (hostBase ≤ a → (∀ l, l ∈ linesIn a d.length → s.poisoned l = false) → Moves (.hostBar2Write pa d) s fun t =>
        SameDevice s t ∧ ∀ i, i < d.length → some (Mem.get t.mem (a + i)) = d[i]?) ∧
      (s.nmc.cut = none → p < 64 → x.en = false → x.head = x.acc →
        (port (.registerWrite (0x20000 + 64 * p) 8 v) fun y => y = { x with base := v &&& 0xFFFFFFFFFC000 }) ∧
        (port (.registerWrite (0x20008 + 64 * p) 8 v) fun y => y = { x with mbase := v &&& 0xFFFFFFF000000 })) ∧
      (p < 64 → x.en = true → exec (.registerWrite (0x20000 + 64 * p) 8 v) s = .next s) ∧
      (s.nmc.cut = none → p < 64 → exec (.registerWrite (0x20018 + 64 * p) 4 v) s = exec (.lptailWrite p (v.setWidth 32)) s) ∧
      (exec (.registerWrite 0x30010 4 v) s = exec (.eqheadWrite (v.setWidth 32)) s) ∧
      (∀ o w, s.nmc.cut ≠ none → (o < 0x30000 ∨ 0x31000 ≤ o) → exec (.registerWrite o w v) s = .next s) ∧
      (∀ g, s.nmc.cut = none → g < 16 → exec (.registerWrite (0x200000 + 0x1000 * g) 4 v) s = exec (.switchGo g (v.setWidth 32)) s) ∧
      (256 < (u - x.acc).toNat ∨ 256 < (u - x.tail).toNat → port (.lptailWrite p u) fun y =>
        y.tail = x.tail ∧ y.acc = x.acc ∧ fld y.stat 31 24 = 4) ∧
      ((u - x.acc).toNat ≤ 256 → (u - x.tail).toNat ≤ 256 → x.acc ≠ u → x.en = false → port (.lptailWrite p u) fun y =>
        y.tail = u ∧ y.acc = x.acc ∧ y.ents = x.ents ∧ fld y.stat 31 24 = 1) ∧
      (fld v 59 48 ≤ 1024 → bit v 63 = false → x.en = false → x.head = x.acc → port (.lpcfgWrite p v) fun y =>
        y = { x with cfg := v &&& 0x7FFFFFFFFFFFFF00 }) ∧
      (fld v 59 48 ≤ 1024 → bit v 63 = true → s.frozen (1 + p / 16) = false → x.en = false → x.head = x.acc →
        port (.lpcfgWrite p v) fun y =>
          (s.overbooked p { x with cfg := v &&& 0x7FFFFFFFFFFFFF00 } = false → s.serves (1 + p / 16) = true → y.en = true) ∧
          ((s.overbooked p { x with cfg := v &&& 0x7FFFFFFFFFFFFF00 } = true ∨ s.serves (1 + p / 16) = false) →
            y.en = false ∧ fld y.stat 31 24 = 6)) ∧
      (s.evq.en = false → Moves (.eqctlWrite u) s fun t => (t.evq.en = true ↔ bit u 31 = true ∧ 6 ≤ fld u 4 0 ∧ fld u 4 0 ≤ 16) ∧
        t.evq.int = bit u 30 ∧ SameDevice s t) ∧
      (s.evq.held = [] → exec (.eqheadWrite u) s = .next { s with evq := { s.evq with head := u } })) ∧
    (s.acting (1 + p / 16) = false → exec (.lpbndUpdate p) s = .next s) ∧
    (s.acting (1 + p / 16) = true → port (.lpbndUpdate p) fun y => fld y.bnd 31 0 = s.latOf x % 2 ^ 32 ∧
      (s.latOf x < 2 ^ 32 → bit y.bnd 63 = true → x.en = true ∧ x.res ≠ 0)) ∧
    (∀ e, (x.ents.find? fun f => f.seq == k && f.m != 0 && !f.joined && f.park.isNone) = some e →
      let va := (e.words.getD 6 0).toNat
      (va = 0 → exec (.launchJoinIncrement p k) s = .next (s.entryDone p e.seq)) ∧
      (va ≠ 0 → e.pts = [] → (va % 8 ≠ 0 ∨ 2 ^ 48 ≤ va ∨ s.lookupIn e.cluster x.asid.toNat va .atomic = .unbacked) →
        exec (.launchJoinIncrement p k) s = .next ((s.raise [launchBad p 8 e.seq]).entryDone p e.seq)) ∧
      ∀ j unc mir, s.lookupIn e.cluster x.asid.toNat va .atomic = .here j unc mir →
        va ≠ 0 → e.pts = [] → va % 8 = 0 → va < 2 ^ 48 → j % 8 = 0 → (mir = false ∨ s.ring.gone = [] ∧ s.coh.mirror.length < 8192) →
        s.rangeHeld j 8 = false → s.poisoned (lineOf j) = false → Moves (.launchJoinIncrement p k) s fun t =>
          t.mem8 j = (given s j).mem8 j + BitVec.ofNat 64 e.m ∧
            ∀ b, (b < j ∨ j + 8 ≤ b) → Mem.get t.mem b = Mem.get (given s j).mem b) ∧
    (∀ e, (x.ents.find? fun f => !f.placed) = some e → e.m = 0 → e.park = none → e.joined = false → e.pts = [] →
      let va := (e.words.getD 3 0).toNat
      ∀ j unc mir, s.lookupIn e.cluster x.asid.toNat va .store = .here j unc mir →
        va ≠ 0 → va % 8 = 0 → va < 2 ^ 48 → j % 8 = 0 → (mir = false ∨ s.ring.gone = [] ∧ s.coh.mirror.length < 8192) →
        s.rangeHeld j 8 = false → s.poisoned (lineOf j) = false → Moves (.emptyLaunchComplete p) s fun t =>
          t.mem8 j = e.words.getD 4 0 ∧ ∀ b, (b < j ∨ j + 8 ≤ b) → Mem.get t.mem b = Mem.get (given s j).mem b) ∧
    (∀ e, (x.ents.find? fun f => f.seq == k && !f.placed && f.m != 0) = some e →
      let z := s.die (e.cluster / 4)
      (∀ g, g ∈ z.ages → g.1 ≤ e.at0) →
        (e.at0 + z.sdtage.toNat ≤ s.time.ns →
          port (.portEntryAged p k) fun y => { e with aged := true } ∈ y.ents ∧ y.ents.length = x.ents.length) ∧
        (s.time.ns < e.at0 + z.sdtage.toNat → exec (.portEntryAged p k) s = .next s)) ∧
    (exec .msixInterrupt s = .next (if s.evq.due = true ∧ s.evq.int = true ∧ (s.evq.sent = 0 ∨ s.evq.sentAt + 1000 ≤ s.time.ns) then
      { s with evq := { s.evq with due := false, sentAt := s.time.ns, sent := s.evq.sent + 1 } } else s))

/-- R96-R110, R24, R453: with the NMC in service an update passes from STAGE to WAITHP, FREEZE, START and COMMIT, after which the other slot is active and the floor
not lower, or ends with the result that the rules name; a report that comes late, meets a record damaged or follows a fatal error is
ignored; a watchdog that runs out rolls back, and then fails the controller; a quote is written once per request; a fatal error is
recorded once and its dump completes once, kept by the controller when no copy of it could be made; a core in debug halt resumes.
Of the model, not of the rules, are the choices of notes/assumptions 5, 8, 9, 58, 59 and 113. -/
def Obligations.Maintenance : Prop :=
  ∀ s : State, s.power = true →
    let n := s.nmc
    let c := n.uctl
    let wd := (if n.wd = 0 then 50 else n.wd) * 1000000
    let nm (i : Instr) (P : Nmc → Prop) : Prop := Moves i s fun t => P t.nmc ∧ SameDevice s t
    (∀ v : Word32, s.ready (.sds 0) = true → bit v 31 = true → s.serves 0 = true →
      (n.st = .idle → fld v 21 16 ≤ 40 → nm (.updateGo v) fun m => m.st = .stage ∧ m.uctl = fld v 21 16 ∧ m.wd = fld v 11 0) ∧
      (n.st ≠ .idle → nm (.updateGo v) fun m => m.st = n.st ∧ m.uctl = c ∧ m.result = 6) ∧
      (n.st = .idle → 40 < fld v 21 16 → nm (.updateGo v) fun m => m.st = .idle ∧ m.result = 7)) ∧
    (s.serves 0 = false → (∀ v, exec (.updateGo v) s = .next s) ∧ exec .stageComplete s = .next s ∧ exec .handoverPoint s = .next s ∧
      exec .attestQuote s = .next s) ∧
    (n.st = .stage → s.serves 0 = true → s.rangeStatus n.upaddr.toNat 128 = 0 → s.rangeBad n.upaddr.toNat 128 = false →
      let h := s.rangeBytes n.upaddr.toNat 128
      let len := min (fld (imgWord h 0x10) 63 32) (2 ^ 22)
      s.rangeStatus (n.upaddr.toNat + 128) (max len 1) = 0 → s.rangeBad (n.upaddr.toNat + 128) (max len 1) = false →
        s.imageFault c h (s.rangeBytes (n.upaddr.toNat + 128) len) = 0 → nm .stageComplete fun m => m.st = .waithp ∧
          ∃ g, Tbl.get? m.images (slotKey c (!bit n.act c)) = some g ∧ g.ver = imgWord h 8) ∧
    (n.st = .stage → s.serves 0 = true → s.rangeStatus n.upaddr.toNat 128 ≠ 0 → n.held = [] → nm .stageComplete fun m =>
      m.st = .idle ∧ m.result = 5 ∧ m.upgen = n.upgen + 1 ∧ m.images = n.images) ∧
    (n.st ≠ .stage → exec .stageComplete s = .next s) ∧
    (n.st = .waithp → s.handoverOk c = true → s.serves 0 = true → nm .handoverPoint fun m => m.st = .freeze ∧ m.tfrz = s.time.ns ∧ m.prnd = s.rounds.dev) ∧
    ((n.st ≠ .waithp ∨ s.handoverOk c = false) → exec .handoverPoint s = .next s) ∧
    (n.st = .freeze → nm .freezeComplete fun m => m.st = .start ∧ m.record = s.handover c) ∧
    (n.st ≠ .freeze → exec .freezeComplete s = .next s) ∧
    (s.recordOk = true → s.abandoned = false → n.held = [] →
      (n.st = .start → s.time.ns ≤ n.since + wd → (s.staged c).fmtMin ≤ (s.running c).fmtOut → (s.running c).fmtOut ≤ (s.staged c).fmtMax →
        nm (.aliveReport false) fun m => m.st = .idle ∧ m.result = 1 ∧ m.act = setBit n.act c (!bit n.act c) ∧ m.upgen = n.upgen + 1 ∧
          Tbl.get n.floors c 0 ≤ Tbl.get m.floors c 0 ∧ (s.staged c).floor ≤ Tbl.get m.floors c 0) ∧
      (n.st = .rollback → s.time.ns ≤ n.since + 5000000 → nm (.aliveReport true) fun m => m.st = .idle ∧ m.result = 2 ∧ m.act = n.act)) ∧
    (∀ old, (s.recordOk = false ∨ s.abandoned = true ∨ old = false ∧ (n.st ≠ .start ∨ n.since + wd < s.time.ns) ∨
      old = true ∧ (n.st ≠ .rollback ∨ n.since + 5000000 < s.time.ns)) → exec (.aliveReport old) s = .next s) ∧
    (n.st = .start → n.since + wd ≤ s.time.ns → s.abandoned = false → nm .watchdogExpiry fun m => m.st = .rollback) ∧
    ((n.st ≠ .start ∨ s.time.ns < n.since + wd ∨ s.abandoned = true) → exec .watchdogExpiry s = .next s) ∧
    (n.st = .rollback → n.since + 5000000 ≤ s.time.ns → s.abandoned = false → n.held = [] → 5 ≤ c → c ≤ 40 → Moves .rollbackExpiry s fun t =>
      t.nmc.st = .idle ∧ t.nmc.result = 3 ∧ t.failed (ctlFunc c) = true ∧ t.ready (ctlFunc c) = false ∧ SameDevice s t) ∧
    (n.quotes ≠ 0 → s.acting 0 = true → Moves .attestQuote s fun t => t.nmc.quotes = n.quotes - 1 ∧ t.nmc.attgen = n.attgen + 1 ∧
      (s.rangeStatus n.attaddr.toNat s.quote.length ≠ 0 → t.mem = s.mem)) ∧
    ((n.quotes = 0 ∨ s.acting 0 = false) → exec .attestQuote s = .next s) ∧
    (∀ cause : BitVec 8, (n.fatal = none → nm (.fatalError cause) fun m => m.fatal = some (cause.toNat, s.time.ns)) ∧
      (n.fatal ≠ none → exec (.fatalError cause) s = .next s)) ∧
    (∀ lost, ((n.fatal = none ∨ n.cut = none ∨ n.dumped = true ∨ s.frozen 0 = true) → exec (.dumpComplete lost) s = .next s) ∧
      ∀ f, n.fatal = some f → n.cut ≠ none → n.dumped = false → s.frozen 0 = false → Moves (.dumpComplete lost) s fun t =>
        t.nmc.dumped = true ∧ (s.dumpPlace = 2 → SameDevice s t ∧ ((n.dumphost = 0 ∨ (s.group 0).st ≠ .ready ∨ lost = true) →
          t.nmc.kept = s.dumpHeader f.1 f.2 s.dumpBody))) ∧
    (∀ v : Word32, s.ready (.sds 0) = true → bit v 31 = true → fld v 11 0 < 3072 → Moves (.debugResume v) s fun t =>
      (t.core (fld v 11 0)).halted = false ∧ t.mem = s.mem ∧ t.slots = s.slots)

/-- R123-R141, R220, R330, R365, R453-R456: the moves of the strand dispatchers. A record at the head of the highest run queue is
placed; a quantum that runs out asks for a stop or starts again; a stopped strand is saved; an aged gang reserves whole tiles; a unit
load takes the tile's new partition; a watch whose condition holds frees its record; a quiet address space gets one HANG; a round starts
where its injector acts, a die's units enter the next one when every input has delivered, and it ends when every die's have; lost links are recorded, and lost dies once the buddy's controller
confirms them; asynchronous traps are taken and IDLE ends.
Of the model, not of the rules, are the choices of notes/assumptions 32, 57, 65, 74, 85 and 117. -/
def Obligations.DispatcherMoves : Prop :=
  ∀ (s : State) (n : Nat), s.power = true →
    let x := s.getSlot n
    let c := clusterOf n
    (∀ k q e r a i, q < 8 → s.pressed k = false → s.portQueue k = [] → (∀ p, q < p → p < 8 → s.queue k p = []) →
      s.queue k q = e :: r → (∀ f, f ∈ s.queue k q → f.pre = false) → e.recs = [a] →
      s.chooseSlot k (fld (s.recWord a 7) 55 48) false = some i → Moves (.strandPlace k) s fun t =>
        (t.getSlot (k * 768 + i)).occ = true ∧ (t.getSlot (k * 768 + i)).recAddr = BitVec.ofNat 48 a ∧ t.queue k q = r) ∧
    (isTsc n = false → x.occ = true → x.quantum = 0 → x.stop = .none → (s.core (coreOf n)).halted = false →
      (x.clsC = true → exec (.quantumExpiry n) s = .next (s.putSlot n { x with quantum := s.quantumOf n })) ∧
      (x.clsC = false → s.pressed c = false → s.outranked n = true → x.ctx ≠ 0 →
        exec (.quantumExpiry n) s = .next (s.putSlot n { x with stop := .preempt false })) ∧
      (x.clsC = false → s.pressed c = false → s.outranked n = false → (s.cluster c).resvs = [] →
        exec (.quantumExpiry n) s = .next (s.putSlot n { x with quantum := s.quantumOf n }))) ∧
    (x.stop = .preempt false → x.occ = true → s.atBoundary n = true → x.ctx ≠ 0 → x.prio.toNat < 8 → Moves (.preemptStop n) s fun t =>
      t.getSlot n = Slot.reset ∧ ∃ e l, t.queue c x.prio.toNat = e :: l ∧ e.recs = [x.recAddr.toNat] ∧ e.pre = true) ∧
    (∀ k (a : BitVec 48) e, ((s.cluster k).queues.toList.flatten.find? fun e => e.recs.head? == some a.toNat && !e.pre) = some e →
      let z := s.die (k / 4)
      (∀ g, g ∈ z.ages → g.1 ≤ e.since) → (s.cluster k).resvs = [] →
        (s.acting (1 + k / 4) = true → e.since + z.sdtage.toNat ≤ s.time.ns → 1 < e.recs.length →
          (∀ i, i < 48 → (s.tile (k * 48 + i)).held = none) → cdiv e.recs.length 16 ≤ 48 → Moves (.gangAged k a) s fun t =>
            ∃ r, (t.cluster k).resvs = [r] ∧ r.first = 0 ∧ r.count = cdiv e.recs.length 16 ∧ r.recAddr = a.toNat ∧ t.slots = s.slots) ∧
        ((s.acting (1 + k / 4) = false ∨ s.time.ns < e.since + z.sdtage.toNat ∨ e.recs.length ≤ 1) → exec (.gangAged k a) s = .next s)) ∧
    (∀ i g, s.gstops[i]? = some g → g.cid = none → g.slots.Nodup → (∀ m, m ∈ g.slots → s.atBoundary m = true ∧ (s.getSlot m).ctx ≠ 0) →
      Moves (.gangStopDrain i) s fun t => t.gstops = s.gstops.eraseIdx i ∧
        ∀ m, m ∈ g.slots → (s.getSlot m).occ = true → (s.getSlot m).stop = .gang → t.getSlot m = Slot.reset) ∧
    (∀ k v, (s.tile k).load = some v → (s.tile k).mxq = [] → (s.tile k).req = [] →
      (∀ j, j < 4 → (s.core (k * 4 + j)).vq = [] ∧ (s.core (k * 4 + j)).ceq = [] ∧ (s.core (k * 4 + j)).pushes = []) →
        Moves (.unitLoad k) s fun t => (t.tile k).scr = v ∧ (t.tile k).load = none ∧ t.slots = s.slots ∧ t.ts = s.ts) ∧
    (∀ k line w, k < 16 → line < 2 ^ 46 → Tbl.get? s.clines line = none → s.touched = [lineKey (256 + k) line] →
      (s.cluster k).watch = [w] → w.pa / 64 = line →
        (waitCond w.cond (s.watched 16 w) w.val.toNat = true → Moves (.watchEvaluate k line) s fun t => (t.cluster k).watch = []) ∧
        (waitCond w.cond (s.watched 16 w) w.val.toNat = false → exec (.watchEvaluate k line) s = .next { s with touched := [] })) ∧
    (∀ a : BitVec 16,
      let quiet (k : Nat) : Prop := s.liveIn a k = false ∧ s.trafficIn a k = false ∧ Tbl.get s.quiet (k * 2 ^ 16 + a.toNat) 0 + 4096 ≤ s.time.cyc
      (((∀ k, k < 16 → s.holdsAsid a k = false) ∨ (∃ k, k < 16 ∧ s.holdsAsid a k = true ∧ ¬ quiet k) ∨ a.toNat ∈ s.hung) →
        exec (.hangDetect a) s = .next s) ∧
      ((∃ k, k < 16 ∧ s.holdsAsid a k = true) → (∀ k, k < 16 → s.holdsAsid a k = true → quiet k) → a.toNat ∉ s.hung →
        ∀ r m y, Tbl.get? s.desig a.toNat = some r → (s.slots.find? fun e => e.2.occ && e.2.recAddr.toNat == r) = some (m, y) →
          exec (.hangDetect a) s = .next ({ s with hung := insertNat a.toNat s.hung }.putSlot m { y with lh := true }))) ∧
    (∀ i l, s.landings[i]? = some l → (s.getSlot l.slot).occ = true → (s.getSlot l.slot).recAddr = l.recAddr →
      bit (s.getSlot l.slot).busyS l.reg = true → 0 < l.reg → l.reg < 64 → Moves (.engineStatusLand i) s fun t =>
        (t.getSlot l.slot).getS l.reg = l.val ∧ bit (t.getSlot l.slot).busyS l.reg = false ∧ t.landings = s.landings.eraseIdx i) ∧
    (∀ pod : Bool,
      let r := s.rounds
      ((r.running pod = true ∨ s.injects pod = false) → exec (.roundInject pod) s = .next s) ∧
      (∀ d l, r.running pod = false → s.injects pod = true → s.diesUp = d :: l → Moves (.roundInject pod) s fun t =>
        t.rounds.running pod = true ∧ t.rounds.running (!pod) = r.running (!pod) ∧ t.rounds.edge pod = r.edge pod ∧
          t.rounds.units = r.units ∧ (pod, d) ∈ t.rounds.told ∧ (pod, d, 2) ∈ t.rounds.fly) ∧
      ∀ (u i : Nat) (b : List Byte), i < 3 → ∀ _ : u < 4,
        let k := r.edge pod + 1
        let seen := (pod, u * 16 + i) :: r.seen
        let fly := r.fly.erase (pod, u, i)
        let next := r.units.setIfInBounds u (if pod then ((r.units[u]).1, (r.units[u]).2 + 1) else ((r.units[u]).1 + 1, (r.units[u]).2))
        ((pod, u, i) ∉ r.fly → exec (.pennantFlit u i pod b) s = .next s) ∧
        ((pod, u, i) ∈ r.fly → r.running pod = true → (pod, u) ∈ r.told → (pod, u * 16 + i) ∉ r.seen → u ∉ s.ring.gone →
          ((∃ j, j ∈ s.dieInputs pod u ∧ j ≠ i ∧ (pod, u * 16 + j) ∉ r.seen) →
            exec (.pennantFlit u i pod b) s = .next { s with rounds := { r with fly := fly, seen := seen } }) ∧
          ((∀ j, j ∈ s.dieInputs pod u → j = i ∨ (pod, u * 16 + j) ∈ r.seen) →
            ((∃ e, e ∈ s.diesUp ∧ e ≠ u ∧ r.entered pod e ≠ k) →
              exec (.pennantFlit u i pod b) s = .next { s with rounds := { r with fly := fly, seen := seen, units := next } }) ∧
            ((∀ e, e ∈ s.diesUp → e = u ∨ r.entered pod e = k) → r.entered pod u = r.edge pod →
              Moves (.pennantFlit u i pod b) s fun t => t.rounds.edge pod = k ∧ t.rounds.running pod = false ∧
                ∀ w, w ∈ t.rounds.waits → w.1 ≠ pod ∨ k.toNat < w.2.1.toNat)))) ∧
    (∀ l, Moves (.d2dLinkFailure l) s fun t => l ∈ t.ring.down ∧ ∀ j, j ∈ s.ring.down → j ∈ t.ring.down) ∧
    (∀ d, exec (.dieSuspect d) s = .next { s with ring := { s.ring with suspect := insertNat d s.ring.suspect } }) ∧
    (∀ d, s.confirms d = false → exec (.dieTakeover d) s = .next s) ∧
    (∀ d, d < 4 → d ∈ s.ring.suspect → d ∉ s.ring.gone → s.confirms d = true → Moves (.dieTakeover d) s fun t =>
      d ∈ t.ring.gone ∧ d ∉ t.ring.suspect ∧ (∀ i, i < 4 → t.failed (.clu (4 * d + i)) = true) ∧
        ∀ i, i < 192 → t.cache (192 * d + i) = []) ∧
    (x.occ = true → x.gone = false → x.wait ≠ .launch → s.accessFree n = true → s.compactAt n = false →
      (∀ k, x.lm = some k → exec (.asyncTrapTake n) s =
        .next ((s.putSlot n { x with lm := none }).enterTrap n .msgOverflow k.toNat true x.pc)) ∧
      (x.lm = none → x.lh = true → exec (.asyncTrapTake n) s =
        .next ((s.putSlot n { x with lh := false }).enterTrap n .hang (s.asidOf n).toNat true x.pc))) ∧
    ((x.occ = false ∨ x.gone = true ∨ x.wait = .launch ∨ s.accessFree n = false ∨ s.compactAt n = true ∨ x.lm = none ∧ x.lh = false) → exec (.asyncTrapTake n) s = .next s) ∧
    (∀ till, x.wait = .idle till → exec (.idleWake n) s = .next (if till ≤ s.time.cyc then s.putSlot n { x with wait := .none } else s))

namespace Sys2Proof.Claims
open Sys2Proof Sys2Proof.Machine

/-- Nothing waits for a boundary of a compact: no command's, stream's, strand's, package's or host's read, no packet (R190, R68). -/
abbrev NoneParked (s : State) : Prop :=
  (∀ q h r, s.queueOf q = h :: r → h.home = []) ∧
    (∀ e, e ∈ s.slots → (∀ r b, e.2.stream r = some b → b.home = []) ∧ ∀ l, e.2.wait ≠ .held l) ∧ s.optic.parked = [] ∧ s.host.parked = [] ∧ ∀ g, (s.group g).held = []

/-- The units of a compact's tiles here have nothing left to do, and no store of its strands is in flight (R190, R191). -/
abbrev Settled (s : State) (c : Compact) : Prop :=
  (∀ e, e ∈ s.locals c → (s.tile e.1.tile).mxq = [] ∧ (∀ j, j < 4 → (s.core (coreAt e.1.tile j)).ceq = []) ∧
    ∀ m, (s.tile e.1.tile).held = some m → m.send = [] ∧ m.fly = []) ∧ ∀ n, n ∈ s.allMembers c → (s.getSlot n).late = []

end Sys2Proof.Claims

/-- R153, R161, R168, R178-R191, R256-R263, R327, R330, R370, R402: the moves of tiles, translation caches and compacts.

R178, R184-R191: a compact whose tiles are free, its dies at one throttle level, starts superstep 0; an expired wait empties its tiles; a hold passes no phase
cycle; a unit leaves its buffer and lands within the latency in its member's tile store, counted; a barrier whose members have arrived and whose counts are met starts the next
superstep; a transfer that misses its deadline stalls the compact; a pending dissolution ends it, its tiles free.
Of the model, not of the rules, are the choices of notes/assumptions 51, 55, 64, 68, 69, 85, 101, 112 and 120. -/
def Obligations.TilesAndCompacts : Prop :=
  (∀ (s : State) (n k : Nat), s.power = true →
    let x := s.getSlot n
    (∀ j, j < 4 → k < 768 → (∀ i, i < 4 → i ≠ j → (s.core (k * 4 + i)).vq = []) → ∀ v r, (s.core (k * 4 + j)).vq = v :: r →
      let z := s.tile k
      Moves (.vectorBind k) s fun t => t.mem = s.mem ∧ t.ts = s.ts ∧ (t.tile k).vcyc = z.vcyc + 1 ∧
        ((∀ g, g ∈ z.lanes.toList → z.vcyc < g) → (t.core (k * 4 + j)).vq = v :: r) ∧
        ((∃ g, g ∈ z.lanes.toList ∧ g ≤ z.vcyc) → (t.core (k * 4 + j)).vq = r) ∧
        ((∀ g, g ∈ z.lanes.toList → g ≤ z.vcyc) → (t.tile k).lanes = Vector.replicate 4 (z.vcyc + 1))) ∧
    (∀ i e, s.semReady k i = some e → 2 ^ 20 ≤ e.who → Moves (.semaphoreWaitComplete k i) s fun t =>
      t.semVal k i = s.semVal k i - e.n ∧ e ∉ (t.tile k).semw ∧ t.mem = s.mem) ∧
    (∀ r b, x.stream r = some b → b.write = false → b.cnt ≤ b.pos + b.ahead.length → exec (.streamReadahead n r) s = .next s) ∧
    (∀ r b, 12 ≤ r → r < 16 → x.stream r = some b → b.write = false → b.pos + b.ahead.length < b.cnt → b.bad = false →
      b.home = [] → b.park = none → b.win = true → s.tsPoison = [] → s.compactAt n = false →
      let o := (b.addr (b.pos + b.ahead.length)).toNat
      let u := clusterOf n * 48 + o / 2 ^ 20
      o < 0x3000000 → (s.tile u).held = none → o % 2 ^ 20 + 256 ≤ min ((s.tile u).scr.toNat * 65536) (2 ^ 20) → Moves (.streamReadahead n r) s fun t =>
        t.ts = s.ts ∧ t.mem = s.mem ∧ ∃ (y : Stream) (v : VReg), (t.getSlot n).stream r = some y ∧ y.pos = b.pos ∧ v.tag = some b.fmt ∧
          y.ahead = b.ahead ++ [v]) ∧
    (∀ p, x.park = some p → x.wait = .fault → p.eng = 0 → p.due ≤ s.time.cyc →
      exec (.faultRetry n 0) s = .next (s.putSlot n { x with wait := .none })) ∧
    (∀ (w : Word64) p, (n, 0, w) ∈ s.xl.replies → x.occ = true → x.park = some p → x.wait = .fault → p.eng = 0 → p.out = true →
      p.tag.toNat = fld w 29 0 →
        (fld w 63 56 = 1 → Moves (.faultReply n 0 w) s fun t => (t.getSlot n).park = some { p with out := false, deny := true } ∧
          (t.getSlot n).wait = .fault ∧ t.xl.replies = s.xl.replies.erase (n, 0, w)) ∧
        (fld w 63 56 = 0 → Moves (.faultReply n 0 w) s fun t => (t.getSlot n).wait = .none ∧
          (t.getSlot n).park = some { p with out := false, tries := 0, due := 0 })) ∧
    (∀ e, s.sent = [e] → e.tile = k → s.reaches e.rnd (k / 192) = true → (s.getSlot e.slot).occ = true → (s.getSlot e.slot).recAddr = e.recAddr →
      bit (s.getSlot e.slot).busyS e.reg = true → 0 < e.reg → e.reg < 64 → s.ready (.clu (k / 48)) = true → Moves (.messageArrive k) s fun t =>
        t.sent = [] ∧ t.mem = s.mem ∧
          ((t.getSlot e.slot).getS e.reg = 0 ∨ (t.getSlot e.slot).getS e.reg = 0x0100000000000000)) ∧
    (∀ c line p, Tbl.get? s.xl.ptl line = some p → c ∈ p.waiting → s.ring.suspect.contains (dieOfCache c) = false →
      Moves (.ptInvalidate c line) s fun t => (∀ e, e ∈ t.cache c ↔ e ∈ s.cache c ∧ e.ptLine ≠ line) ∧ t.mem = s.mem ∧
        ∃ q, Tbl.get? t.xl.ptl line = some q ∧ c ∈ q.removed ∧ q.waiting = p.waiting.erase c) ∧
    (∀ c line p, Tbl.get? s.xl.ptl line = some p → c ∈ p.removed → s.cacheBusy c = false → (∀ e, e ∈ s.cache c → e.ptLine ≠ line) →
      Moves (.ptInvalidateAck c line) s fun t => t.mem = s.mem ∧
        ∀ q, Tbl.get? t.xl.ptl line = some q → q.removed = p.removed.erase c ∧ q.holders = p.holders.erase c) ∧
    (∀ line p, Tbl.get? s.xl.ptl line = some p → p.waiting = [] → p.removed = [] → Moves (.ptStoreComplete line) s fun t =>
      (∀ m, m ∈ p.storers → (t.getSlot m).wait ≠ .round) ∧ ∀ q, Tbl.get? t.xl.ptl line = some q → q.storers = []) ∧
    (Moves (.tilePowerGate k) s fun t => t.cache k = [] ∧ t.mem = s.mem ∧ t.slots = s.slots ∧ ∀ j, j ≠ k → t.cache j = s.cache j) ∧
    (∀ l, (s.tlbRegs.find? fun l => l.slot == n) = some l → exec (.registrationAcknowledged n) s =
      .next ({ s with tlbRegs := s.tlbRegs.erase l }.landStatus l.slot l.reg l.recAddr l.ctx l.val)) ∧
    (s.compactOf n = none → exec (.writeLands n) s = .next s) ∧
    (∀ cid c, s.compactOf n = some (cid, c) → exec (.writeLands n) s = .next (s.catchUp c)) ∧
    (∀ r : Reject, Moves (.wordNotInstruction r) s fun t =>
      t = s.takeTrap (match r with | .zeroWord => .zeroWord | .illegalOp => .illegalOp | .reserved => .reserved) 0)) ∧
  (∀ (s : State) (cid : BitVec 16) (c : Compact), s.power = true → Tbl.get? s.compacts cid.toNat = some c →
    let k := cid.toNat
    let held (t : State) : Prop := ∀ e, e ∈ s.locals c → (t.tile e.1.tile).held = none
    (c.st = .signing → (c.away = true ∨ s.oneLevel c = false ∨ ∃ e, e ∈ s.locals c ∧ (s.occupied e.1.tile ≠ [] ∨ s.tileQuiet e.1.tile = false)) →
      Moves (.superstepStart cid) s fun t => t.tiles = s.tiles ∧ t.ts = s.ts ∧ t.slots = s.slots) ∧
    (c.st = .signing → c.away = false → c.diss = false → c.stopPending = false → c.joinPa = none → s.oneLevel c = true → NoneParked s →
      (∀ e, e ∈ s.locals c → s.occupied e.1.tile = [] ∧ s.tileQuiet e.1.tile = true) → Moves (.superstepStart cid) s fun t => ∃ d, Tbl.get? t.compacts k = some d ∧ d.st = .running ∧ d.step = c.step ∧ d.wait = [] ∧
        ∀ e, e ∈ s.locals c → (t.tile e.1.tile).held ≠ none) ∧
    (c.st = .signing → c.t0 + 1000 * c.entry.getD 0 ≤ s.time.ns →
      exec (.signingWaitExpiry cid) s = .next ((s.locals c).foldl (fun t e => t.emptyTile e.1.tile) s)) ∧
    ((c.st ≠ .signing ∨ s.time.ns < c.t0 + 1000 * c.entry.getD 0) → exec (.signingWaitExpiry cid) s = .next s) ∧
    (∀ h, exec (.holdAnnounce cid h) s = .next { s with time := { s.time with cyc := s.time.cyc + h } }) ∧
    (∀ j m u r d, (s.tile j).held = some m → m.cid = cid → m.fly = [] → m.send = u :: r → c.mems[u.dmem]? = some d → d.pkg = s.fab.me →
      s.phasePast c u.left = true → Moves (.xferUnitLand j) s fun t => t.ts = s.ts ∧ ∃ at0, u.left < at0 ∧ at0 ≤ u.left + (spanLat c.mems).1 ∧
        ((t.tile j).held.map fun y => (y.send, y.fly)) = some (r, [({ u with rnd := s.roundStamp (j / 192) }, at0)])) ∧
    (∀ j m u at0 d, (s.tile j).held = some m → m.cid = cid → m.fly = [(u, at0)] → c.mems[u.dmem]? = some d → d.pkg = s.fab.me →
      s.phasePast c at0 = true → s.unitReaches c u = true → u.off + 64 ≤ 2 ^ 20 → ∀ y, (s.tile d.tile).held = some y →
      Moves (.xferUnitLand j) s fun t => ((t.tile j).held.map Member.fly) = some [] ∧ (d.srcOf u.smem = none → t.ts = s.ts) ∧
        (∀ i, d.srcOf u.smem = some i → Tbl.get y.rcv i 0 < 65535 →
          ((t.tile d.tile).held.map fun z => Tbl.get z.rcv i 0) = some (Tbl.get y.rcv i 0 + 1)) ∧
        (d.srcOf u.smem ≠ none → t.tsRead d.tile u.off 64 = u.data.toNat ∧
          ∀ b, (b < d.tile * 2 ^ 20 + u.off ∨ d.tile * 2 ^ 20 + u.off + 64 ≤ b) → Mem.get t.ts b = Mem.get s.ts b)) ∧
    (∀ j m u r, (s.tile j).held = some m → m.cid = cid → m.fly = [] → m.send = u :: r → s.phasePast c u.left = false →
      exec (.xferUnitLand j) s = .next s) ∧
    (c.st = .running → s.allArrived c = true → s.countsMet c = true → c.diss = false → c.scnt = none → spanOf c.mems ≠ 3 →
      Settled s c → NoneParked s → Moves (.compactBarrierRelease cid) s fun t =>
        ∃ d, Tbl.get? t.compacts k = some d ∧ d.step = c.step + 1 ∧ d.st = .running) ∧
    ((c.st ≠ .running ∨ s.allArrived c = false ∨ s.countsMet c = false ∨ s.sendsPast c = false) → exec (.compactBarrierRelease cid) s = .next s) ∧
    (c.st = .running → s.allArrived c = true → (∀ p, p ∈ s.farOf c → p ∈ c.there) →
      (s.countsMet c = false ∨ ∃ p, p ∈ s.farOf c ∧ p ∉ c.heard) → c.tdl ≠ 0 → c.arrNs + 1000 * c.tdl ≤ s.time.ns →
        Moves (.transferDeadlineExpiry cid) s fun t => ∃ d, Tbl.get? t.compacts k = some d ∧ d.st = .stalled) ∧
    ((c.st ≠ .running ∨ s.allArrived c = false ∨ c.tdl = 0 ∨ s.time.ns < c.arrNs + 1000 * c.tdl) →
      exec (.transferDeadlineExpiry cid) s = .next s) ∧
    (c.st = .stopped → c.diss = true → c.joinPa = none → s.asked (.dissolve k) = false → Settled s c → NoneParked s →
      Moves (.compactDissolve cid) s fun t =>
      Tbl.get? t.compacts k = none ∧ held t) ∧
    (c.diss = false → exec (.compactDissolve cid) s = .next s))

/-- R200-R219, R223, R233, R452: the moves of tiles, cluster homes and memory-side units in unified and partitioned mode: requests that
find their line, one that loses to another tile's for its ownership, a full miss table's ticket, write-backs and those that circle, evictions, probes and their acknowledgements, conflicts,
refusals, fills, replies, leases, ownership,
mirrors, clocks, fence tickets and the end of a mode switch.
Of the model, not of the rules, are the choices of notes/assumptions 25, 28, 78, 107 and 115. -/
def Obligations.CoherenceMoves : Prop :=
  ∀ (s : State) (k line : Nat) (m : Word64), s.power = true →
    let c := k / 48
    let i := sliceIdx c line
    let x := s.tab i
    let same (t : State) : Prop := t.mem = s.mem ∧ t.slots = s.slots ∧ t.ts = s.ts
    (∀ j kind, (j = .rds k line ∧ kind = .rds) ∨ (j = .rdx k line m ∧ kind = .rdx) ∨ (j = .upg k line m ∧ kind = .upg) →
      (s.caches k = false ∨ s.treq k line ≠ none → exec j s = .next s) ∧
      (s.caches k = true → s.treq k line = none → (s.dirOf c line).map DirEnt.st ≠ some .c →
        s.loses ⟨k, line, kind, 0, none, false, false, [], []⟩ = true → Moves j s fun t => same t ∧ t.dirOf c line = s.dirOf c line ∧
          ∃ q, t.treq k line = some q ∧ q.kind = kind ∧ q.clash = true) ∧
      (s.caches k = true → s.treq k line = none → (s.dirOf c line).map DirEnt.st ≠ some .c →
        s.loses ⟨k, line, kind, 0, none, false, false, [], []⟩ = false →
        ((s.dirOf c line ≠ none ∨ s.copy c line ≠ none) → Moves j s fun t => same t ∧
          ∃ q e, t.treq k line = some q ∧ q.kind = kind ∧ t.dirOf c line = some e) ∧
        (s.dirOf c line = none → s.copy c line = none → (∀ e, e ∈ x.miss → e.1 ≠ line) → x.miss.length < 64 → Moves j s fun t => same t ∧
          (t.tab i).miss = x.miss ++ [(line, [k])] ∧ ∃ q, t.treq k line = some q ∧ q.kind = kind ∧ q.ticket = none) ∧
        (s.dirOf c line = none → s.copy c line = none → (∀ e, e ∈ x.miss → e.1 ≠ line) → 64 ≤ x.miss.length → Moves j s fun t => same t ∧
          (t.tab i).wait = x.wait ++ [(x.next, k, line)] ∧ ∃ q, t.treq k line = some q ∧ q.ticket = some x.next))) ∧
    (∀ e, s.dirOf c line = some e → e.st = .m → e.owner ≠ k % 48 → s.caches k = true → s.treq k line = none →
      Moves (.rds k line) s fun t => ∃ q, t.treq k line = some q ∧ q.acks = [(c * 48 + e.owner, .downgrade)]) ∧
    (∀ e, s.dirOf c line = some e → e.st = .m → e.owner = k % 48 →
      ((k, line) ∈ x.circ → exec (.wb k line) s = .next s) ∧
      ((k, line) ∉ x.circ → Moves (.wb k line) s fun t => same t ∧
        (x.wb.length < 16 → t.dirOf c line = dirDrop (k % 48) e ∧ (t.tab i).wb = x.wb ++ [line] ∧ (t.tab i).circ = x.circ) ∧
        (16 ≤ x.wb.length → t.dirOf c line = some e ∧ (t.tab i).circ = x.circ ++ [(k, line)] ∧ (t.tab i).wb = x.wb))) ∧
    (∀ l r, (s.tab k).wb = l :: r → Moves (.wbDrain k) s fun t =>
      (t.tab k).wb = r ++ ((s.tab k).circ.take 1).map Prod.snd ∧ (t.tab k).circ = (s.tab k).circ.drop 1 ∧ t.slots = s.slots) ∧
    ((s.tab k).wb = [] → exec (.wbDrain k) s = .next s) ∧
    (∀ e, s.dirOf c line = some e → e.st = .e → e.owner = k % 48 → Moves (.cleanEvictionNotice k line) s fun t => same t ∧
      t.dirOf c line = none) ∧
    (∀ kind, (∃ q, q ∈ s.treqs ∧ q.awaits k line = true) → s.treq k line = none → Moves (.probe k line kind false) s fun t =>
      same t ∧ t.dirOf c line = s.dirOf c line ∧ ∀ q, q ∈ t.treqs → q.awaits k line = false) ∧
    (∀ kind e, s.dirOf c line = some e → e.st = .m → e.owner = k % 48 → s.treq k line = none →
      (∀ q, q ∈ s.treqs → q.awaits k line = false) → Moves (.probe k line kind false) s fun t => same t ∧ t.dirOf c line = (if kind = .invalidate ∨ kind = .recall then dirDrop (k % 48) e else some { e with st := .o })) ∧
    (∀ kind q, s.treq k line = some q → exec (.probe k line kind true) s = .next (s.setTreq k line (some { q with probes := q.probes ++ [kind] }))) ∧
    (∀ q, s.treq k line = some q → exec (.conflict k line) s = .next (s.setTreq k line (some { q with clash := true }))) ∧
    (∀ q (w : BitVec 16), s.treq k line = some q → Moves (.nack k line (some w)) s fun t => same t ∧
      t.treq k line = some { q with ticket := some w, called := false, clash := false }) ∧
    (∀ q, s.treq k line = some q → s.dirOf c line = none → s.copy c line = none → (∀ e, e ∈ x.miss → e.1 ≠ line) → x.miss.length < 64 →
      s.loses q = false → Moves (.nack k line none) s fun t => same t ∧ (t.tab i).miss = x.miss ++ [(line, [k])] ∧
        t.treq k line = some { q with clash := false, ticket := none, called := false }) ∧
    (∀ w l0 r, (s.tab k).wait = (w, l0, line) :: r → (s.tab k).miss.length < 64 → s.treq l0 line = none →
      exec (.ticketCall k) s = .next (s.setTab k { s.tab k with wait := r })) ∧
    (∀ e, ((s.tab k).miss.find? fun e => e.1 == line) = some e → Moves (.fillReturn k line) s fun t => same t ∧
      (t.tab k).miss = (s.tab k).miss.erase e) ∧
    (∀ q, s.treq k line = some q →
      ((q.ticket ≠ none ∨ q.clash = true ∨ q.acks ≠ []) → exec (.coherenceReply k line) s = .next s) ∧
      (q.ticket = none → q.clash = false → q.acks = [] → q.probes = [] → (∀ e, e ∈ x.miss → ¬ (e.1 = line ∧ k ∈ e.2)) →
        exec (.coherenceReply k line) s = .next ((s.setTreq k line none).fillTile k line) ∧
          (s.caches k = true → dirNames (s.dirOf c line) (k % 48) = true → line ∈ ((s.setTreq k line none).fillTile k line).cached k))) ∧
    (s.partLine line = false → s.isPt line = false → Tbl.get? s.clines line = none → (s.home line).owner ≠ some k →
      exec (.leaseRenewal k line m) s = .next (s.renew k line m).1 ∧ Moves (.leaseRenewal k line m) s fun t => t.mem = s.mem) ∧
    (s.partLine line = false → s.isPt line = false → Tbl.get? s.clines line = none → Moves (.ownershipRequest k line) s fun t =>
      same t ∧ t.home line = { s.home line with owner := some k }) ∧
    (isHbm (64 * line) = true → Moves (.mirrorUpdate line) s fun t => same t ∧
      ∀ d y, d < 16 → s.mirrorEntry d line = some y → y ∈ t.coh.mirror) ∧
    ((s.getSlot k).occ = true → s.coh.part = false →
      exec (.lclockTick k) s = .next (s.putSlot k { s.getSlot k with lclock := (s.getSlot k).lclock + 1 })) ∧
    (∀ n r, s.scq = n :: r → Moves .scTicketIssue s fun t => t.scTicket = s.scTicket + 1 ∧ t.scq = r ∧
      (t.getSlot n).reply = some (0, BitVec.ofNat 64 s.scTicket) ∧ (t.getSlot n).wait = .none) ∧
    (∀ q r, s.l2sw = q :: r → Moves .modeSwitchComplete s fun t => t.coh.part = q.part ∧ t.coh.dir = [] ∧ (s.slotOf q.land.slot q.land.recAddr ≠ none → t.coh.home = []) ∧
      t.coh.copies = [] ∧ t.l2sw = r ∧ (∀ n, (t.getSlot n).lclock = 0) ∧
      (∀ e, e ∈ s.treqs → t.treq e.tile e.line ≠ none) ∧ ∀ e, e ∈ t.treqs → e.acks = [] ∧ ∃ f, f ∈ s.treqs ∧ f.tile = e.tile ∧ f.line = e.line ∧ f.kind = e.kind)

namespace Sys2Proof.Claims
open Sys2Proof Sys2Proof.Machine

/-- What a step comes to when slot `u.cur` executes instruction `i` in state `u`: the meaning's outcome, then the end of the turn and
the time of the step. -/
def stepOf (u : State) (o : Host.Outcome State Fault Refusal) : Host.Outcome State Fault Refusal :=
  match o with
  | .next t => .next (t.endTurn u).pass
  | .fault f => .fault f
  | .refused r => .refused r

/-- Memory and the tile stores are in canonical form: rising addresses, no entry equal to what an unlisted address reads as. -/
abbrev Canonical (s : State) : Prop := Memory.wf s.mem = true ∧ Memory.wf s.ts = true

end Sys2Proof.Claims

/-- R296, R298-R304, R316-R324, R330: the encoding has lost no bit: what a well-formed instruction encodes to decodes to it, with every
operand at every value, and a word that decodes is the only one that its instruction encodes to. -/
def Obligations.DecodeEncode : Prop :=
  (∀ (i : Instr) (w : BitVec 96), i.wellFormed = true → encode i = some w → decodeWord w = .ok i) ∧
  (∀ (i : Instr) (w : BitVec 96), decodeWord w = .ok i → encode i = some w) ∧
  (∀ (i : Instr) (v : Ins), Forms.fieldsOf i = some v → (encode i).isSome = true)

/-- R306, R145, R147, R148, R190, R297: what a step does (whose turn comes when is the model's order, notes/assumptions 1). A slot whose
parked read has been served comes first, then the agenda, then the cores and the units' own moves in turn. The turn of a core runs the
instruction that its slot's word decodes to, a word that is no instruction traps there, and the turn's end and the step's time follow; in
free mode the word is that of the ready slot whose turn it is, in compact mode that of the rotation's slot of the least advanced core. A
move of another agent runs as its own form says where it acts, and without effect but the time where it does not.
Of the model, not of the rules, are the choices of notes/assumptions 1, 3, 23 and 107. -/
def Obligations.StepRunsDecoded : Prop :=
  ∀ s : State,
    let awake (t : State) (m : Nat) : State := t.modSlot m fun x => { x with wait := .none }
    -- whose move it is
    (∀ n, s.servedSlot = some n → s.choice = .turn n s) ∧
    (s.servedSlot = none →
      (∀ n r, s.agenda = .slot n :: r → s.choice = .turn n { s with agenda := r }) ∧
      (∀ i r, s.agenda = .event i :: r → s.choice = .event i { s with agenda := r }) ∧
      (s.agenda = [] → (s.time.steps % 2 = 0 ∨ s.due = []) → ∀ n, s.nextSlot = some n → s.choice = .turn n s) ∧
      (s.agenda = [] → (s.nextSlot = none ∨ s.time.steps % 2 = 1) → ∀ f, s.due[s.time.steps / 2 % s.due.length]? = some f →
        s.choice = .moved (f s))) ∧
    -- the word met is executed
    (∀ n s1, s.choice = .turn n s1 → s1.power = true → ∀ (w : BitVec 96) (u : State), s1.turn n = .word w u → u.power = true →
      (∀ i, decodeWord w = .ok i → step s = stepOf u (exec i u)) ∧
      (∀ e, decodeWord w = .error e → step s = .next (((u.takeTrap (rejectTrap e) 0).endTurn u).pass))) ∧
    -- the moves
    (∀ i s1, s.choice = .event i s1 →
      (s.acts i = true → (∀ t, exec i s1 = .next t → step s = .next t.pass) ∧ (∀ f, exec i s1 = .fault f → step s = .fault f)) ∧
      (s.acts i = false → step s = .next s1.pass)) ∧
    (∀ t, s.choice = .moved t → (t.power = true → step s = .next t.pass) ∧ (t.power = false → step s = .fault .noPower)) ∧
    -- the word met in free mode
    (∀ n, s.stopped = false → s.compactOf n = none → ∀ m, s.chosen (coreOf n) = some m → (s.takeTurn m).trapDue m = false →
      ∀ w u, (awake (s.takeTurn m) m).fetch m = .word w u → s.turn n = .word w u) ∧
    (∀ k m, s.chosen k = some m → m ∈ slotsOf k ∧ s.slotReady m = true) ∧
    (∀ k m, m ∈ slotsOf k → s.slotReady m = true → (∀ j, j ∈ slotsOf k → j ≠ m → s.slotReady j = false) → s.chosen k = some m) ∧
    -- the word met in compact mode
    (∀ n cid c, s.stopped = false → s.compactOf n = some (cid, c) →
      let t := s.catchUp c
      ∀ k, t.nextCore c = some k → t.emptyTurn (t.turnSlot k) = false → ({ t with cur := t.turnSlot k } : State).trapDue (t.turnSlot k) = false →
        ∀ w u, (awake { t with cur := t.turnSlot k } (t.turnSlot k)).fetch (t.turnSlot k) = .word w u → s.turn n = .word w u) ∧
    -- the word of a slot in free mode: 12 bytes of memory at its pc, in one line or in two
    (∀ m pa unc mir, s.compactAt m = false →
      let pc := (s.getSlot m).pc.toNat
      pc % 12 = 0 → pc % 64 ≤ 52 → pa % 64 = pc % 64 → ((s.getSlot m).park.map Park.deny).getD false = false →
      s.xlate m pc .fetch = .here pa unc mir → Tbl.get? s.icache (tileOf m * 2 ^ 46 + lineOf pa) = none →
      (s.getSlot m).servedLine (lineOf pa) = none → Tbl.get? s.clines (lineOf pa) = none → s.meetsPoison (clusterOf m) (lineOf pa) = false →
        s.partLine (lineOf pa) = false → ∃ t : State, s.fetch m = .word (BitVec.ofNat 96 (Mem.read s.mem pa 12)) t ∧
          t = { s.passed m pc .fetch s with icache := t.icache } ∧ (unc = true → t.icache = s.icache)) ∧
    (∀ m v t v2 u, s.compactAt m = false →
      let pc := (s.getSlot m).pc.toNat
      let k := 64 - pc % 64
      pc % 12 = 0 → k < 12 → s.fetchLine m pc = .line v t → t.fetchLine m (pc + k) = .line v2 u →
        s.fetch m = .word (BitVec.ofNat 96 (sliceBytes v (pc % 64) k + 2 ^ (8 * k) * sliceBytes v2 0 (12 - k))) u)

/-- R4, R195, R197: an invariant of the model's data, kept by every step from every state that has it, whatever the step does: the
canonical form of memory and of the tile stores, so that equal contents are equal data.
Of the model, not of the rules, are the choices of notes/assumptions 7. -/
def Obligations.StepKeepsCanonicalMemory : Prop :=
  ∀ s t : State, Canonical s → step s = .next t → Canonical t

/-- R26, R28, R200, R122, R154, R162, R165, R197, R249, R258, R286, R301, R437, R76, R88, R59, R367, R405: what cold reset leaves: no
function ready or failed, no strand in a slot, unified mode, every memory and table empty in canonical form, and the registers at the
values that the rules give.
Of the model, not of the rules, are the choices of notes/assumptions 7. -/
def Obligations.ResetState : Prop :=
  let s := State.reset
  Canonical s ∧ s.rdy = 0 ∧ s.fail = 0 ∧ s.rdygen = 0 ∧ s.coh.part = false ∧ s.compacts = [] ∧ s.windows = [] ∧
    (∀ n, let x := s.getSlot n
      x.occ = false ∧ x.status = 0 ∧ x.cause = 0 ∧ x.epc = 0 ∧ x.tvec = 0 ∧ x.fflags = 0 ∧ x.pfb = 20 ∧ x.loops = [] ∧
        (∀ i, i < 2 → (x.getT i).tag = none ∧ (x.getT i).prog = 0) ∧ ∀ i, i < 16 → x.stream i = none) ∧
    (∀ t, (s.tile t).vweight = 0x8888 ∧ (s.tile t).scr = 0 ∧ (∀ i, s.semVal t i = 0) ∧ (s.tile t).held = none) ∧
    (∀ k, (s.core k).lnk = 0 ∧ (s.core k).le = [] ∧ (s.core k).lw = [] ∧ (s.core k).halted = false) ∧
    (∀ d, (s.die d).sdctl = 0x44 ∧ (s.die d).sdtage = 50000 ∧ (s.die d).sdquant = 2000000) ∧ (∀ c, (s.cluster c).sdpool = 0) ∧
    (∀ c, s.cache c = []) ∧ (∀ k, s.barrier k = ⟨0, 0, 0⟩) ∧ (∀ p, s.lp p = Port.reset) ∧ Port.reset = ⟨0, 0, 0, 0, 0, 0, 0, 0, [], []⟩ ∧
    s.evq.en = false ∧ (s.group 0).pers = 0 ∧ (s.group 0).role = false ∧ (∀ g, (s.group g).swgen = 0)

/-- R330, R345, R383, R421, R442: words that the specification prints, byte by byte, decode to the instructions it says they are. -/
def Obligations.PrintedWordsDecode : Prop :=
  let word (l : List Nat) : Except Reject Instr := decodeWord (wordOfBytes (l.map fun b => BitVec.ofNat 8 b))
  let reg (c : BitVec 4) (m : BitVec 10) (n : BitVec 8) : Operand := .reg c m n
  let ins (d a b : Operand) : Ins :=
    { d := d, a := a, b := b, gn := false, gp := 0, st := 0, yd := false, ra := false, rb := false, eop := false }
  -- (!p3) ADD s6, s5, #1 :st=2 :eop
  word [0x01, 0x00, 0x40, 0x05, 0x00, 0x00, 0x06, 0x00, 0x00, 0x42, 0x66, 0x10] =
    .ok (.addImm { ins (reg 0 0 6) (reg 0 0 5) (.imm 1) with gn := true, gp := 3, st := 2, eop := true }) ∧
  -- (p2) BR, four words back
  word [0x00, 0x00, 0x00, 0xFC, 0xFF, 0x7F, 0x00, 0x00, 0x00, 0x00, 0x44, 0x30] =
    .ok (.br { ins (reg 0 0 0) (.imm 0x3FFFFC) (reg 0 0 0) with gp := 2 }) ∧
  -- VADD.f32 v1, v2, v3, m1
  word [0x03, 0x00, 0x08, 0x02, 0x01, 0x08, 0x01, 0x00, 0x08, 0x00, 0x40, 0x80] =
    .ok (.vadd (ins (reg 2 0 1) (reg 2 1 2) (reg 2 0 3))) ∧
  -- COPY.dev.rel s10, s11, s12
  word [0x0C, 0x00, 0x00, 0x0B, 0x00, 0x00, 0x0A, 0x68, 0x00, 0x00, 0x40, 0xC0] =
    .ok (.copy (ins (reg 0 0x068 10) (reg 0 0 11) (reg 0 0 12))) ∧
  -- TRAP #5
  word [0x00, 0x00, 0x00, 0x05, 0x00, 0x40, 0x00, 0x00, 0x00, 0x00, 0x40, 0xE0] =
    .ok (.trap (ins (reg 0 0 0) (.imm 5) (reg 0 0 0))) ∧
  -- the first word with byte 11 0xF0, with byte 9 0x43, and the zero word
  word [0x01, 0x00, 0x40, 0x05, 0x00, 0x00, 0x06, 0x00, 0x00, 0x42, 0x66, 0xF0] = .error .illegalOp ∧
  word [0x01, 0x00, 0x40, 0x05, 0x00, 0x00, 0x06, 0x00, 0x00, 0x43, 0x66, 0x10] = .error .reserved ∧
  word [0, 0, 0, 0, 0, 0, 0, 0, 0, 0, 0, 0] = .error .zeroWord
end

