-- ==== Sys2Proof/Laws/State.lean ====
section
/-! SUPPORT. What each update of the state leaves alone, field by field. -/

namespace Sys2Proof.Machine
open Sys2Proof

@[simp] theorem putSlot_cores (s : State) (n : Nat) (x : Slot) : (s.putSlot n x).cores = s.cores := rfl
@[simp] theorem putSlot_tiles (s : State) (n : Nat) (x : Slot) : (s.putSlot n x).tiles = s.tiles := rfl
@[simp] theorem putSlot_clusters (s : State) (n : Nat) (x : Slot) : (s.putSlot n x).clusters = s.clusters := rfl
@[simp] theorem putSlot_dies (s : State) (n : Nat) (x : Slot) : (s.putSlot n x).dies = s.dies := rfl
@[simp] theorem putSlot_cur (s : State) (n : Nat) (x : Slot) : (s.putSlot n x).cur = s.cur := rfl
@[simp] theorem putSlot_agenda (s : State) (n : Nat) (x : Slot) : (s.putSlot n x).agenda = s.agenda := rfl
@[simp] theorem putSlot_mem (s : State) (n : Nat) (x : Slot) : (s.putSlot n x).mem = s.mem := rfl
@[simp] theorem putSlot_ts (s : State) (n : Nat) (x : Slot) : (s.putSlot n x).ts = s.ts := rfl
@[simp] theorem putSlot_icache (s : State) (n : Nat) (x : Slot) : (s.putSlot n x).icache = s.icache := rfl
@[simp] theorem putSlot_boot (s : State) (n : Nat) (x : Slot) : (s.putSlot n x).boot = s.boot := rfl
@[simp] theorem putSlot_signs (s : State) (n : Nat) (x : Slot) : (s.putSlot n x).signs = s.signs := rfl
@[simp] theorem putSlot_coh (s : State) (n : Nat) (x : Slot) : (s.putSlot n x).coh = s.coh := rfl
@[simp] theorem putSlot_xl (s : State) (n : Nat) (x : Slot) : (s.putSlot n x).xl = s.xl := rfl
@[simp] theorem putSlot_sent (s : State) (n : Nat) (x : Slot) : (s.putSlot n x).sent = s.sent := rfl
@[simp] theorem putSlot_landings (s : State) (n : Nat) (x : Slot) : (s.putSlot n x).landings = s.landings := rfl
@[simp] theorem putSlot_barriers (s : State) (n : Nat) (x : Slot) : (s.putSlot n x).barriers = s.barriers := rfl
@[simp] theorem putSlot_desig (s : State) (n : Nat) (x : Slot) : (s.putSlot n x).desig = s.desig := rfl
@[simp] theorem putSlot_touched (s : State) (n : Nat) (x : Slot) : (s.putSlot n x).touched = s.touched := rfl
@[simp] theorem putSlot_rounds (s : State) (n : Nat) (x : Slot) : (s.putSlot n x).rounds = s.rounds := rfl
@[simp] theorem putSlot_fab (s : State) (n : Nat) (x : Slot) : (s.putSlot n x).fab = s.fab := rfl
@[simp] theorem putSlot_ports (s : State) (n : Nat) (x : Slot) : (s.putSlot n x).ports = s.ports := rfl
@[simp] theorem putSlot_uepkg (s : State) (n : Nat) (x : Slot) : (s.putSlot n x).uepkg = s.uepkg := rfl
@[simp] theorem putSlot_windows (s : State) (n : Nat) (x : Slot) : (s.putSlot n x).windows = s.windows := rfl
@[simp] theorem putSlot_hostUp (s : State) (n : Nat) (x : Slot) : (s.putSlot n x).hostUp = s.hostUp := rfl
@[simp] theorem putSlot_compacts (s : State) (n : Nat) (x : Slot) : (s.putSlot n x).compacts = s.compacts := rfl
@[simp] theorem putSlot_clines (s : State) (n : Nat) (x : Slot) : (s.putSlot n x).clines = s.clines := rfl
@[simp] theorem putSlot_tsPoison (s : State) (n : Nat) (x : Slot) : (s.putSlot n x).tsPoison = s.tsPoison := rfl
@[simp] theorem putSlot_rdy (s : State) (n : Nat) (x : Slot) : (s.putSlot n x).rdy = s.rdy := rfl
@[simp] theorem putSlot_fail (s : State) (n : Nat) (x : Slot) : (s.putSlot n x).fail = s.fail := rfl
@[simp] theorem putSlot_rdygen (s : State) (n : Nat) (x : Slot) : (s.putSlot n x).rdygen = s.rdygen := rfl
@[simp] theorem putSlot_therm (s : State) (n : Nat) (x : Slot) : (s.putSlot n x).therm = s.therm := rfl
@[simp] theorem putSlot_optic (s : State) (n : Nat) (x : Slot) : (s.putSlot n x).optic = s.optic := rfl
@[simp] theorem putSlot_groups (s : State) (n : Nat) (x : Slot) : (s.putSlot n x).groups = s.groups := rfl
@[simp] theorem putSlot_evq (s : State) (n : Nat) (x : Slot) : (s.putSlot n x).evq = s.evq := rfl
@[simp] theorem putSlot_nmc (s : State) (n : Nat) (x : Slot) : (s.putSlot n x).nmc = s.nmc := rfl
@[simp] theorem putSlot_treqs (s : State) (n : Nat) (x : Slot) : (s.putSlot n x).treqs = s.treqs := rfl
@[simp] theorem putSlot_tabs (s : State) (n : Nat) (x : Slot) : (s.putSlot n x).tabs = s.tabs := rfl
@[simp] theorem putSlot_msaq (s : State) (n : Nat) (x : Slot) : (s.putSlot n x).msaq = s.msaq := rfl
@[simp] theorem putSlot_scq (s : State) (n : Nat) (x : Slot) : (s.putSlot n x).scq = s.scq := rfl
@[simp] theorem putSlot_scTicket (s : State) (n : Nat) (x : Slot) : (s.putSlot n x).scTicket = s.scTicket := rfl
@[simp] theorem putSlot_tlbRegs (s : State) (n : Nat) (x : Slot) : (s.putSlot n x).tlbRegs = s.tlbRegs := rfl
@[simp] theorem putSlot_gstops (s : State) (n : Nat) (x : Slot) : (s.putSlot n x).gstops = s.gstops := rfl
@[simp] theorem putSlot_l2sw (s : State) (n : Nat) (x : Slot) : (s.putSlot n x).l2sw = s.l2sw := rfl
@[simp] theorem putSlot_ring (s : State) (n : Nat) (x : Slot) : (s.putSlot n x).ring = s.ring := rfl
@[simp] theorem putSlot_host (s : State) (n : Nat) (x : Slot) : (s.putSlot n x).host = s.host := rfl
@[simp] theorem putSlot_quiet (s : State) (n : Nat) (x : Slot) : (s.putSlot n x).quiet = s.quiet := rfl
@[simp] theorem putSlot_hung (s : State) (n : Nat) (x : Slot) : (s.putSlot n x).hung = s.hung := rfl
@[simp] theorem putSlot_hangs (s : State) (n : Nat) (x : Slot) : (s.putSlot n x).hangs = s.hangs := rfl
@[simp] theorem putSlot_time (s : State) (n : Nat) (x : Slot) : (s.putSlot n x).time = s.time := rfl
@[simp] theorem putSlot_power (s : State) (n : Nat) (x : Slot) : (s.putSlot n x).power = s.power := rfl

@[simp] theorem setCore_slots (s : State) (n : Nat) (x : Core) : (s.setCore n x).slots = s.slots := rfl
@[simp] theorem setCore_tiles (s : State) (n : Nat) (x : Core) : (s.setCore n x).tiles = s.tiles := rfl
@[simp] theorem setCore_clusters (s : State) (n : Nat) (x : Core) : (s.setCore n x).clusters = s.clusters := rfl
@[simp] theorem setCore_dies (s : State) (n : Nat) (x : Core) : (s.setCore n x).dies = s.dies := rfl
@[simp] theorem setCore_cur (s : State) (n : Nat) (x : Core) : (s.setCore n x).cur = s.cur := rfl
@[simp] theorem setCore_agenda (s : State) (n : Nat) (x : Core) : (s.setCore n x).agenda = s.agenda := rfl
@[simp] theorem setCore_mem (s : State) (n : Nat) (x : Core) : (s.setCore n x).mem = s.mem := rfl
@[simp] theorem setCore_ts (s : State) (n : Nat) (x : Core) : (s.setCore n x).ts = s.ts := rfl
@[simp] theorem setCore_icache (s : State) (n : Nat) (x : Core) : (s.setCore n x).icache = s.icache := rfl
@[simp] theorem setCore_boot (s : State) (n : Nat) (x : Core) : (s.setCore n x).boot = s.boot := rfl
@[simp] theorem setCore_signs (s : State) (n : Nat) (x : Core) : (s.setCore n x).signs = s.signs := rfl
@[simp] theorem setCore_coh (s : State) (n : Nat) (x : Core) : (s.setCore n x).coh = s.coh := rfl
@[simp] theorem setCore_xl (s : State) (n : Nat) (x : Core) : (s.setCore n x).xl = s.xl := rfl
@[simp] theorem setCore_sent (s : State) (n : Nat) (x : Core) : (s.setCore n x).sent = s.sent := rfl
@[simp] theorem setCore_landings (s : State) (n : Nat) (x : Core) : (s.setCore n x).landings = s.landings := rfl
@[simp] theorem setCore_barriers (s : State) (n : Nat) (x : Core) : (s.setCore n x).barriers = s.barriers := rfl
@[simp] theorem setCore_desig (s : State) (n : Nat) (x : Core) : (s.setCore n x).desig = s.desig := rfl
@[simp] theorem setCore_touched (s : State) (n : Nat) (x : Core) : (s.setCore n x).touched = s.touched := rfl
@[simp] theorem setCore_rounds (s : State) (n : Nat) (x : Core) : (s.setCore n x).rounds = s.rounds := rfl
@[simp] theorem setCore_fab (s : State) (n : Nat) (x : Core) : (s.setCore n x).fab = s.fab := rfl
@[simp] theorem setCore_ports (s : State) (n : Nat) (x : Core) : (s.setCore n x).ports = s.ports := rfl
@[simp] theorem setCore_uepkg (s : State) (n : Nat) (x : Core) : (s.setCore n x).uepkg = s.uepkg := rfl
@[simp] theorem setCore_windows (s : State) (n : Nat) (x : Core) : (s.setCore n x).windows = s.windows := rfl
@[simp] theorem setCore_hostUp (s : State) (n : Nat) (x : Core) : (s.setCore n x).hostUp = s.hostUp := rfl
@[simp] theorem setCore_compacts (s : State) (n : Nat) (x : Core) : (s.setCore n x).compacts = s.compacts := rfl
@[simp] theorem setCore_clines (s : State) (n : Nat) (x : Core) : (s.setCore n x).clines = s.clines := rfl
@[simp] theorem setCore_tsPoison (s : State) (n : Nat) (x : Core) : (s.setCore n x).tsPoison = s.tsPoison := rfl
@[simp] theorem setCore_rdy (s : State) (n : Nat) (x : Core) : (s.setCore n x).rdy = s.rdy := rfl
@[simp] theorem setCore_fail (s : State) (n : Nat) (x : Core) : (s.setCore n x).fail = s.fail := rfl
@[simp] theorem setCore_rdygen (s : State) (n : Nat) (x : Core) : (s.setCore n x).rdygen = s.rdygen := rfl
@[simp] theorem setCore_therm (s : State) (n : Nat) (x : Core) : (s.setCore n x).therm = s.therm := rfl
@[simp] theorem setCore_optic (s : State) (n : Nat) (x : Core) : (s.setCore n x).optic = s.optic := rfl
@[simp] theorem setCore_groups (s : State) (n : Nat) (x : Core) : (s.setCore n x).groups = s.groups := rfl
@[simp] theorem setCore_evq (s : State) (n : Nat) (x : Core) : (s.setCore n x).evq = s.evq := rfl
@[simp] theorem setCore_nmc (s : State) (n : Nat) (x : Core) : (s.setCore n x).nmc = s.nmc := rfl
@[simp] theorem setCore_treqs (s : State) (n : Nat) (x : Core) : (s.setCore n x).treqs = s.treqs := rfl
@[simp] theorem setCore_tabs (s : State) (n : Nat) (x : Core) : (s.setCore n x).tabs = s.tabs := rfl
@[simp] theorem setCore_msaq (s : State) (n : Nat) (x : Core) : (s.setCore n x).msaq = s.msaq := rfl
@[simp] theorem setCore_scq (s : State) (n : Nat) (x : Core) : (s.setCore n x).scq = s.scq := rfl
@[simp] theorem setCore_scTicket (s : State) (n : Nat) (x : Core) : (s.setCore n x).scTicket = s.scTicket := rfl
@[simp] theorem setCore_tlbRegs (s : State) (n : Nat) (x : Core) : (s.setCore n x).tlbRegs = s.tlbRegs := rfl
@[simp] theorem setCore_gstops (s : State) (n : Nat) (x : Core) : (s.setCore n x).gstops = s.gstops := rfl
@[simp] theorem setCore_l2sw (s : State) (n : Nat) (x : Core) : (s.setCore n x).l2sw = s.l2sw := rfl
@[simp] theorem setCore_ring (s : State) (n : Nat) (x : Core) : (s.setCore n x).ring = s.ring := rfl
@[simp] theorem setCore_host (s : State) (n : Nat) (x : Core) : (s.setCore n x).host = s.host := rfl
@[simp] theorem setCore_quiet (s : State) (n : Nat) (x : Core) : (s.setCore n x).quiet = s.quiet := rfl
@[simp] theorem setCore_hung (s : State) (n : Nat) (x : Core) : (s.setCore n x).hung = s.hung := rfl
@[simp] theorem setCore_hangs (s : State) (n : Nat) (x : Core) : (s.setCore n x).hangs = s.hangs := rfl
@[simp] theorem setCore_time (s : State) (n : Nat) (x : Core) : (s.setCore n x).time = s.time := rfl
@[simp] theorem setCore_power (s : State) (n : Nat) (x : Core) : (s.setCore n x).power = s.power := rfl

@[simp] theorem setTile_slots (s : State) (n : Nat) (x : Tile) : (s.setTile n x).slots = s.slots := rfl
@[simp] theorem setTile_cores (s : State) (n : Nat) (x : Tile) : (s.setTile n x).cores = s.cores := rfl
@[simp] theorem setTile_clusters (s : State) (n : Nat) (x : Tile) : (s.setTile n x).clusters = s.clusters := rfl
@[simp] theorem setTile_dies (s : State) (n : Nat) (x : Tile) : (s.setTile n x).dies = s.dies := rfl
@[simp] theorem setTile_cur (s : State) (n : Nat) (x : Tile) : (s.setTile n x).cur = s.cur := rfl
@[simp] theorem setTile_agenda (s : State) (n : Nat) (x : Tile) : (s.setTile n x).agenda = s.agenda := rfl
@[simp] theorem setTile_mem (s : State) (n : Nat) (x : Tile) : (s.setTile n x).mem = s.mem := rfl
@[simp] theorem setTile_ts (s : State) (n : Nat) (x : Tile) : (s.setTile n x).ts = s.ts := rfl
@[simp] theorem setTile_icache (s : State) (n : Nat) (x : Tile) : (s.setTile n x).icache = s.icache := rfl
@[simp] theorem setTile_boot (s : State) (n : Nat) (x : Tile) : (s.setTile n x).boot = s.boot := rfl
@[simp] theorem setTile_signs (s : State) (n : Nat) (x : Tile) : (s.setTile n x).signs = s.signs := rfl
@[simp] theorem setTile_coh (s : State) (n : Nat) (x : Tile) : (s.setTile n x).coh = s.coh := rfl
@[simp] theorem setTile_xl (s : State) (n : Nat) (x : Tile) : (s.setTile n x).xl = s.xl := rfl
@[simp] theorem setTile_sent (s : State) (n : Nat) (x : Tile) : (s.setTile n x).sent = s.sent := rfl
@[simp] theorem setTile_landings (s : State) (n : Nat) (x : Tile) : (s.setTile n x).landings = s.landings := rfl
@[simp] theorem setTile_barriers (s : State) (n : Nat) (x : Tile) : (s.setTile n x).barriers = s.barriers := rfl
@[simp] theorem setTile_desig (s : State) (n : Nat) (x : Tile) : (s.setTile n x).desig = s.desig := rfl
@[simp] theorem setTile_touched (s : State) (n : Nat) (x : Tile) : (s.setTile n x).touched = s.touched := rfl
@[simp] theorem setTile_rounds (s : State) (n : Nat) (x : Tile) : (s.setTile n x).rounds = s.rounds := rfl
@[simp] theorem setTile_fab (s : State) (n : Nat) (x : Tile) : (s.setTile n x).fab = s.fab := rfl
@[simp] theorem setTile_ports (s : State) (n : Nat) (x : Tile) : (s.setTile n x).ports = s.ports := rfl
@[simp] theorem setTile_uepkg (s : State) (n : Nat) (x : Tile) : (s.setTile n x).uepkg = s.uepkg := rfl
@[simp] theorem setTile_windows (s : State) (n : Nat) (x : Tile) : (s.setTile n x).windows = s.windows := rfl
@[simp] theorem setTile_hostUp (s : State) (n : Nat) (x : Tile) : (s.setTile n x).hostUp = s.hostUp := rfl
@[simp] theorem setTile_compacts (s : State) (n : Nat) (x : Tile) : (s.setTile n x).compacts = s.compacts := rfl
@[simp] theorem setTile_clines (s : State) (n : Nat) (x : Tile) : (s.setTile n x).clines = s.clines := rfl
@[simp] theorem setTile_tsPoison (s : State) (n : Nat) (x : Tile) : (s.setTile n x).tsPoison = s.tsPoison := rfl
@[simp] theorem setTile_rdy (s : State) (n : Nat) (x : Tile) : (s.setTile n x).rdy = s.rdy := rfl
@[simp] theorem setTile_fail (s : State) (n : Nat) (x : Tile) : (s.setTile n x).fail = s.fail := rfl
@[simp] theorem setTile_rdygen (s : State) (n : Nat) (x : Tile) : (s.setTile n x).rdygen = s.rdygen := rfl
@[simp] theorem setTile_therm (s : State) (n : Nat) (x : Tile) : (s.setTile n x).therm = s.therm := rfl
@[simp] theorem setTile_optic (s : State) (n : Nat) (x : Tile) : (s.setTile n x).optic = s.optic := rfl
@[simp] theorem setTile_groups (s : State) (n : Nat) (x : Tile) : (s.setTile n x).groups = s.groups := rfl
@[simp] theorem setTile_evq (s : State) (n : Nat) (x : Tile) : (s.setTile n x).evq = s.evq := rfl
@[simp] theorem setTile_nmc (s : State) (n : Nat) (x : Tile) : (s.setTile n x).nmc = s.nmc := rfl
@[simp] theorem setTile_treqs (s : State) (n : Nat) (x : Tile) : (s.setTile n x).treqs = s.treqs := rfl
@[simp] theorem setTile_tabs (s : State) (n : Nat) (x : Tile) : (s.setTile n x).tabs = s.tabs := rfl
@[simp] theorem setTile_msaq (s : State) (n : Nat) (x : Tile) : (s.setTile n x).msaq = s.msaq := rfl
@[simp] theorem setTile_scq (s : State) (n : Nat) (x : Tile) : (s.setTile n x).scq = s.scq := rfl
@[simp] theorem setTile_scTicket (s : State) (n : Nat) (x : Tile) : (s.setTile n x).scTicket = s.scTicket := rfl
@[simp] theorem setTile_tlbRegs (s : State) (n : Nat) (x : Tile) : (s.setTile n x).tlbRegs = s.tlbRegs := rfl
@[simp] theorem setTile_gstops (s : State) (n : Nat) (x : Tile) : (s.setTile n x).gstops = s.gstops := rfl
@[simp] theorem setTile_l2sw (s : State) (n : Nat) (x : Tile) : (s.setTile n x).l2sw = s.l2sw := rfl
@[simp] theorem setTile_ring (s : State) (n : Nat) (x : Tile) : (s.setTile n x).ring = s.ring := rfl
@[simp] theorem setTile_host (s : State) (n : Nat) (x : Tile) : (s.setTile n x).host = s.host := rfl
@[simp] theorem setTile_quiet (s : State) (n : Nat) (x : Tile) : (s.setTile n x).quiet = s.quiet := rfl
@[simp] theorem setTile_hung (s : State) (n : Nat) (x : Tile) : (s.setTile n x).hung = s.hung := rfl
@[simp] theorem setTile_hangs (s : State) (n : Nat) (x : Tile) : (s.setTile n x).hangs = s.hangs := rfl
@[simp] theorem setTile_time (s : State) (n : Nat) (x : Tile) : (s.setTile n x).time = s.time := rfl
@[simp] theorem setTile_power (s : State) (n : Nat) (x : Tile) : (s.setTile n x).power = s.power := rfl

@[simp] theorem setCluster_slots (s : State) (n : Nat) (x : Cluster) : (s.setCluster n x).slots = s.slots := rfl
@[simp] theorem setCluster_cores (s : State) (n : Nat) (x : Cluster) : (s.setCluster n x).cores = s.cores := rfl
@[simp] theorem setCluster_tiles (s : State) (n : Nat) (x : Cluster) : (s.setCluster n x).tiles = s.tiles := rfl
@[simp] theorem setCluster_dies (s : State) (n : Nat) (x : Cluster) : (s.setCluster n x).dies = s.dies := rfl
@[simp] theorem setCluster_cur (s : State) (n : Nat) (x : Cluster) : (s.setCluster n x).cur = s.cur := rfl
@[simp] theorem setCluster_agenda (s : State) (n : Nat) (x : Cluster) : (s.setCluster n x).agenda = s.agenda := rfl
@[simp] theorem setCluster_mem (s : State) (n : Nat) (x : Cluster) : (s.setCluster n x).mem = s.mem := rfl
@[simp] theorem setCluster_ts (s : State) (n : Nat) (x : Cluster) : (s.setCluster n x).ts = s.ts := rfl
@[simp] theorem setCluster_icache (s : State) (n : Nat) (x : Cluster) : (s.setCluster n x).icache = s.icache := rfl
@[simp] theorem setCluster_boot (s : State) (n : Nat) (x : Cluster) : (s.setCluster n x).boot = s.boot := rfl
@[simp] theorem setCluster_signs (s : State) (n : Nat) (x : Cluster) : (s.setCluster n x).signs = s.signs := rfl
@[simp] theorem setCluster_coh (s : State) (n : Nat) (x : Cluster) : (s.setCluster n x).coh = s.coh := rfl
@[simp] theorem setCluster_xl (s : State) (n : Nat) (x : Cluster) : (s.setCluster n x).xl = s.xl := rfl
@[simp] theorem setCluster_sent (s : State) (n : Nat) (x : Cluster) : (s.setCluster n x).sent = s.sent := rfl
@[simp] theorem setCluster_landings (s : State) (n : Nat) (x : Cluster) : (s.setCluster n x).landings = s.landings := rfl
@[simp] theorem setCluster_barriers (s : State) (n : Nat) (x : Cluster) : (s.setCluster n x).barriers = s.barriers := rfl
@[simp] theorem setCluster_desig (s : State) (n : Nat) (x : Cluster) : (s.setCluster n x).desig = s.desig := rfl
@[simp] theorem setCluster_touched (s : State) (n : Nat) (x : Cluster) : (s.setCluster n x).touched = s.touched := rfl
@[simp] theorem setCluster_rounds (s : State) (n : Nat) (x : Cluster) : (s.setCluster n x).rounds = s.rounds := rfl
@[simp] theorem setCluster_fab (s : State) (n : Nat) (x : Cluster) : (s.setCluster n x).fab = s.fab := rfl
@[simp] theorem setCluster_ports (s : State) (n : Nat) (x : Cluster) : (s.setCluster n x).ports = s.ports := rfl
@[simp] theorem setCluster_uepkg (s : State) (n : Nat) (x : Cluster) : (s.setCluster n x).uepkg = s.uepkg := rfl
@[simp] theorem setCluster_windows (s : State) (n : Nat) (x : Cluster) : (s.setCluster n x).windows = s.windows := rfl
@[simp] theorem setCluster_hostUp (s : State) (n : Nat) (x : Cluster) : (s.setCluster n x).hostUp = s.hostUp := rfl
@[simp] theorem setCluster_compacts (s : State) (n : Nat) (x : Cluster) : (s.setCluster n x).compacts = s.compacts := rfl
@[simp] theorem setCluster_clines (s : State) (n : Nat) (x : Cluster) : (s.setCluster n x).clines = s.clines := rfl
@[simp] theorem setCluster_tsPoison (s : State) (n : Nat) (x : Cluster) : (s.setCluster n x).tsPoison = s.tsPoison := rfl
@[simp] theorem setCluster_rdy (s : State) (n : Nat) (x : Cluster) : (s.setCluster n x).rdy = s.rdy := rfl
@[simp] theorem setCluster_fail (s : State) (n : Nat) (x : Cluster) : (s.setCluster n x).fail = s.fail := rfl
@[simp] theorem setCluster_rdygen (s : State) (n : Nat) (x : Cluster) : (s.setCluster n x).rdygen = s.rdygen := rfl
@[simp] theorem setCluster_therm (s : State) (n : Nat) (x : Cluster) : (s.setCluster n x).therm = s.therm := rfl
@[simp] theorem setCluster_optic (s : State) (n : Nat) (x : Cluster) : (s.setCluster n x).optic = s.optic := rfl
@[simp] theorem setCluster_groups (s : State) (n : Nat) (x : Cluster) : (s.setCluster n x).groups = s.groups := rfl
@[simp] theorem setCluster_evq (s : State) (n : Nat) (x : Cluster) : (s.setCluster n x).evq = s.evq := rfl
@[simp] theorem setCluster_nmc (s : State) (n : Nat) (x : Cluster) : (s.setCluster n x).nmc = s.nmc := rfl
@[simp] theorem setCluster_treqs (s : State) (n : Nat) (x : Cluster) : (s.setCluster n x).treqs = s.treqs := rfl
@[simp] theorem setCluster_tabs (s : State) (n : Nat) (x : Cluster) : (s.setCluster n x).tabs = s.tabs := rfl
@[simp] theorem setCluster_msaq (s : State) (n : Nat) (x : Cluster) : (s.setCluster n x).msaq = s.msaq := rfl
@[simp] theorem setCluster_scq (s : State) (n : Nat) (x : Cluster) : (s.setCluster n x).scq = s.scq := rfl
@[simp] theorem setCluster_scTicket (s : State) (n : Nat) (x : Cluster) : (s.setCluster n x).scTicket = s.scTicket := rfl
@[simp] theorem setCluster_tlbRegs (s : State) (n : Nat) (x : Cluster) : (s.setCluster n x).tlbRegs = s.tlbRegs := rfl
@[simp] theorem setCluster_gstops (s : State) (n : Nat) (x : Cluster) : (s.setCluster n x).gstops = s.gstops := rfl
@[simp] theorem setCluster_l2sw (s : State) (n : Nat) (x : Cluster) : (s.setCluster n x).l2sw = s.l2sw := rfl
@[simp] theorem setCluster_ring (s : State) (n : Nat) (x : Cluster) : (s.setCluster n x).ring = s.ring := rfl
@[simp] theorem setCluster_host (s : State) (n : Nat) (x : Cluster) : (s.setCluster n x).host = s.host := rfl
@[simp] theorem setCluster_quiet (s : State) (n : Nat) (x : Cluster) : (s.setCluster n x).quiet = s.quiet := rfl
@[simp] theorem setCluster_hung (s : State) (n : Nat) (x : Cluster) : (s.setCluster n x).hung = s.hung := rfl
@[simp] theorem setCluster_hangs (s : State) (n : Nat) (x : Cluster) : (s.setCluster n x).hangs = s.hangs := rfl
@[simp] theorem setCluster_time (s : State) (n : Nat) (x : Cluster) : (s.setCluster n x).time = s.time := rfl
@[simp] theorem setCluster_power (s : State) (n : Nat) (x : Cluster) : (s.setCluster n x).power = s.power := rfl

@[simp] theorem setDie_slots (s : State) (n : Nat) (x : Die) : (s.setDie n x).slots = s.slots := rfl
@[simp] theorem setDie_cores (s : State) (n : Nat) (x : Die) : (s.setDie n x).cores = s.cores := rfl
@[simp] theorem setDie_tiles (s : State) (n : Nat) (x : Die) : (s.setDie n x).tiles = s.tiles := rfl
@[simp] theorem setDie_clusters (s : State) (n : Nat) (x : Die) : (s.setDie n x).clusters = s.clusters := rfl
@[simp] theorem setDie_cur (s : State) (n : Nat) (x : Die) : (s.setDie n x).cur = s.cur := rfl
@[simp] theorem setDie_agenda (s : State) (n : Nat) (x : Die) : (s.setDie n x).agenda = s.agenda := rfl
@[simp] theorem setDie_mem (s : State) (n : Nat) (x : Die) : (s.setDie n x).mem = s.mem := rfl
@[simp] theorem setDie_ts (s : State) (n : Nat) (x : Die) : (s.setDie n x).ts = s.ts := rfl
@[simp] theorem setDie_icache (s : State) (n : Nat) (x : Die) : (s.setDie n x).icache = s.icache := rfl
@[simp] theorem setDie_boot (s : State) (n : Nat) (x : Die) : (s.setDie n x).boot = s.boot := rfl
@[simp] theorem setDie_signs (s : State) (n : Nat) (x : Die) : (s.setDie n x).signs = s.signs := rfl
@[simp] theorem setDie_coh (s : State) (n : Nat) (x : Die) : (s.setDie n x).coh = s.coh := rfl
@[simp] theorem setDie_xl (s : State) (n : Nat) (x : Die) : (s.setDie n x).xl = s.xl := rfl
@[simp] theorem setDie_sent (s : State) (n : Nat) (x : Die) : (s.setDie n x).sent = s.sent := rfl
@[simp] theorem setDie_landings (s : State) (n : Nat) (x : Die) : (s.setDie n x).landings = s.landings := rfl
@[simp] theorem setDie_barriers (s : State) (n : Nat) (x : Die) : (s.setDie n x).barriers = s.barriers := rfl
@[simp] theorem setDie_desig (s : State) (n : Nat) (x : Die) : (s.setDie n x).desig = s.desig := rfl
@[simp] theorem setDie_touched (s : State) (n : Nat) (x : Die) : (s.setDie n x).touched = s.touched := rfl
@[simp] theorem setDie_rounds (s : State) (n : Nat) (x : Die) : (s.setDie n x).rounds = s.rounds := rfl
@[simp] theorem setDie_fab (s : State) (n : Nat) (x : Die) : (s.setDie n x).fab = s.fab := rfl
@[simp] theorem setDie_ports (s : State) (n : Nat) (x : Die) : (s.setDie n x).ports = s.ports := rfl
@[simp] theorem setDie_uepkg (s : State) (n : Nat) (x : Die) : (s.setDie n x).uepkg = s.uepkg := rfl
@[simp] theorem setDie_windows (s : State) (n : Nat) (x : Die) : (s.setDie n x).windows = s.windows := rfl
@[simp] theorem setDie_hostUp (s : State) (n : Nat) (x : Die) : (s.setDie n x).hostUp = s.hostUp := rfl
@[simp] theorem setDie_compacts (s : State) (n : Nat) (x : Die) : (s.setDie n x).compacts = s.compacts := rfl
@[simp] theorem setDie_clines (s : State) (n : Nat) (x : Die) : (s.setDie n x).clines = s.clines := rfl
@[simp] theorem setDie_tsPoison (s : State) (n : Nat) (x : Die) : (s.setDie n x).tsPoison = s.tsPoison := rfl
@[simp] theorem setDie_rdy (s : State) (n : Nat) (x : Die) : (s.setDie n x).rdy = s.rdy := rfl
@[simp] theorem setDie_fail (s : State) (n : Nat) (x : Die) : (s.setDie n x).fail = s.fail := rfl
@[simp] theorem setDie_rdygen (s : State) (n : Nat) (x : Die) : (s.setDie n x).rdygen = s.rdygen := rfl
@[simp] theorem setDie_therm (s : State) (n : Nat) (x : Die) : (s.setDie n x).therm = s.therm := rfl
@[simp] theorem setDie_optic (s : State) (n : Nat) (x : Die) : (s.setDie n x).optic = s.optic := rfl
@[simp] theorem setDie_groups (s : State) (n : Nat) (x : Die) : (s.setDie n x).groups = s.groups := rfl
@[simp] theorem setDie_evq (s : State) (n : Nat) (x : Die) : (s.setDie n x).evq = s.evq := rfl
@[simp] theorem setDie_nmc (s : State) (n : Nat) (x : Die) : (s.setDie n x).nmc = s.nmc := rfl
@[simp] theorem setDie_treqs (s : State) (n : Nat) (x : Die) : (s.setDie n x).treqs = s.treqs := rfl
@[simp] theorem setDie_tabs (s : State) (n : Nat) (x : Die) : (s.setDie n x).tabs = s.tabs := rfl
@[simp] theorem setDie_msaq (s : State) (n : Nat) (x : Die) : (s.setDie n x).msaq = s.msaq := rfl
@[simp] theorem setDie_scq (s : State) (n : Nat) (x : Die) : (s.setDie n x).scq = s.scq := rfl
@[simp] theorem setDie_scTicket (s : State) (n : Nat) (x : Die) : (s.setDie n x).scTicket = s.scTicket := rfl
@[simp] theorem setDie_tlbRegs (s : State) (n : Nat) (x : Die) : (s.setDie n x).tlbRegs = s.tlbRegs := rfl
@[simp] theorem setDie_gstops (s : State) (n : Nat) (x : Die) : (s.setDie n x).gstops = s.gstops := rfl
@[simp] theorem setDie_l2sw (s : State) (n : Nat) (x : Die) : (s.setDie n x).l2sw = s.l2sw := rfl
@[simp] theorem setDie_ring (s : State) (n : Nat) (x : Die) : (s.setDie n x).ring = s.ring := rfl
@[simp] theorem setDie_host (s : State) (n : Nat) (x : Die) : (s.setDie n x).host = s.host := rfl
@[simp] theorem setDie_quiet (s : State) (n : Nat) (x : Die) : (s.setDie n x).quiet = s.quiet := rfl
@[simp] theorem setDie_hung (s : State) (n : Nat) (x : Die) : (s.setDie n x).hung = s.hung := rfl
@[simp] theorem setDie_hangs (s : State) (n : Nat) (x : Die) : (s.setDie n x).hangs = s.hangs := rfl
@[simp] theorem setDie_time (s : State) (n : Nat) (x : Die) : (s.setDie n x).time = s.time := rfl
@[simp] theorem setDie_power (s : State) (n : Nat) (x : Die) : (s.setDie n x).power = s.power := rfl

@[simp] theorem withCoh_slots (s : State) (x : Coh) : (s.withCoh x).slots = s.slots := rfl
@[simp] theorem withCoh_cores (s : State) (x : Coh) : (s.withCoh x).cores = s.cores := rfl
@[simp] theorem withCoh_tiles (s : State) (x : Coh) : (s.withCoh x).tiles = s.tiles := rfl
@[simp] theorem withCoh_clusters (s : State) (x : Coh) : (s.withCoh x).clusters = s.clusters := rfl
@[simp] theorem withCoh_dies (s : State) (x : Coh) : (s.withCoh x).dies = s.dies := rfl
@[simp] theorem withCoh_cur (s : State) (x : Coh) : (s.withCoh x).cur = s.cur := rfl
@[simp] theorem withCoh_agenda (s : State) (x : Coh) : (s.withCoh x).agenda = s.agenda := rfl
@[simp] theorem withCoh_mem (s : State) (x : Coh) : (s.withCoh x).mem = s.mem := rfl
@[simp] theorem withCoh_ts (s : State) (x : Coh) : (s.withCoh x).ts = s.ts := rfl
@[simp] theorem withCoh_icache (s : State) (x : Coh) : (s.withCoh x).icache = s.icache := rfl
@[simp] theorem withCoh_boot (s : State) (x : Coh) : (s.withCoh x).boot = s.boot := rfl
@[simp] theorem withCoh_signs (s : State) (x : Coh) : (s.withCoh x).signs = s.signs := rfl
@[simp] theorem withCoh_xl (s : State) (x : Coh) : (s.withCoh x).xl = s.xl := rfl
@[simp] theorem withCoh_sent (s : State) (x : Coh) : (s.withCoh x).sent = s.sent := rfl
@[simp] theorem withCoh_landings (s : State) (x : Coh) : (s.withCoh x).landings = s.landings := rfl
@[simp] theorem withCoh_barriers (s : State) (x : Coh) : (s.withCoh x).barriers = s.barriers := rfl
@[simp] theorem withCoh_desig (s : State) (x : Coh) : (s.withCoh x).desig = s.desig := rfl
@[simp] theorem withCoh_touched (s : State) (x : Coh) : (s.withCoh x).touched = s.touched := rfl
@[simp] theorem withCoh_rounds (s : State) (x : Coh) : (s.withCoh x).rounds = s.rounds := rfl
@[simp] theorem withCoh_fab (s : State) (x : Coh) : (s.withCoh x).fab = s.fab := rfl
@[simp] theorem withCoh_ports (s : State) (x : Coh) : (s.withCoh x).ports = s.ports := rfl
@[simp] theorem withCoh_uepkg (s : State) (x : Coh) : (s.withCoh x).uepkg = s.uepkg := rfl
@[simp] theorem withCoh_windows (s : State) (x : Coh) : (s.withCoh x).windows = s.windows := rfl
@[simp] theorem withCoh_hostUp (s : State) (x : Coh) : (s.withCoh x).hostUp = s.hostUp := rfl
@[simp] theorem withCoh_compacts (s : State) (x : Coh) : (s.withCoh x).compacts = s.compacts := rfl
@[simp] theorem withCoh_clines (s : State) (x : Coh) : (s.withCoh x).clines = s.clines := rfl
@[simp] theorem withCoh_tsPoison (s : State) (x : Coh) : (s.withCoh x).tsPoison = s.tsPoison := rfl
@[simp] theorem withCoh_rdy (s : State) (x : Coh) : (s.withCoh x).rdy = s.rdy := rfl
@[simp] theorem withCoh_fail (s : State) (x : Coh) : (s.withCoh x).fail = s.fail := rfl
@[simp] theorem withCoh_rdygen (s : State) (x : Coh) : (s.withCoh x).rdygen = s.rdygen := rfl
@[simp] theorem withCoh_therm (s : State) (x : Coh) : (s.withCoh x).therm = s.therm := rfl
@[simp] theorem withCoh_optic (s : State) (x : Coh) : (s.withCoh x).optic = s.optic := rfl
@[simp] theorem withCoh_groups (s : State) (x : Coh) : (s.withCoh x).groups = s.groups := rfl
@[simp] theorem withCoh_evq (s : State) (x : Coh) : (s.withCoh x).evq = s.evq := rfl
@[simp] theorem withCoh_nmc (s : State) (x : Coh) : (s.withCoh x).nmc = s.nmc := rfl
@[simp] theorem withCoh_treqs (s : State) (x : Coh) : (s.withCoh x).treqs = s.treqs := rfl
@[simp] theorem withCoh_tabs (s : State) (x : Coh) : (s.withCoh x).tabs = s.tabs := rfl
@[simp] theorem withCoh_msaq (s : State) (x : Coh) : (s.withCoh x).msaq = s.msaq := rfl
@[simp] theorem withCoh_scq (s : State) (x : Coh) : (s.withCoh x).scq = s.scq := rfl
@[simp] theorem withCoh_scTicket (s : State) (x : Coh) : (s.withCoh x).scTicket = s.scTicket := rfl
@[simp] theorem withCoh_tlbRegs (s : State) (x : Coh) : (s.withCoh x).tlbRegs = s.tlbRegs := rfl
@[simp] theorem withCoh_gstops (s : State) (x : Coh) : (s.withCoh x).gstops = s.gstops := rfl
@[simp] theorem withCoh_l2sw (s : State) (x : Coh) : (s.withCoh x).l2sw = s.l2sw := rfl
@[simp] theorem withCoh_ring (s : State) (x : Coh) : (s.withCoh x).ring = s.ring := rfl
@[simp] theorem withCoh_host (s : State) (x : Coh) : (s.withCoh x).host = s.host := rfl
@[simp] theorem withCoh_quiet (s : State) (x : Coh) : (s.withCoh x).quiet = s.quiet := rfl
@[simp] theorem withCoh_hung (s : State) (x : Coh) : (s.withCoh x).hung = s.hung := rfl
@[simp] theorem withCoh_hangs (s : State) (x : Coh) : (s.withCoh x).hangs = s.hangs := rfl
@[simp] theorem withCoh_time (s : State) (x : Coh) : (s.withCoh x).time = s.time := rfl
@[simp] theorem withCoh_power (s : State) (x : Coh) : (s.withCoh x).power = s.power := rfl

@[simp] theorem tsWrite_slots (s : State) (a b k v : Nat) : (s.tsWrite a b k v).slots = s.slots := rfl
@[simp] theorem tsWrite_cores (s : State) (a b k v : Nat) : (s.tsWrite a b k v).cores = s.cores := rfl
@[simp] theorem tsWrite_tiles (s : State) (a b k v : Nat) : (s.tsWrite a b k v).tiles = s.tiles := rfl
@[simp] theorem tsWrite_clusters (s : State) (a b k v : Nat) : (s.tsWrite a b k v).clusters = s.clusters := rfl
@[simp] theorem tsWrite_dies (s : State) (a b k v : Nat) : (s.tsWrite a b k v).dies = s.dies := rfl
@[simp] theorem tsWrite_cur (s : State) (a b k v : Nat) : (s.tsWrite a b k v).cur = s.cur := rfl
@[simp] theorem tsWrite_agenda (s : State) (a b k v : Nat) : (s.tsWrite a b k v).agenda = s.agenda := rfl
@[simp] theorem tsWrite_mem (s : State) (a b k v : Nat) : (s.tsWrite a b k v).mem = s.mem := rfl
@[simp] theorem tsWrite_icache (s : State) (a b k v : Nat) : (s.tsWrite a b k v).icache = s.icache := rfl
@[simp] theorem tsWrite_boot (s : State) (a b k v : Nat) : (s.tsWrite a b k v).boot = s.boot := rfl
@[simp] theorem tsWrite_signs (s : State) (a b k v : Nat) : (s.tsWrite a b k v).signs = s.signs := rfl
@[simp] theorem tsWrite_coh (s : State) (a b k v : Nat) : (s.tsWrite a b k v).coh = s.coh := rfl
@[simp] theorem tsWrite_xl (s : State) (a b k v : Nat) : (s.tsWrite a b k v).xl = s.xl := rfl
@[simp] theorem tsWrite_sent (s : State) (a b k v : Nat) : (s.tsWrite a b k v).sent = s.sent := rfl
@[simp] theorem tsWrite_landings (s : State) (a b k v : Nat) : (s.tsWrite a b k v).landings = s.landings := rfl
@[simp] theorem tsWrite_barriers (s : State) (a b k v : Nat) : (s.tsWrite a b k v).barriers = s.barriers := rfl
@[simp] theorem tsWrite_desig (s : State) (a b k v : Nat) : (s.tsWrite a b k v).desig = s.desig := rfl
@[simp] theorem tsWrite_touched (s : State) (a b k v : Nat) : (s.tsWrite a b k v).touched = s.touched := rfl
@[simp] theorem tsWrite_rounds (s : State) (a b k v : Nat) : (s.tsWrite a b k v).rounds = s.rounds := rfl
@[simp] theorem tsWrite_fab (s : State) (a b k v : Nat) : (s.tsWrite a b k v).fab = s.fab := rfl
@[simp] theorem tsWrite_ports (s : State) (a b k v : Nat) : (s.tsWrite a b k v).ports = s.ports := rfl
@[simp] theorem tsWrite_uepkg (s : State) (a b k v : Nat) : (s.tsWrite a b k v).uepkg = s.uepkg := rfl
@[simp] theorem tsWrite_windows (s : State) (a b k v : Nat) : (s.tsWrite a b k v).windows = s.windows := rfl
@[simp] theorem tsWrite_hostUp (s : State) (a b k v : Nat) : (s.tsWrite a b k v).hostUp = s.hostUp := rfl
@[simp] theorem tsWrite_compacts (s : State) (a b k v : Nat) : (s.tsWrite a b k v).compacts = s.compacts := rfl
@[simp] theorem tsWrite_clines (s : State) (a b k v : Nat) : (s.tsWrite a b k v).clines = s.clines := rfl
@[simp] theorem tsWrite_tsPoison (s : State) (a b k v : Nat) : (s.tsWrite a b k v).tsPoison = s.tsPoison := rfl
@[simp] theorem tsWrite_rdy (s : State) (a b k v : Nat) : (s.tsWrite a b k v).rdy = s.rdy := rfl
@[simp] theorem tsWrite_fail (s : State) (a b k v : Nat) : (s.tsWrite a b k v).fail = s.fail := rfl
@[simp] theorem tsWrite_rdygen (s : State) (a b k v : Nat) : (s.tsWrite a b k v).rdygen = s.rdygen := rfl
@[simp] theorem tsWrite_therm (s : State) (a b k v : Nat) : (s.tsWrite a b k v).therm = s.therm := rfl
@[simp] theorem tsWrite_optic (s : State) (a b k v : Nat) : (s.tsWrite a b k v).optic = s.optic := rfl
@[simp] theorem tsWrite_groups (s : State) (a b k v : Nat) : (s.tsWrite a b k v).groups = s.groups := rfl
@[simp] theorem tsWrite_evq (s : State) (a b k v : Nat) : (s.tsWrite a b k v).evq = s.evq := rfl
@[simp] theorem tsWrite_nmc (s : State) (a b k v : Nat) : (s.tsWrite a b k v).nmc = s.nmc := rfl
@[simp] theorem tsWrite_treqs (s : State) (a b k v : Nat) : (s.tsWrite a b k v).treqs = s.treqs := rfl
@[simp] theorem tsWrite_tabs (s : State) (a b k v : Nat) : (s.tsWrite a b k v).tabs = s.tabs := rfl
@[simp] theorem tsWrite_msaq (s : State) (a b k v : Nat) : (s.tsWrite a b k v).msaq = s.msaq := rfl
@[simp] theorem tsWrite_scq (s : State) (a b k v : Nat) : (s.tsWrite a b k v).scq = s.scq := rfl
@[simp] theorem tsWrite_scTicket (s : State) (a b k v : Nat) : (s.tsWrite a b k v).scTicket = s.scTicket := rfl
@[simp] theorem tsWrite_tlbRegs (s : State) (a b k v : Nat) : (s.tsWrite a b k v).tlbRegs = s.tlbRegs := rfl
@[simp] theorem tsWrite_gstops (s : State) (a b k v : Nat) : (s.tsWrite a b k v).gstops = s.gstops := rfl
@[simp] theorem tsWrite_l2sw (s : State) (a b k v : Nat) : (s.tsWrite a b k v).l2sw = s.l2sw := rfl
@[simp] theorem tsWrite_ring (s : State) (a b k v : Nat) : (s.tsWrite a b k v).ring = s.ring := rfl
@[simp] theorem tsWrite_host (s : State) (a b k v : Nat) : (s.tsWrite a b k v).host = s.host := rfl
@[simp] theorem tsWrite_quiet (s : State) (a b k v : Nat) : (s.tsWrite a b k v).quiet = s.quiet := rfl
@[simp] theorem tsWrite_hung (s : State) (a b k v : Nat) : (s.tsWrite a b k v).hung = s.hung := rfl
@[simp] theorem tsWrite_hangs (s : State) (a b k v : Nat) : (s.tsWrite a b k v).hangs = s.hangs := rfl
@[simp] theorem tsWrite_time (s : State) (a b k v : Nat) : (s.tsWrite a b k v).time = s.time := rfl
@[simp] theorem tsWrite_power (s : State) (a b k v : Nat) : (s.tsWrite a b k v).power = s.power := rfl

@[simp] theorem setCache_slots (s : State) (n : Nat) (l : List TlbEnt) : (s.setCache n l).slots = s.slots := rfl
@[simp] theorem setCache_cores (s : State) (n : Nat) (l : List TlbEnt) : (s.setCache n l).cores = s.cores := rfl
@[simp] theorem setCache_tiles (s : State) (n : Nat) (l : List TlbEnt) : (s.setCache n l).tiles = s.tiles := rfl
@[simp] theorem setCache_clusters (s : State) (n : Nat) (l : List TlbEnt) : (s.setCache n l).clusters = s.clusters := rfl
@[simp] theorem setCache_dies (s : State) (n : Nat) (l : List TlbEnt) : (s.setCache n l).dies = s.dies := rfl
@[simp] theorem setCache_cur (s : State) (n : Nat) (l : List TlbEnt) : (s.setCache n l).cur = s.cur := rfl
@[simp] theorem setCache_agenda (s : State) (n : Nat) (l : List TlbEnt) : (s.setCache n l).agenda = s.agenda := rfl
@[simp] theorem setCache_mem (s : State) (n : Nat) (l : List TlbEnt) : (s.setCache n l).mem = s.mem := rfl
@[simp] theorem setCache_ts (s : State) (n : Nat) (l : List TlbEnt) : (s.setCache n l).ts = s.ts := rfl
@[simp] theorem setCache_icache (s : State) (n : Nat) (l : List TlbEnt) : (s.setCache n l).icache = s.icache := rfl
@[simp] theorem setCache_boot (s : State) (n : Nat) (l : List TlbEnt) : (s.setCache n l).boot = s.boot := rfl
@[simp] theorem setCache_signs (s : State) (n : Nat) (l : List TlbEnt) : (s.setCache n l).signs = s.signs := rfl
@[simp] theorem setCache_coh (s : State) (n : Nat) (l : List TlbEnt) : (s.setCache n l).coh = s.coh := rfl
@[simp] theorem setCache_sent (s : State) (n : Nat) (l : List TlbEnt) : (s.setCache n l).sent = s.sent := rfl
@[simp] theorem setCache_landings (s : State) (n : Nat) (l : List TlbEnt) : (s.setCache n l).landings = s.landings := rfl
@[simp] theorem setCache_barriers (s : State) (n : Nat) (l : List TlbEnt) : (s.setCache n l).barriers = s.barriers := rfl
@[simp] theorem setCache_desig (s : State) (n : Nat) (l : List TlbEnt) : (s.setCache n l).desig = s.desig := rfl
@[simp] theorem setCache_touched (s : State) (n : Nat) (l : List TlbEnt) : (s.setCache n l).touched = s.touched := rfl
@[simp] theorem setCache_rounds (s : State) (n : Nat) (l : List TlbEnt) : (s.setCache n l).rounds = s.rounds := rfl
@[simp] theorem setCache_fab (s : State) (n : Nat) (l : List TlbEnt) : (s.setCache n l).fab = s.fab := rfl
@[simp] theorem setCache_ports (s : State) (n : Nat) (l : List TlbEnt) : (s.setCache n l).ports = s.ports := rfl
@[simp] theorem setCache_uepkg (s : State) (n : Nat) (l : List TlbEnt) : (s.setCache n l).uepkg = s.uepkg := rfl
@[simp] theorem setCache_windows (s : State) (n : Nat) (l : List TlbEnt) : (s.setCache n l).windows = s.windows := rfl
@[simp] theorem setCache_hostUp (s : State) (n : Nat) (l : List TlbEnt) : (s.setCache n l).hostUp = s.hostUp := rfl
@[simp] theorem setCache_compacts (s : State) (n : Nat) (l : List TlbEnt) : (s.setCache n l).compacts = s.compacts := rfl
@[simp] theorem setCache_clines (s : State) (n : Nat) (l : List TlbEnt) : (s.setCache n l).clines = s.clines := rfl
@[simp] theorem setCache_tsPoison (s : State) (n : Nat) (l : List TlbEnt) : (s.setCache n l).tsPoison = s.tsPoison := rfl
@[simp] theorem setCache_rdy (s : State) (n : Nat) (l : List TlbEnt) : (s.setCache n l).rdy = s.rdy := rfl
@[simp] theorem setCache_fail (s : State) (n : Nat) (l : List TlbEnt) : (s.setCache n l).fail = s.fail := rfl
@[simp] theorem setCache_rdygen (s : State) (n : Nat) (l : List TlbEnt) : (s.setCache n l).rdygen = s.rdygen := rfl
@[simp] theorem setCache_therm (s : State) (n : Nat) (l : List TlbEnt) : (s.setCache n l).therm = s.therm := rfl
@[simp] theorem setCache_optic (s : State) (n : Nat) (l : List TlbEnt) : (s.setCache n l).optic = s.optic := rfl
@[simp] theorem setCache_groups (s : State) (n : Nat) (l : List TlbEnt) : (s.setCache n l).groups = s.groups := rfl
@[simp] theorem setCache_evq (s : State) (n : Nat) (l : List TlbEnt) : (s.setCache n l).evq = s.evq := rfl
@[simp] theorem setCache_nmc (s : State) (n : Nat) (l : List TlbEnt) : (s.setCache n l).nmc = s.nmc := rfl
@[simp] theorem setCache_treqs (s : State) (n : Nat) (l : List TlbEnt) : (s.setCache n l).treqs = s.treqs := rfl
@[simp] theorem setCache_tabs (s : State) (n : Nat) (l : List TlbEnt) : (s.setCache n l).tabs = s.tabs := rfl
@[simp] theorem setCache_msaq (s : State) (n : Nat) (l : List TlbEnt) : (s.setCache n l).msaq = s.msaq := rfl
@[simp] theorem setCache_scq (s : State) (n : Nat) (l : List TlbEnt) : (s.setCache n l).scq = s.scq := rfl
@[simp] theorem setCache_scTicket (s : State) (n : Nat) (l : List TlbEnt) : (s.setCache n l).scTicket = s.scTicket := rfl
@[simp] theorem setCache_tlbRegs (s : State) (n : Nat) (l : List TlbEnt) : (s.setCache n l).tlbRegs = s.tlbRegs := rfl
@[simp] theorem setCache_gstops (s : State) (n : Nat) (l : List TlbEnt) : (s.setCache n l).gstops = s.gstops := rfl
@[simp] theorem setCache_l2sw (s : State) (n : Nat) (l : List TlbEnt) : (s.setCache n l).l2sw = s.l2sw := rfl
@[simp] theorem setCache_ring (s : State) (n : Nat) (l : List TlbEnt) : (s.setCache n l).ring = s.ring := rfl
@[simp] theorem setCache_host (s : State) (n : Nat) (l : List TlbEnt) : (s.setCache n l).host = s.host := rfl
@[simp] theorem setCache_quiet (s : State) (n : Nat) (l : List TlbEnt) : (s.setCache n l).quiet = s.quiet := rfl
@[simp] theorem setCache_hung (s : State) (n : Nat) (l : List TlbEnt) : (s.setCache n l).hung = s.hung := rfl
@[simp] theorem setCache_hangs (s : State) (n : Nat) (l : List TlbEnt) : (s.setCache n l).hangs = s.hangs := rfl
@[simp] theorem setCache_time (s : State) (n : Nat) (l : List TlbEnt) : (s.setCache n l).time = s.time := rfl
@[simp] theorem setCache_power (s : State) (n : Nat) (l : List TlbEnt) : (s.setCache n l).power = s.power := rfl

@[simp] theorem modSlot_cores (s : State) (n : Nat) (g : Slot → Slot) : (s.modSlot n g).cores = s.cores := rfl
@[simp] theorem setSlot_cores (s : State) (x : Slot) : (s.setSlot x).cores = s.cores := rfl
@[simp] theorem modSlot_tiles (s : State) (n : Nat) (g : Slot → Slot) : (s.modSlot n g).tiles = s.tiles := rfl
@[simp] theorem setSlot_tiles (s : State) (x : Slot) : (s.setSlot x).tiles = s.tiles := rfl
@[simp] theorem modSlot_clusters (s : State) (n : Nat) (g : Slot → Slot) : (s.modSlot n g).clusters = s.clusters := rfl
@[simp] theorem setSlot_clusters (s : State) (x : Slot) : (s.setSlot x).clusters = s.clusters := rfl
@[simp] theorem modSlot_dies (s : State) (n : Nat) (g : Slot → Slot) : (s.modSlot n g).dies = s.dies := rfl
@[simp] theorem setSlot_dies (s : State) (x : Slot) : (s.setSlot x).dies = s.dies := rfl
@[simp] theorem modSlot_cur (s : State) (n : Nat) (g : Slot → Slot) : (s.modSlot n g).cur = s.cur := rfl
@[simp] theorem setSlot_cur (s : State) (x : Slot) : (s.setSlot x).cur = s.cur := rfl
@[simp] theorem modSlot_agenda (s : State) (n : Nat) (g : Slot → Slot) : (s.modSlot n g).agenda = s.agenda := rfl
@[simp] theorem setSlot_agenda (s : State) (x : Slot) : (s.setSlot x).agenda = s.agenda := rfl
@[simp] theorem modSlot_mem (s : State) (n : Nat) (g : Slot → Slot) : (s.modSlot n g).mem = s.mem := rfl
@[simp] theorem setSlot_mem (s : State) (x : Slot) : (s.setSlot x).mem = s.mem := rfl
@[simp] theorem modSlot_ts (s : State) (n : Nat) (g : Slot → Slot) : (s.modSlot n g).ts = s.ts := rfl
@[simp] theorem setSlot_ts (s : State) (x : Slot) : (s.setSlot x).ts = s.ts := rfl
@[simp] theorem modSlot_icache (s : State) (n : Nat) (g : Slot → Slot) : (s.modSlot n g).icache = s.icache := rfl
@[simp] theorem modSlot_boot (s : State) (n : Nat) (g : Slot → Slot) : (s.modSlot n g).boot = s.boot := rfl
@[simp] theorem modSlot_signs (s : State) (n : Nat) (g : Slot → Slot) : (s.modSlot n g).signs = s.signs := rfl
@[simp] theorem setSlot_icache (s : State) (x : Slot) : (s.setSlot x).icache = s.icache := rfl
@[simp] theorem setSlot_boot (s : State) (x : Slot) : (s.setSlot x).boot = s.boot := rfl
@[simp] theorem setSlot_signs (s : State) (x : Slot) : (s.setSlot x).signs = s.signs := rfl
@[simp] theorem modSlot_coh (s : State) (n : Nat) (g : Slot → Slot) : (s.modSlot n g).coh = s.coh := rfl
@[simp] theorem setSlot_coh (s : State) (x : Slot) : (s.setSlot x).coh = s.coh := rfl
@[simp] theorem modSlot_xl (s : State) (n : Nat) (g : Slot → Slot) : (s.modSlot n g).xl = s.xl := rfl
@[simp] theorem setSlot_xl (s : State) (x : Slot) : (s.setSlot x).xl = s.xl := rfl
@[simp] theorem modSlot_sent (s : State) (n : Nat) (g : Slot → Slot) : (s.modSlot n g).sent = s.sent := rfl
@[simp] theorem setSlot_sent (s : State) (x : Slot) : (s.setSlot x).sent = s.sent := rfl
@[simp] theorem modSlot_landings (s : State) (n : Nat) (g : Slot → Slot) : (s.modSlot n g).landings = s.landings := rfl
@[simp] theorem setSlot_landings (s : State) (x : Slot) : (s.setSlot x).landings = s.landings := rfl
@[simp] theorem modSlot_barriers (s : State) (n : Nat) (g : Slot → Slot) : (s.modSlot n g).barriers = s.barriers := rfl
@[simp] theorem setSlot_barriers (s : State) (x : Slot) : (s.setSlot x).barriers = s.barriers := rfl
@[simp] theorem modSlot_desig (s : State) (n : Nat) (g : Slot → Slot) : (s.modSlot n g).desig = s.desig := rfl
@[simp] theorem setSlot_desig (s : State) (x : Slot) : (s.setSlot x).desig = s.desig := rfl
@[simp] theorem modSlot_touched (s : State) (n : Nat) (g : Slot → Slot) : (s.modSlot n g).touched = s.touched := rfl
@[simp] theorem setSlot_touched (s : State) (x : Slot) : (s.setSlot x).touched = s.touched := rfl
@[simp] theorem modSlot_rounds (s : State) (n : Nat) (g : Slot → Slot) : (s.modSlot n g).rounds = s.rounds := rfl
@[simp] theorem setSlot_rounds (s : State) (x : Slot) : (s.setSlot x).rounds = s.rounds := rfl
@[simp] theorem modSlot_fab (s : State) (n : Nat) (g : Slot → Slot) : (s.modSlot n g).fab = s.fab := rfl
@[simp] theorem setSlot_fab (s : State) (x : Slot) : (s.setSlot x).fab = s.fab := rfl
@[simp] theorem modSlot_ports (s : State) (n : Nat) (g : Slot → Slot) : (s.modSlot n g).ports = s.ports := rfl
@[simp] theorem setSlot_ports (s : State) (x : Slot) : (s.setSlot x).ports = s.ports := rfl
@[simp] theorem modSlot_uepkg (s : State) (n : Nat) (g : Slot → Slot) : (s.modSlot n g).uepkg = s.uepkg := rfl
@[simp] theorem setSlot_uepkg (s : State) (x : Slot) : (s.setSlot x).uepkg = s.uepkg := rfl
@[simp] theorem modSlot_windows (s : State) (n : Nat) (g : Slot → Slot) : (s.modSlot n g).windows = s.windows := rfl
@[simp] theorem setSlot_windows (s : State) (x : Slot) : (s.setSlot x).windows = s.windows := rfl
@[simp] theorem modSlot_hostUp (s : State) (n : Nat) (g : Slot → Slot) : (s.modSlot n g).hostUp = s.hostUp := rfl
@[simp] theorem setSlot_hostUp (s : State) (x : Slot) : (s.setSlot x).hostUp = s.hostUp := rfl
@[simp] theorem modSlot_compacts (s : State) (n : Nat) (g : Slot → Slot) : (s.modSlot n g).compacts = s.compacts := rfl
@[simp] theorem setSlot_compacts (s : State) (x : Slot) : (s.setSlot x).compacts = s.compacts := rfl
@[simp] theorem modSlot_clines (s : State) (n : Nat) (g : Slot → Slot) : (s.modSlot n g).clines = s.clines := rfl
@[simp] theorem setSlot_clines (s : State) (x : Slot) : (s.setSlot x).clines = s.clines := rfl
@[simp] theorem modSlot_tsPoison (s : State) (n : Nat) (g : Slot → Slot) : (s.modSlot n g).tsPoison = s.tsPoison := rfl
@[simp] theorem setSlot_tsPoison (s : State) (x : Slot) : (s.setSlot x).tsPoison = s.tsPoison := rfl
@[simp] theorem modSlot_rdy (s : State) (n : Nat) (g : Slot → Slot) : (s.modSlot n g).rdy = s.rdy := rfl
@[simp] theorem setSlot_rdy (s : State) (x : Slot) : (s.setSlot x).rdy = s.rdy := rfl
@[simp] theorem modSlot_fail (s : State) (n : Nat) (g : Slot → Slot) : (s.modSlot n g).fail = s.fail := rfl
@[simp] theorem setSlot_fail (s : State) (x : Slot) : (s.setSlot x).fail = s.fail := rfl
@[simp] theorem modSlot_rdygen (s : State) (n : Nat) (g : Slot → Slot) : (s.modSlot n g).rdygen = s.rdygen := rfl
@[simp] theorem setSlot_rdygen (s : State) (x : Slot) : (s.setSlot x).rdygen = s.rdygen := rfl
@[simp] theorem modSlot_therm (s : State) (n : Nat) (g : Slot → Slot) : (s.modSlot n g).therm = s.therm := rfl
@[simp] theorem setSlot_therm (s : State) (x : Slot) : (s.setSlot x).therm = s.therm := rfl
@[simp] theorem modSlot_optic (s : State) (n : Nat) (g : Slot → Slot) : (s.modSlot n g).optic = s.optic := rfl
@[simp] theorem setSlot_optic (s : State) (x : Slot) : (s.setSlot x).optic = s.optic := rfl
@[simp] theorem modSlot_groups (s : State) (n : Nat) (g : Slot → Slot) : (s.modSlot n g).groups = s.groups := rfl
@[simp] theorem setSlot_groups (s : State) (x : Slot) : (s.setSlot x).groups = s.groups := rfl
@[simp] theorem modSlot_evq (s : State) (n : Nat) (g : Slot → Slot) : (s.modSlot n g).evq = s.evq := rfl
@[simp] theorem setSlot_evq (s : State) (x : Slot) : (s.setSlot x).evq = s.evq := rfl
@[simp] theorem modSlot_nmc (s : State) (n : Nat) (g : Slot → Slot) : (s.modSlot n g).nmc = s.nmc := rfl
@[simp] theorem setSlot_nmc (s : State) (x : Slot) : (s.setSlot x).nmc = s.nmc := rfl
@[simp] theorem modSlot_treqs (s : State) (n : Nat) (g : Slot → Slot) : (s.modSlot n g).treqs = s.treqs := rfl
@[simp] theorem setSlot_treqs (s : State) (x : Slot) : (s.setSlot x).treqs = s.treqs := rfl
@[simp] theorem modSlot_tabs (s : State) (n : Nat) (g : Slot → Slot) : (s.modSlot n g).tabs = s.tabs := rfl
@[simp] theorem setSlot_tabs (s : State) (x : Slot) : (s.setSlot x).tabs = s.tabs := rfl
@[simp] theorem modSlot_msaq (s : State) (n : Nat) (g : Slot → Slot) : (s.modSlot n g).msaq = s.msaq := rfl
@[simp] theorem setSlot_msaq (s : State) (x : Slot) : (s.setSlot x).msaq = s.msaq := rfl
@[simp] theorem modSlot_scq (s : State) (n : Nat) (g : Slot → Slot) : (s.modSlot n g).scq = s.scq := rfl
@[simp] theorem setSlot_scq (s : State) (x : Slot) : (s.setSlot x).scq = s.scq := rfl
@[simp] theorem modSlot_scTicket (s : State) (n : Nat) (g : Slot → Slot) : (s.modSlot n g).scTicket = s.scTicket := rfl
@[simp] theorem setSlot_scTicket (s : State) (x : Slot) : (s.setSlot x).scTicket = s.scTicket := rfl
@[simp] theorem modSlot_tlbRegs (s : State) (n : Nat) (g : Slot → Slot) : (s.modSlot n g).tlbRegs = s.tlbRegs := rfl
@[simp] theorem setSlot_tlbRegs (s : State) (x : Slot) : (s.setSlot x).tlbRegs = s.tlbRegs := rfl
@[simp] theorem modSlot_gstops (s : State) (n : Nat) (g : Slot → Slot) : (s.modSlot n g).gstops = s.gstops := rfl
@[simp] theorem setSlot_gstops (s : State) (x : Slot) : (s.setSlot x).gstops = s.gstops := rfl
@[simp] theorem modSlot_l2sw (s : State) (n : Nat) (g : Slot → Slot) : (s.modSlot n g).l2sw = s.l2sw := rfl
@[simp] theorem setSlot_l2sw (s : State) (x : Slot) : (s.setSlot x).l2sw = s.l2sw := rfl
@[simp] theorem modSlot_ring (s : State) (n : Nat) (g : Slot → Slot) : (s.modSlot n g).ring = s.ring := rfl
@[simp] theorem setSlot_ring (s : State) (x : Slot) : (s.setSlot x).ring = s.ring := rfl
@[simp] theorem modSlot_host (s : State) (n : Nat) (g : Slot → Slot) : (s.modSlot n g).host = s.host := rfl
@[simp] theorem setSlot_host (s : State) (x : Slot) : (s.setSlot x).host = s.host := rfl
@[simp] theorem modSlot_quiet (s : State) (n : Nat) (g : Slot → Slot) : (s.modSlot n g).quiet = s.quiet := rfl
@[simp] theorem setSlot_quiet (s : State) (x : Slot) : (s.setSlot x).quiet = s.quiet := rfl
@[simp] theorem modSlot_hung (s : State) (n : Nat) (g : Slot → Slot) : (s.modSlot n g).hung = s.hung := rfl
@[simp] theorem setSlot_hung (s : State) (x : Slot) : (s.setSlot x).hung = s.hung := rfl
@[simp] theorem modSlot_hangs (s : State) (n : Nat) (g : Slot → Slot) : (s.modSlot n g).hangs = s.hangs := rfl
@[simp] theorem setSlot_hangs (s : State) (x : Slot) : (s.setSlot x).hangs = s.hangs := rfl
@[simp] theorem modSlot_time (s : State) (n : Nat) (g : Slot → Slot) : (s.modSlot n g).time = s.time := rfl
@[simp] theorem setSlot_time (s : State) (x : Slot) : (s.setSlot x).time = s.time := rfl
@[simp] theorem modSlot_power (s : State) (n : Nat) (g : Slot → Slot) : (s.modSlot n g).power = s.power := rfl
@[simp] theorem setSlot_power (s : State) (x : Slot) : (s.setSlot x).power = s.power := rfl

end Sys2Proof.Machine
end

