-- ==== Sys2Proof/Laws/Tables.lean ====
section
/-! SUPPORT. The sparse tables and the memory: reads after writes, and the canonical form that every memory operation keeps. -/

namespace Sys2Proof.Machine
open Sys2Proof

/-! Tables. -/

theorem Tbl.get?_cons {α : Type} (e : Nat × α) (t : Tbl α) (k : Nat) :
    Tbl.get? (e :: t) k = if e.1 = k then some e.2 else Tbl.get? t k := by
  unfold Tbl.get?
  by_cases h : e.1 = k
  · simp [List.find?, h]
  · have hb : (e.1 == k) = false := by simpa using h
    simp [List.find?, h, hb]

/-- A table read at the key just set. -/
theorem Tbl.get?_set_same {α : Type} (t : Tbl α) (k : Nat) (v : α) : Tbl.get? (Tbl.set t k v) k = some v := by
  induction t with
  | nil => simp [Tbl.set, Tbl.get?_cons]
  | cons e t ih =>
    obtain ⟨j, u⟩ := e
    simp only [Tbl.set]
    split
    · simp [Tbl.get?_cons]
    · split
      · simp [Tbl.get?_cons]
      · rename_i h1 h2
        simp [Tbl.get?_cons, ih, Ne.symm h2]

/-- A table read at another key than the one set. -/
theorem Tbl.get?_set_other {α : Type} (t : Tbl α) (k j : Nat) (v : α) (h : j ≠ k) :
    Tbl.get? (Tbl.set t k v) j = Tbl.get? t j := by
  induction t with
  | nil => simp [Tbl.set, Tbl.get?, Ne.symm h]
  | cons e t ih =>
    obtain ⟨i, u⟩ := e
    simp only [Tbl.set]
    split
    · simp [Tbl.get?_cons, Ne.symm h]
    · split
      · rename_i h2; subst h2; simp [Tbl.get?_cons, Ne.symm h]
      · simp [Tbl.get?_cons, ih]

theorem Tbl.get_set_same {α : Type} (t : Tbl α) (k : Nat) (v d : α) : Tbl.get (Tbl.set t k v) k d = v := by
  simp [Tbl.get, Tbl.get?_set_same]

theorem Tbl.get_set_other {α : Type} (t : Tbl α) (k j : Nat) (v d : α) (h : j ≠ k) :
    Tbl.get (Tbl.set t k v) j d = Tbl.get t j d := by
  simp [Tbl.get, Tbl.get?_set_other t k j v h]

/-- An erased key is absent. -/
theorem Tbl.get?_erase_same {α : Type} (t : Tbl α) (k : Nat) : Tbl.get? (Tbl.erase t k) k = none := by
  induction t with
  | nil => rfl
  | cons e t ih =>
    by_cases h : e.1 = k
    · have : Tbl.erase (e :: t) k = Tbl.erase t k := by simp [Tbl.erase, h]
      rw [this, ih]
    · have : Tbl.erase (e :: t) k = e :: Tbl.erase t k := by simp [Tbl.erase, h]
      rw [this, Tbl.get?_cons, if_neg h, ih]

/-- Erasing a key leaves the others. -/
theorem Tbl.get?_erase_other {α : Type} (t : Tbl α) (k j : Nat) (h : j ≠ k) : Tbl.get? (Tbl.erase t k) j = Tbl.get? t j := by
  induction t with
  | nil => rfl
  | cons e t ih =>
    by_cases he : e.1 = k
    · have : Tbl.erase (e :: t) k = Tbl.erase t k := by simp [Tbl.erase, he]
      rw [this, ih, Tbl.get?_cons, if_neg (by rw [he]; exact Ne.symm h)]
    · have : Tbl.erase (e :: t) k = e :: Tbl.erase t k := by simp [Tbl.erase, he]
      rw [this, Tbl.get?_cons, Tbl.get?_cons, ih]

/-! Rising keys. -/

theorem rising_cons (a : Nat) (l : List Nat) : rising (a :: l) = true ↔ (∀ b ∈ l.head?, a < b) ∧ rising l = true := by
  cases l <;> simp [rising]

/-- The keys of a rising list lie above its head. -/
theorem rising_lt {a : Nat} {l : List Nat} (h : rising (a :: l) = true) : ∀ b ∈ l, a < b := by
  induction l generalizing a with
  | nil => simp
  | cons c l ih =>
    rw [rising_cons] at h
    intro b hb
    have hc : a < c := h.1 c (by simp)
    rcases List.mem_cons.mp hb with rfl | hb
    · exact hc
    · exact lt_trans hc (ih h.2 b hb)

/-- A filter keeps a rising list rising. -/
theorem rising_filter {α : Type} (p : Nat × α → Bool) (t : Tbl α) (h : rising (t.map Prod.fst) = true) :
    rising ((t.filter p).map Prod.fst) = true := by
  induction t with
  | nil => rfl
  | cons e t ih =>
    have h0 := h
    rw [List.map_cons, rising_cons] at h
    by_cases hp : p e
    · rw [List.filter_cons_of_pos hp, List.map_cons, rising_cons]
      refine ⟨fun b hb => ?_, ih h.2⟩
      have hm : b ∈ (t.filter p).map Prod.fst := List.mem_of_mem_head? hb
      obtain ⟨x, hx, rfl⟩ := List.mem_map.mp hm
      exact rising_lt h0 _ (List.mem_map.mpr ⟨x, (List.mem_filter.mp hx).1, rfl⟩)
    · rw [List.filter_cons_of_neg hp]; exact ih h.2

theorem head_set {α : Type} (t : Tbl α) (k : Nat) (v : α) :
    ∀ b ∈ ((Tbl.set t k v).map Prod.fst).head?, b = k ∨ b ∈ (t.map Prod.fst).head? := by
  cases t with
  | nil => simp [Tbl.set]
  | cons e t =>
    simp only [Tbl.set]
    split
    · simp
    · split <;> simp

/-- A set key leaves the keys rising. -/
theorem rising_set {α : Type} (t : Tbl α) (k : Nat) (v : α) (h : rising (t.map Prod.fst) = true) :
    rising ((Tbl.set t k v).map Prod.fst) = true := by
  induction t with
  | nil => rfl
  | cons e t ih =>
    obtain ⟨j, u⟩ := e
    rw [List.map_cons, rising_cons] at h
    simp only [Tbl.set]
    split
    · rename_i hk
      simp only [List.map_cons, rising_cons]
      exact ⟨by simpa using hk, by simpa using h.1, h.2⟩
    · split
      · rename_i h2; subst h2
        rw [List.map_cons, rising_cons]; exact h
      · rename_i h1 h2
        rw [List.map_cons, rising_cons]
        refine ⟨fun b hb => ?_, ih h.2⟩
        rcases head_set t k v b hb with rfl | hb
        · show j < b; omega
        · exact h.1 b hb

/-! Memory. -/

theorem mem_set {α : Type} (t : Tbl α) (k : Nat) (v : α) : ∀ e ∈ Tbl.set t k v, e = (k, v) ∨ e ∈ t := by
  induction t with
  | nil => simp [Tbl.set]
  | cons x t ih =>
    obtain ⟨j, u⟩ := x
    simp only [Tbl.set]
    split
    · intro e he; simpa using he
    · split
      · intro e he; rcases List.mem_cons.mp he with h | h
        · exact .inl h
        · exact .inr (List.mem_cons_of_mem _ h)
      · intro e he; rcases List.mem_cons.mp he with h | h
        · exact .inr (by simp [h])
        · rcases ih e h with h | h
          · exact .inl h
          · exact .inr (List.mem_cons_of_mem _ h)

/-- Reset memory is canonical. -/
theorem Memory.wf_nil : Memory.wf [] = true := rfl

/-- A filtered memory is canonical. -/
theorem Memory.wf_filter (m : List Host.Cell) (p : Host.Cell → Bool) (h : Memory.wf m = true) : Memory.wf (m.filter p) = true := by
  simp only [Memory.wf, Bool.and_eq_true, List.all_eq_true] at *
  exact ⟨rising_filter p m h.1, fun c hc => h.2 c (List.mem_filter.mp hc).1⟩

/-- A byte written keeps the canonical form. -/
theorem Memory.wf_put (m : List Host.Cell) (a : Nat) (b : Byte) (h : Memory.wf m = true) : Memory.wf (Mem.put m a b) = true := by
  unfold Mem.put
  split
  · exact Memory.wf_filter m _ h
  · rename_i hb
    simp only [Memory.wf, Bool.and_eq_true, List.all_eq_true] at *
    refine ⟨rising_set m a b h.1, fun c hc => ?_⟩
    rcases mem_set m a b c hc with rfl | hc
    · simpa using hb
    · exact h.2 c hc

theorem Memory.wf_write (m : List Host.Cell) (a v k : Nat) (h : Memory.wf m = true) : Memory.wf (Mem.write m a v k) = true := by
  induction k generalizing m a v with
  | zero => exact h
  | succ k ih => exact ih _ _ _ (Memory.wf_put m a _ h)

theorem Memory.wf_writeMask (m : List Host.Cell) (a v : Nat) (mask : BitVec 64) (k : Nat) (h : Memory.wf m = true) :
    Memory.wf (Mem.writeMask m a v mask k) = true := by
  induction k with
  | zero => exact h
  | succ k ih =>
    simp only [Mem.writeMask]
    split
    · exact Memory.wf_put _ _ _ ih
    · exact ih

theorem Memory.wf_writeBytes (m : List Host.Cell) (a : Nat) (l : List Byte) (h : Memory.wf m = true) :
    Memory.wf (Mem.writeBytes m a l) = true := by
  induction l generalizing m a with
  | nil => exact h
  | cons b l ih => exact ih _ _ (Memory.wf_put m a b h)

/-- A byte just written is read. -/
theorem Mem.get_put_same (m : List Host.Cell) (a : Nat) (b : Byte) : Mem.get (Mem.put m a b) a = b := by
  unfold Mem.get Mem.put Tbl.get
  split
  · rename_i hb; rw [Tbl.get?_erase_same]; simp [hb]
  · rw [Tbl.get?_set_same]; rfl

/-- A byte written leaves every other alone. -/
theorem Mem.get_put_other (m : List Host.Cell) (a c : Nat) (b : Byte) (h : c ≠ a) : Mem.get (Mem.put m a b) c = Mem.get m c := by
  unfold Mem.get Mem.put Tbl.get
  split
  · rw [Tbl.get?_erase_other m a c h]
  · rw [Tbl.get?_set_other m a c b h]

/-- A write leaves every byte outside it alone. -/
theorem Mem.get_write_other (m : List Host.Cell) (a v k c : Nat) (h : c < a ∨ a + k ≤ c) :
    Mem.get (Mem.write m a v k) c = Mem.get m c := by
  induction k generalizing m a v with
  | zero => rfl
  | succ k ih =>
    simp only [Mem.write]
    rw [ih _ _ _ (by omega), Mem.get_put_other _ _ _ _ (by omega)]

/-- A byte of a write is read back. -/
theorem Mem.get_write_same (m : List Host.Cell) (a v k i : Nat) (h : i < k) :
    Mem.get (Mem.write m a v k) (a + i) = BitVec.ofNat 8 (v >>> (8 * i)) := by
  induction k generalizing m a v i with
  | zero => omega
  | succ k ih =>
    simp only [Mem.write]
    cases i with
    | zero => rw [Mem.get_write_other _ _ _ _ _ (by omega)]; simp [Mem.get_put_same]
    | succ i =>
      have e : a + (i + 1) = (a + 1) + i := by omega
      rw [e, ih _ _ _ i (by omega), ← Nat.shiftRight_add]
      congr 2; ring

end Sys2Proof.Machine
end

