-- ==== Sys2Proof/Laws/Ops.lean ====
section
/-! SUPPORT. What the shared operations can do, once each: the accessors, the checks before a body, the end of an instruction, the
taking of a trap, a move of another agent. -/

namespace Sys2Proof.Machine
open Sys2Proof

/-! Accessors. -/

@[simp] theorem getSlot_putSlot_same (s : State) (n : Nat) (x : Slot) : (s.putSlot n x).getSlot n = x :=
  Tbl.get_set_same s.slots n x Slot.reset
theorem getSlot_putSlot_other (s : State) (n m : Nat) (x : Slot) (h : m ≠ n) : (s.putSlot n x).getSlot m = s.getSlot m :=
  Tbl.get_set_other s.slots n m x Slot.reset h
@[simp] theorem getSlot_modSlot_same (s : State) (n : Nat) (g : Slot → Slot) : (s.modSlot n g).getSlot n = g (s.getSlot n) :=
  getSlot_putSlot_same s n _
theorem getSlot_modSlot_other (s : State) (n m : Nat) (g : Slot → Slot) (h : m ≠ n) : (s.modSlot n g).getSlot m = s.getSlot m :=
  getSlot_putSlot_other s n m _ h
@[simp] theorem core_setCore_same (s : State) (n : Nat) (x : Core) : (s.setCore n x).core n = x :=
  Tbl.get_set_same s.cores n x Core.reset
theorem core_setCore_other (s : State) (n m : Nat) (x : Core) (h : m ≠ n) : (s.setCore n x).core m = s.core m :=
  Tbl.get_set_other s.cores n m x Core.reset h
@[simp] theorem tile_setTile_same (s : State) (n : Nat) (x : Tile) : (s.setTile n x).tile n = x :=
  Tbl.get_set_same s.tiles n x Tile.reset
theorem tile_setTile_other (s : State) (n m : Nat) (x : Tile) (h : m ≠ n) : (s.setTile n x).tile m = s.tile m :=
  Tbl.get_set_other s.tiles n m x Tile.reset h
@[simp] theorem cluster_setCluster_same (s : State) (n : Nat) (x : Cluster) : (s.setCluster n x).cluster n = x :=
  Tbl.get_set_same s.clusters n x Cluster.reset
theorem cluster_setCluster_other (s : State) (n m : Nat) (x : Cluster) (h : m ≠ n) : (s.setCluster n x).cluster m = s.cluster m :=
  Tbl.get_set_other s.clusters n m x Cluster.reset h
@[simp] theorem core_putSlot (s : State) (n m : Nat) (x : Slot) : (s.putSlot n x).core m = s.core m := rfl
@[simp] theorem tile_putSlot (s : State) (n m : Nat) (x : Slot) : (s.putSlot n x).tile m = s.tile m := rfl
@[simp] theorem core_modSlot (s : State) (n m : Nat) (g : Slot → Slot) : (s.modSlot n g).core m = s.core m := rfl
@[simp] theorem tile_modSlot (s : State) (n m : Nat) (g : Slot → Slot) : (s.modSlot n g).tile m = s.tile m := rfl

/-! Registers. -/

@[simp] theorem getS_zero (x : Slot) : x.getS 0 = 0 := rfl
@[simp] theorem setS_zero (x : Slot) (v : Word64) : x.setS 0 v = x := rfl
@[simp] theorem getP_zero (x : Slot) : x.getP 0 = true := rfl
@[simp] theorem setP_zero (x : Slot) (b : Bool) : x.setP 0 b = x := rfl
@[simp] theorem getM_zero (x : Slot) : x.getM 0 = BitVec.allOnes 64 := rfl
@[simp] theorem setM_zero (x : Slot) (v : Word64) : x.setM 0 v = x := rfl

/-- A register in range reads what was written to it, unless it is s0. -/
theorem getS_setS_same (x : Slot) (n : Nat) (v : Word64) (h0 : n ≠ 0) (h : n < 64) : (x.setS n v).getS n = v := by
  simp [Slot.getS, Slot.setS, h0, h]
/-- A write leaves the other registers alone. -/
theorem getS_setS_other (x : Slot) (n m : Nat) (v : Word64) (h : m ≠ n) : (x.setS n v).getS m = x.getS m := by
  unfold Slot.getS Slot.setS
  by_cases hm : m = 0
  · simp [hm]
  · by_cases hn : n = 0
    · simp [hn]
    · simp only [hm, hn, if_false]
      simp [Ne.symm h]

/-! An instruction. -/

/-- What must hold for an instruction to reach its body (R329 orders 1 to 6): power stands, its fields are admitted, the strand may run
it, its guard holds, and it is not a free-mode instruction in compact mode. -/
structure Reaches (i : Instr) (w : Ins) (sup free : Bool) (s : State) : Prop where
  power : s.power = true
  form : Forms.ok i = true
  guarded : Forms.guardOk w = true
  priv : (sup && !s.sup s.cur) = false
  guard : s.slot.guard w = true
  mode : (free && s.compact) = false

/-- An instruction that reaches its body ends as the body says. -/
theorem run_reaches {i : Instr} {w : Ins} {sup free : Bool} {s : State} (h : Reaches i w sup free s) (body : State → Res) :
    run i w sup free body s = finish w s (body s) := by
  simp [run, h.power, h.form, h.guarded, h.priv, h.guard, h.mode]

/-- Everything an instruction's checks and end can come to. -/
theorem run_next {i : Instr} {w : Ins} {sup free : Bool} {body : State → Res} {s t : State}
    (h : run i w sup free body s = .next t) :
    t = s.takeTrap .reserved 0 ∨ t = s.trapAt w .priv 0 ∨ t = s.advance w ∨ t = s.trapAt w .prot 0 ∨
      (Reaches i w sup free s ∧ finish w s (body s) = .next t) := by
  unfold run at h
  split at h
  · cases h
  · split at h
    · cases h; exact .inl rfl
    · split at h
      · cases h; exact .inr (.inl rfl)
      · split at h
        · cases h; exact .inr (.inr (.inl rfl))
        · split at h
          · cases h; exact .inr (.inr (.inr (.inl rfl)))
          · rename_i h1 h2 h3 h4 h5
            refine .inr (.inr (.inr (.inr ⟨⟨?_, ?_, ?_, ?_, ?_, ?_⟩, h⟩)))
            all_goals simp_all

/-- An instruction with reserved operand values traps RESERVED, or ends as any other. -/
theorem runValued_cases (i : Instr) (w : Ins) (sup free bad : Bool) (body : State → Res) (s : State) :
    runValued i w sup free bad body s = .next (s.takeTrap .reserved 0) ∨ runValued i w sup free bad body s = run i w sup free body s := by
  unfold runValued
  split
  · exact .inl rfl
  · exact .inr rfl

/-- A false guard makes an instruction a NOP, once its form and privilege are checked (R302). -/
theorem run_guard_false {i : Instr} {w : Ins} {sup free : Bool} {s : State} (body : State → Res) (hp : s.power = true)
    (hf : Forms.ok i = true) (hg : Forms.guardOk w = true) (hs : (sup && !s.sup s.cur) = false) (h : s.slot.guard w = false) :
    run i w sup free body s = .next (s.advance w) := by
  simp [run, hp, hf, hg, hs, h]

/-- Everything the end of an instruction can come to. -/
theorem finish_next {w : Ins} {s0 : State} {r : Res} {t : State} (h : finish w s0 r = .next t) :
    (∃ s, r = .ok s ∧ t = s.advance w) ∨ (∃ s pc, r = .jump s pc ∧ t = s.moveTo w pc true) ∨
      (∃ s pc, r = .back s pc ∧ t = s.moveTo w pc false) ∨ (∃ k info, r = .trap k info ∧ t = s0.trapAt w k info) ∨
      (r = .hold t) ∨ (r = .done t) := by
  cases r <;> simp_all [finish]

/-- A move of another agent, while power stands, is its effect. -/
theorem event_power (s : State) (f : State → State) (h : s.power = true) : event s f = .next (f s) := by simp [event, h]

/-- Everything such a move can do. -/
theorem event_next {s t : State} {f : State → State} (h : event s f = .next t) : s.power = true ∧ t = f s := by
  unfold event at h
  split at h
  · cases h
  · rename_i hp; cases h; exact ⟨by simpa using hp, rfl⟩

/-- A flit's header and the bytes behind it are the flit (R32). -/
theorem flit_head_rest (b : List Byte) : b.take 8 ++ b.drop 8 = b := List.take_append_drop 8 b
/-- A flit's header, payload and CRC are the flit (R32). -/
theorem flit_parts (b : List Byte) : b.take 8 ++ (b.drop 8).take 128 ++ b.drop 136 = b := by
  rw [List.append_assoc, show b.drop 136 = (b.drop 8).drop 128 by simp, List.take_append_drop, List.take_append_drop]

/-! The end of an instruction, and the taking of a trap. -/

/-- What the move past an instruction leaves of its slot (R147, R182). -/
theorem slot_moveTo (s : State) (w : Ins) (pc : Word64) (taken : Bool) :
    (s.moveTo w pc taken).getSlot s.cur = { s.slot.hint w s.compact (s.nextTurn s.cur w.st.toNat taken) with
      pc := pc, wait := .none, park := none, served := [], reply := none, making := none, skip := taken && s.compact } := by
  unfold State.moveTo; rw [getSlot_modSlot_same]; rfl

/-- Where an instruction that completes leaves the pc. -/
theorem pc_advance (s : State) (w : Ins) : ((s.advance w).getSlot s.cur).pc = s.slot.pc + 12 := by
  unfold State.advance; rw [slot_moveTo]

/-- Where no handler stands the strand is gone, and no hint is left to act. -/
theorem trapAt_gone (s : State) (w : Ins) (t : Trap) (info : Nat) (h : s.slot.tvec = 0) : s.trapAt w t info = s.takeTrap t info := by
  simp [State.trapAt, h]

/-- A trap with a handler (R440): the saved registers, the new status, the handler's address. -/
theorem slot_enterTrap (s : State) (n : Nat) (k : Trap) (info : Nat) (async : Bool) (ret : Word64)
    (h : (s.getSlot n).tvec ≠ 0) (hs : (bit (s.getSlot n).status 2 && async) = false) :
    let x := s.getSlot n
    let y := (s.enterTrap n k info async ret).getSlot n
    y.pc = x.tvec ∧ y.epc = ret &&& 0xFFFFFFFFFFFF ∧ y.cause = causeOf x.cause k info async ∧
      y.status = BitVec.ofNat 64 (4 + (s.sup n).toNat * 2 + 1) ∧ y.wait = .none ∧ y.park = none := by
  simp only [State.enterTrap, if_neg h, hs, getSlot_putSlot_same]
  simp

end Sys2Proof.Machine
end

