-- ==== Sys2Proof/Laws/PerInstr.lean ====
section
/-! SUPPORT. Facts about instructions as syntax, one lemma a constructor. -/

namespace Sys2Proof.Laws
open Sys2Proof Sys2Proof.Machine

/-- The opcode map takes the instruction's own opcode back to its constructor, with the fields that the word carries (R321). -/
def Encoding.Statement (i : Instr) : Prop :=
  ∀ o w, i.opcode = some o → Forms.fieldsOf i = some w → (opcodeInstr o.toNat).map (fun f => f w) = some i

theorem Encoding.add (w : Ins) : Encoding.Statement (.add w) := by
  intro o v h k; cases h; cases k; rfl
theorem Encoding.sub (w : Ins) : Encoding.Statement (.sub w) := by
  intro o v h k; cases h; cases k; rfl
theorem Encoding.mul (w : Ins) : Encoding.Statement (.mul w) := by
  intro o v h k; cases h; cases k; rfl
theorem Encoding.mulh (w : Ins) : Encoding.Statement (.mulh w) := by
  intro o v h k; cases h; cases k; rfl
theorem Encoding.div (w : Ins) : Encoding.Statement (.div w) := by
  intro o v h k; cases h; cases k; rfl
theorem Encoding.rem (w : Ins) : Encoding.Statement (.rem w) := by
  intro o v h k; cases h; cases k; rfl
theorem Encoding.and (w : Ins) : Encoding.Statement (.and w) := by
  intro o v h k; cases h; cases k; rfl
theorem Encoding.or (w : Ins) : Encoding.Statement (.or w) := by
  intro o v h k; cases h; cases k; rfl
theorem Encoding.xor (w : Ins) : Encoding.Statement (.xor w) := by
  intro o v h k; cases h; cases k; rfl
theorem Encoding.andn (w : Ins) : Encoding.Statement (.andn w) := by
  intro o v h k; cases h; cases k; rfl
theorem Encoding.shl (w : Ins) : Encoding.Statement (.shl w) := by
  intro o v h k; cases h; cases k; rfl
theorem Encoding.shr (w : Ins) : Encoding.Statement (.shr w) := by
  intro o v h k; cases h; cases k; rfl
theorem Encoding.sar (w : Ins) : Encoding.Statement (.sar w) := by
  intro o v h k; cases h; cases k; rfl
theorem Encoding.rot (w : Ins) : Encoding.Statement (.rot w) := by
  intro o v h k; cases h; cases k; rfl
theorem Encoding.clz (w : Ins) : Encoding.Statement (.clz w) := by
  intro o v h k; cases h; cases k; rfl
theorem Encoding.ctz (w : Ins) : Encoding.Statement (.ctz w) := by
  intro o v h k; cases h; cases k; rfl
theorem Encoding.popc (w : Ins) : Encoding.Statement (.popc w) := by
  intro o v h k; cases h; cases k; rfl
theorem Encoding.min (w : Ins) : Encoding.Statement (.min w) := by
  intro o v h k; cases h; cases k; rfl
theorem Encoding.max (w : Ins) : Encoding.Statement (.max w) := by
  intro o v h k; cases h; cases k; rfl
theorem Encoding.abs (w : Ins) : Encoding.Statement (.abs w) := by
  intro o v h k; cases h; cases k; rfl
theorem Encoding.sel (w : Ins) : Encoding.Statement (.sel w) := by
  intro o v h k; cases h; cases k; rfl
theorem Encoding.cmp (w : Ins) : Encoding.Statement (.cmp w) := by
  intro o v h k; cases h; cases k; rfl
theorem Encoding.mov (w : Ins) : Encoding.Statement (.mov w) := by
  intro o v h k; cases h; cases k; rfl
theorem Encoding.bfx (w : Ins) : Encoding.Statement (.bfx w) := by
  intro o v h k; cases h; cases k; rfl
theorem Encoding.bfi (w : Ins) : Encoding.Statement (.bfi w) := by
  intro o v h k; cases h; cases k; rfl
theorem Encoding.madd (w : Ins) : Encoding.Statement (.madd w) := by
  intro o v h k; cases h; cases k; rfl
theorem Encoding.sext (w : Ins) : Encoding.Statement (.sext w) := by
  intro o v h k; cases h; cases k; rfl
theorem Encoding.zext (w : Ins) : Encoding.Statement (.zext w) := by
  intro o v h k; cases h; cases k; rfl
theorem Encoding.addImm (w : Ins) : Encoding.Statement (.addImm w) := by
  intro o v h k; cases h; cases k; rfl
theorem Encoding.subImm (w : Ins) : Encoding.Statement (.subImm w) := by
  intro o v h k; cases h; cases k; rfl
theorem Encoding.mulImm (w : Ins) : Encoding.Statement (.mulImm w) := by
  intro o v h k; cases h; cases k; rfl
theorem Encoding.mulhImm (w : Ins) : Encoding.Statement (.mulhImm w) := by
  intro o v h k; cases h; cases k; rfl
theorem Encoding.divImm (w : Ins) : Encoding.Statement (.divImm w) := by
  intro o v h k; cases h; cases k; rfl
theorem Encoding.remImm (w : Ins) : Encoding.Statement (.remImm w) := by
  intro o v h k; cases h; cases k; rfl
theorem Encoding.andImm (w : Ins) : Encoding.Statement (.andImm w) := by
  intro o v h k; cases h; cases k; rfl
theorem Encoding.orImm (w : Ins) : Encoding.Statement (.orImm w) := by
  intro o v h k; cases h; cases k; rfl
theorem Encoding.xorImm (w : Ins) : Encoding.Statement (.xorImm w) := by
  intro o v h k; cases h; cases k; rfl
theorem Encoding.andnImm (w : Ins) : Encoding.Statement (.andnImm w) := by
  intro o v h k; cases h; cases k; rfl
theorem Encoding.shlImm (w : Ins) : Encoding.Statement (.shlImm w) := by
  intro o v h k; cases h; cases k; rfl
theorem Encoding.shrImm (w : Ins) : Encoding.Statement (.shrImm w) := by
  intro o v h k; cases h; cases k; rfl
theorem Encoding.sarImm (w : Ins) : Encoding.Statement (.sarImm w) := by
  intro o v h k; cases h; cases k; rfl
theorem Encoding.rotImm (w : Ins) : Encoding.Statement (.rotImm w) := by
  intro o v h k; cases h; cases k; rfl
theorem Encoding.minImm (w : Ins) : Encoding.Statement (.minImm w) := by
  intro o v h k; cases h; cases k; rfl
theorem Encoding.maxImm (w : Ins) : Encoding.Statement (.maxImm w) := by
  intro o v h k; cases h; cases k; rfl
theorem Encoding.selImm (w : Ins) : Encoding.Statement (.selImm w) := by
  intro o v h k; cases h; cases k; rfl
theorem Encoding.cmpImm (w : Ins) : Encoding.Statement (.cmpImm w) := by
  intro o v h k; cases h; cases k; rfl
theorem Encoding.bfxImm (w : Ins) : Encoding.Statement (.bfxImm w) := by
  intro o v h k; cases h; cases k; rfl
theorem Encoding.bfiImm (w : Ins) : Encoding.Statement (.bfiImm w) := by
  intro o v h k; cases h; cases k; rfl
theorem Encoding.maddImm (w : Ins) : Encoding.Statement (.maddImm w) := by
  intro o v h k; cases h; cases k; rfl
theorem Encoding.sextImm (w : Ins) : Encoding.Statement (.sextImm w) := by
  intro o v h k; cases h; cases k; rfl
theorem Encoding.zextImm (w : Ins) : Encoding.Statement (.zextImm w) := by
  intro o v h k; cases h; cases k; rfl
theorem Encoding.li (w : Ins) : Encoding.Statement (.li w) := by
  intro o v h k; cases h; cases k; rfl
theorem Encoding.liw (w : Ins) : Encoding.Statement (.liw w) := by
  intro o v h k; cases h; cases k; rfl
theorem Encoding.fadd (w : Ins) : Encoding.Statement (.fadd w) := by
  intro o v h k; cases h; cases k; rfl
theorem Encoding.fsub (w : Ins) : Encoding.Statement (.fsub w) := by
  intro o v h k; cases h; cases k; rfl
theorem Encoding.fmul (w : Ins) : Encoding.Statement (.fmul w) := by
  intro o v h k; cases h; cases k; rfl
theorem Encoding.ffma (w : Ins) : Encoding.Statement (.ffma w) := by
  intro o v h k; cases h; cases k; rfl
theorem Encoding.fdiv (w : Ins) : Encoding.Statement (.fdiv w) := by
  intro o v h k; cases h; cases k; rfl
theorem Encoding.fsqrt (w : Ins) : Encoding.Statement (.fsqrt w) := by
  intro o v h k; cases h; cases k; rfl
theorem Encoding.fmin (w : Ins) : Encoding.Statement (.fmin w) := by
  intro o v h k; cases h; cases k; rfl
theorem Encoding.fmax (w : Ins) : Encoding.Statement (.fmax w) := by
  intro o v h k; cases h; cases k; rfl
theorem Encoding.fcmp (w : Ins) : Encoding.Statement (.fcmp w) := by
  intro o v h k; cases h; cases k; rfl
theorem Encoding.fcvt (w : Ins) : Encoding.Statement (.fcvt w) := by
  intro o v h k; cases h; cases k; rfl
theorem Encoding.fsgn (w : Ins) : Encoding.Statement (.fsgn w) := by
  intro o v h k; cases h; cases k; rfl
theorem Encoding.fclass (w : Ins) : Encoding.Statement (.fclass w) := by
  intro o v h k; cases h; cases k; rfl
theorem Encoding.br (w : Ins) : Encoding.Statement (.br w) := by
  intro o v h k; cases h; cases k; rfl
theorem Encoding.jmp (w : Ins) : Encoding.Statement (.jmp w) := by
  intro o v h k; cases h; cases k; rfl
theorem Encoding.call (w : Ins) : Encoding.Statement (.call w) := by
  intro o v h k; cases h; cases k; rfl
theorem Encoding.ret (w : Ins) : Encoding.Statement (.ret w) := by
  intro o v h k; cases h; cases k; rfl
theorem Encoding.brx (w : Ins) : Encoding.Statement (.brx w) := by
  intro o v h k; cases h; cases k; rfl
theorem Encoding.loop (w : Ins) : Encoding.Statement (.loop w) := by
  intro o v h k; cases h; cases k; rfl
theorem Encoding.endl (w : Ins) : Encoding.Statement (.endl w) := by
  intro o v h k; cases h; cases k; rfl
theorem Encoding.nop (w : Ins) : Encoding.Statement (.nop w) := by
  intro o v h k; cases h; cases k; rfl
theorem Encoding.pand (w : Ins) : Encoding.Statement (.pand w) := by
  intro o v h k; cases h; cases k; rfl
theorem Encoding.por (w : Ins) : Encoding.Statement (.por w) := by
  intro o v h k; cases h; cases k; rfl
theorem Encoding.pxor (w : Ins) : Encoding.Statement (.pxor w) := by
  intro o v h k; cases h; cases k; rfl
theorem Encoding.pnot (w : Ins) : Encoding.Statement (.pnot w) := by
  intro o v h k; cases h; cases k; rfl
theorem Encoding.pmov (w : Ins) : Encoding.Statement (.pmov w) := by
  intro o v h k; cases h; cases k; rfl
theorem Encoding.mand (w : Ins) : Encoding.Statement (.mand w) := by
  intro o v h k; cases h; cases k; rfl
theorem Encoding.mor (w : Ins) : Encoding.Statement (.mor w) := by
  intro o v h k; cases h; cases k; rfl
theorem Encoding.mxor (w : Ins) : Encoding.Statement (.mxor w) := by
  intro o v h k; cases h; cases k; rfl
theorem Encoding.mnot (w : Ins) : Encoding.Statement (.mnot w) := by
  intro o v h k; cases h; cases k; rfl
theorem Encoding.mpop (w : Ins) : Encoding.Statement (.mpop w) := by
  intro o v h k; cases h; cases k; rfl
theorem Encoding.mfirst (w : Ins) : Encoding.Statement (.mfirst w) := by
  intro o v h k; cases h; cases k; rfl
theorem Encoding.mtop (w : Ins) : Encoding.Statement (.mtop w) := by
  intro o v h k; cases h; cases k; rfl
theorem Encoding.ld (w : Ins) : Encoding.Statement (.ld w) := by
  intro o v h k; cases h; cases k; rfl
theorem Encoding.st (w : Ins) : Encoding.Statement (.st w) := by
  intro o v h k; cases h; cases k; rfl
theorem Encoding.ldw (w : Ins) : Encoding.Statement (.ldw w) := by
  intro o v h k; cases h; cases k; rfl
theorem Encoding.stw (w : Ins) : Encoding.Statement (.stw w) := by
  intro o v h k; cases h; cases k; rfl
theorem Encoding.pref (w : Ins) : Encoding.Statement (.pref w) := by
  intro o v h k; cases h; cases k; rfl
theorem Encoding.flushl (w : Ins) : Encoding.Statement (.flushl w) := by
  intro o v h k; cases h; cases k; rfl
theorem Encoding.aadd (w : Ins) : Encoding.Statement (.aadd w) := by
  intro o v h k; cases h; cases k; rfl
theorem Encoding.afadd (w : Ins) : Encoding.Statement (.afadd w) := by
  intro o v h k; cases h; cases k; rfl
theorem Encoding.amin (w : Ins) : Encoding.Statement (.amin w) := by
  intro o v h k; cases h; cases k; rfl
theorem Encoding.amax (w : Ins) : Encoding.Statement (.amax w) := by
  intro o v h k; cases h; cases k; rfl
theorem Encoding.aamax (w : Ins) : Encoding.Statement (.aamax w) := by
  intro o v h k; cases h; cases k; rfl
theorem Encoding.aand (w : Ins) : Encoding.Statement (.aand w) := by
  intro o v h k; cases h; cases k; rfl
theorem Encoding.aor (w : Ins) : Encoding.Statement (.aor w) := by
  intro o v h k; cases h; cases k; rfl
theorem Encoding.axor (w : Ins) : Encoding.Statement (.axor w) := by
  intro o v h k; cases h; cases k; rfl
theorem Encoding.aswp (w : Ins) : Encoding.Statement (.aswp w) := by
  intro o v h k; cases h; cases k; rfl
theorem Encoding.acas (w : Ins) : Encoding.Statement (.acas w) := by
  intro o v h k; cases h; cases k; rfl
theorem Encoding.fence (w : Ins) : Encoding.Statement (.fence w) := by
  intro o v h k; cases h; cases k; rfl
theorem Encoding.fenceRange (w : Ins) : Encoding.Statement (.fenceRange w) := by
  intro o v h k; cases h; cases k; rfl
theorem Encoding.spawn (w : Ins) : Encoding.Statement (.spawn w) := by
  intro o v h k; cases h; cases k; rfl
theorem Encoding.spawng (w : Ins) : Encoding.Statement (.spawng w) := by
  intro o v h k; cases h; cases k; rfl
theorem Encoding.suspend (w : Ins) : Encoding.Statement (.suspend w) := by
  intro o v h k; cases h; cases k; rfl
theorem Encoding.yield (w : Ins) : Encoding.Statement (.yield w) := by
  intro o v h k; cases h; cases k; rfl
theorem Encoding.join (w : Ins) : Encoding.Statement (.join w) := by
  intro o v h k; cases h; cases k; rfl
theorem Encoding.exit (w : Ins) : Encoding.Statement (.exit w) := by
  intro o v h k; cases h; cases k; rfl
theorem Encoding.waitw (w : Ins) : Encoding.Statement (.waitw w) := by
  intro o v h k; cases h; cases k; rfl
theorem Encoding.signal (w : Ins) : Encoding.Statement (.signal w) := by
  intro o v h k; cases h; cases k; rfl
theorem Encoding.bar (w : Ins) : Encoding.Statement (.bar w) := by
  intro o v h k; cases h; cases k; rfl
theorem Encoding.bara (w : Ins) : Encoding.Statement (.bara w) := by
  intro o v h k; cases h; cases k; rfl
theorem Encoding.barw (w : Ins) : Encoding.Statement (.barw w) := by
  intro o v h k; cases h; cases k; rfl
theorem Encoding.send (w : Ins) : Encoding.Statement (.send w) := by
  intro o v h k; cases h; cases k; rfl
theorem Encoding.rpost (w : Ins) : Encoding.Statement (.rpost w) := by
  intro o v h k; cases h; cases k; rfl
theorem Encoding.rwait (w : Ins) : Encoding.Statement (.rwait w) := by
  intro o v h k; cases h; cases k; rfl
theorem Encoding.rprobe (w : Ins) : Encoding.Statement (.rprobe w) := by
  intro o v h k; cases h; cases k; rfl
theorem Encoding.csign (w : Ins) : Encoding.Statement (.csign w) := by
  intro o v h k; cases h; cases k; rfl
theorem Encoding.cdiss (w : Ins) : Encoding.Statement (.cdiss w) := by
  intro o v h k; cases h; cases k; rfl
theorem Encoding.xfer (w : Ins) : Encoding.Statement (.xfer w) := by
  intro o v h k; cases h; cases k; rfl
theorem Encoding.expect (w : Ins) : Encoding.Statement (.expect w) := by
  intro o v h k; cases h; cases k; rfl
theorem Encoding.sstep (w : Ins) : Encoding.Statement (.sstep w) := by
  intro o v h k; cases h; cases k; rfl
theorem Encoding.lfwd (w : Ins) : Encoding.Statement (.lfwd w) := by
  intro o v h k; cases h; cases k; rfl
theorem Encoding.vadd (w : Ins) : Encoding.Statement (.vadd w) := by
  intro o v h k; cases h; cases k; rfl
theorem Encoding.vsub (w : Ins) : Encoding.Statement (.vsub w) := by
  intro o v h k; cases h; cases k; rfl
theorem Encoding.vmul (w : Ins) : Encoding.Statement (.vmul w) := by
  intro o v h k; cases h; cases k; rfl
theorem Encoding.vfma (w : Ins) : Encoding.Statement (.vfma w) := by
  intro o v h k; cases h; cases k; rfl
theorem Encoding.vmin (w : Ins) : Encoding.Statement (.vmin w) := by
  intro o v h k; cases h; cases k; rfl
theorem Encoding.vmax (w : Ins) : Encoding.Statement (.vmax w) := by
  intro o v h k; cases h; cases k; rfl
theorem Encoding.vabs (w : Ins) : Encoding.Statement (.vabs w) := by
  intro o v h k; cases h; cases k; rfl
theorem Encoding.vneg (w : Ins) : Encoding.Statement (.vneg w) := by
  intro o v h k; cases h; cases k; rfl
theorem Encoding.vand (w : Ins) : Encoding.Statement (.vand w) := by
  intro o v h k; cases h; cases k; rfl
theorem Encoding.vor (w : Ins) : Encoding.Statement (.vor w) := by
  intro o v h k; cases h; cases k; rfl
theorem Encoding.vxor (w : Ins) : Encoding.Statement (.vxor w) := by
  intro o v h k; cases h; cases k; rfl
theorem Encoding.vshl (w : Ins) : Encoding.Statement (.vshl w) := by
  intro o v h k; cases h; cases k; rfl
theorem Encoding.vshr (w : Ins) : Encoding.Statement (.vshr w) := by
  intro o v h k; cases h; cases k; rfl
theorem Encoding.vsar (w : Ins) : Encoding.Statement (.vsar w) := by
  intro o v h k; cases h; cases k; rfl
theorem Encoding.vcmp (w : Ins) : Encoding.Statement (.vcmp w) := by
  intro o v h k; cases h; cases k; rfl
theorem Encoding.vsel (w : Ins) : Encoding.Statement (.vsel w) := by
  intro o v h k; cases h; cases k; rfl
theorem Encoding.vred (w : Ins) : Encoding.Statement (.vred w) := by
  intro o v h k; cases h; cases k; rfl
theorem Encoding.vscan (w : Ins) : Encoding.Statement (.vscan w) := by
  intro o v h k; cases h; cases k; rfl
theorem Encoding.vperm (w : Ins) : Encoding.Statement (.vperm w) := by
  intro o v h k; cases h; cases k; rfl
theorem Encoding.vslide (w : Ins) : Encoding.Statement (.vslide w) := by
  intro o v h k; cases h; cases k; rfl
theorem Encoding.vexp (w : Ins) : Encoding.Statement (.vexp w) := by
  intro o v h k; cases h; cases k; rfl
theorem Encoding.vrcp (w : Ins) : Encoding.Statement (.vrcp w) := by
  intro o v h k; cases h; cases k; rfl
theorem Encoding.vrsq (w : Ins) : Encoding.Statement (.vrsq w) := by
  intro o v h k; cases h; cases k; rfl
theorem Encoding.vlog (w : Ins) : Encoding.Statement (.vlog w) := by
  intro o v h k; cases h; cases k; rfl
theorem Encoding.vdot4 (w : Ins) : Encoding.Statement (.vdot4 w) := by
  intro o v h k; cases h; cases k; rfl
theorem Encoding.vext (w : Ins) : Encoding.Statement (.vext w) := by
  intro o v h k; cases h; cases k; rfl
theorem Encoding.vins (w : Ins) : Encoding.Statement (.vins w) := by
  intro o v h k; cases h; cases k; rfl
theorem Encoding.vamax (w : Ins) : Encoding.Statement (.vamax w) := by
  intro o v h k; cases h; cases k; rfl
theorem Encoding.vbcast (w : Ins) : Encoding.Statement (.vbcast w) := by
  intro o v h k; cases h; cases k; rfl
theorem Encoding.vcvt (w : Ins) : Encoding.Statement (.vcvt w) := by
  intro o v h k; cases h; cases k; rfl
theorem Encoding.vtag (w : Ins) : Encoding.Statement (.vtag w) := by
  intro o v h k; cases h; cases k; rfl
theorem Encoding.vgtag (w : Ins) : Encoding.Statement (.vgtag w) := by
  intro o v h k; cases h; cases k; rfl
theorem Encoding.vld (w : Ins) : Encoding.Statement (.vld w) := by
  intro o v h k; cases h; cases k; rfl
theorem Encoding.vst (w : Ins) : Encoding.Statement (.vst w) := by
  intro o v h k; cases h; cases k; rfl
theorem Encoding.vlds (w : Ins) : Encoding.Statement (.vlds w) := by
  intro o v h k; cases h; cases k; rfl
theorem Encoding.vsts (w : Ins) : Encoding.Statement (.vsts w) := by
  intro o v h k; cases h; cases k; rfl
theorem Encoding.vgth (w : Ins) : Encoding.Statement (.vgth w) := by
  intro o v h k; cases h; cases k; rfl
theorem Encoding.vsct (w : Ins) : Encoding.Statement (.vsct w) := by
  intro o v h k; cases h; cases k; rfl
theorem Encoding.mldb (w : Ins) : Encoding.Statement (.mldb w) := by
  intro o v h k; cases h; cases k; rfl
theorem Encoding.mld (w : Ins) : Encoding.Statement (.mld w) := by
  intro o v h k; cases h; cases k; rfl
theorem Encoding.mst (w : Ins) : Encoding.Statement (.mst w) := by
  intro o v h k; cases h; cases k; rfl
theorem Encoding.mzero (w : Ins) : Encoding.Statement (.mzero w) := by
  intro o v h k; cases h; cases k; rfl
theorem Encoding.mmac (w : Ins) : Encoding.Statement (.mmac w) := by
  intro o v h k; cases h; cases k; rfl
theorem Encoding.mmacr (w : Ins) : Encoding.Statement (.mmacr w) := by
  intro o v h k; cases h; cases k; rfl
theorem Encoding.mcvt (w : Ins) : Encoding.Statement (.mcvt w) := by
  intro o v h k; cases h; cases k; rfl
theorem Encoding.mscale (w : Ins) : Encoding.Statement (.mscale w) := by
  intro o v h k; cases h; cases k; rfl
theorem Encoding.mtrans (w : Ins) : Encoding.Statement (.mtrans w) := by
  intro o v h k; cases h; cases k; rfl
theorem Encoding.seminc (w : Ins) : Encoding.Statement (.seminc w) := by
  intro o v h k; cases h; cases k; rfl
theorem Encoding.semwait (w : Ins) : Encoding.Statement (.semwait w) := by
  intro o v h k; cases h; cases k; rfl
theorem Encoding.copy (w : Ins) : Encoding.Statement (.copy w) := by
  intro o v h k; cases h; cases k; rfl
theorem Encoding.copy2d (w : Ins) : Encoding.Statement (.copy2d w) := by
  intro o v h k; cases h; cases k; rfl
theorem Encoding.gather (w : Ins) : Encoding.Statement (.gather w) := by
  intro o v h k; cases h; cases k; rfl
theorem Encoding.scatter (w : Ins) : Encoding.Statement (.scatter w) := by
  intro o v h k; cases h; cases k; rfl
theorem Encoding.stream (w : Ins) : Encoding.Statement (.stream w) := by
  intro o v h k; cases h; cases k; rfl
theorem Encoding.strend (w : Ins) : Encoding.Statement (.strend w) := by
  intro o v h k; cases h; cases k; rfl
theorem Encoding.routeDsp (w : Ins) : Encoding.Statement (.routeDsp w) := by
  intro o v h k; cases h; cases k; rfl
theorem Encoding.routeCmb (w : Ins) : Encoding.Statement (.routeCmb w) := by
  intro o v h k; cases h; cases k; rfl
theorem Encoding.routeStat (w : Ins) : Encoding.Statement (.routeStat w) := by
  intro o v h k; cases h; cases k; rfl
theorem Encoding.rld (w : Ins) : Encoding.Statement (.rld w) := by
  intro o v h k; cases h; cases k; rfl
theorem Encoding.rst (w : Ins) : Encoding.Statement (.rst w) := by
  intro o v h k; cases h; cases k; rfl
theorem Encoding.ratom (w : Ins) : Encoding.Statement (.ratom w) := by
  intro o v h k; cases h; cases k; rfl
theorem Encoding.rfence (w : Ins) : Encoding.Statement (.rfence w) := by
  intro o v h k; cases h; cases k; rfl
theorem Encoding.trap (w : Ins) : Encoding.Statement (.trap w) := by
  intro o v h k; cases h; cases k; rfl
theorem Encoding.eret (w : Ins) : Encoding.Statement (.eret w) := by
  intro o v h k; cases h; cases k; rfl
theorem Encoding.mfs (w : Ins) : Encoding.Statement (.mfs w) := by
  intro o v h k; cases h; cases k; rfl
theorem Encoding.mts (w : Ins) : Encoding.Statement (.mts w) := by
  intro o v h k; cases h; cases k; rfl
theorem Encoding.tlbwr (w : Ins) : Encoding.Statement (.tlbwr w) := by
  intro o v h k; cases h; cases k; rfl
theorem Encoding.tlbrd (w : Ins) : Encoding.Statement (.tlbrd w) := by
  intro o v h k; cases h; cases k; rfl
theorem Encoding.tlbinv (w : Ins) : Encoding.Statement (.tlbinv w) := by
  intro o v h k; cases h; cases k; rfl
theorem Encoding.mbxpost (w : Ins) : Encoding.Statement (.mbxpost w) := by
  intro o v h k; cases h; cases k; rfl
theorem Encoding.mbxwait (w : Ins) : Encoding.Statement (.mbxwait w) := by
  intro o v h k; cases h; cases k; rfl
theorem Encoding.gstop (w : Ins) : Encoding.Statement (.gstop w) := by
  intro o v h k; cases h; cases k; rfl
theorem Encoding.ctxsv (w : Ins) : Encoding.Statement (.ctxsv w) := by
  intro o v h k; cases h; cases k; rfl
theorem Encoding.ctxld (w : Ins) : Encoding.Statement (.ctxld w) := by
  intro o v h k; cases h; cases k; rfl
theorem Encoding.l2mode (w : Ins) : Encoding.Statement (.l2mode w) := by
  intro o v h k; cases h; cases k; rfl
theorem Encoding.halt (w : Ins) : Encoding.Statement (.halt w) := by
  intro o v h k; cases h; cases k; rfl
theorem Encoding.brk (w : Ins) : Encoding.Statement (.brk w) := by
  intro o v h k; cases h; cases k; rfl
theorem Encoding.pennant (w : Ins) : Encoding.Statement (.pennant w) := by
  intro o v h k; cases h; cases k; rfl
theorem Encoding.sense (w : Ins) : Encoding.Statement (.sense w) := by
  intro o v h k; cases h; cases k; rfl
theorem Encoding.time (w : Ins) : Encoding.Statement (.time w) := by
  intro o v h k; cases h; cases k; rfl
theorem Encoding.idle (w : Ins) : Encoding.Statement (.idle w) := by
  intro o v h k; cases h; cases k; rfl
theorem Encoding.asyncTrapTake (a : Nat) : Encoding.Statement (.asyncTrapTake a) := by
  intro o v h; cases h
theorem Encoding.idleWake (a : Nat) : Encoding.Statement (.idleWake a) := by
  intro o v h; cases h
theorem Encoding.debugResume (a : Word32) : Encoding.Statement (.debugResume a) := by
  intro o v h; cases h
theorem Encoding.coldReset : Encoding.Statement (.coldReset) := by
  intro o v h; cases h
theorem Encoding.standbyPowerGood : Encoding.Statement (.standbyPowerGood) := by
  intro o v h; cases h
theorem Encoding.functionReady (a : Func) : Encoding.Statement (.functionReady a) := by
  intro o v h; cases h
theorem Encoding.functionFailure (a : Func) : Encoding.Statement (.functionFailure a) := by
  intro o v h; cases h
theorem Encoding.temperatureSample (a : Nat) (b : BitVec 16) : Encoding.Statement (.temperatureSample a b) := by
  intro o v h; cases h
theorem Encoding.throttleStep (a : Nat) (b : Nat) : Encoding.Statement (.throttleStep a b) := by
  intro o v h; cases h
theorem Encoding.droopEvent (a : Nat) : Encoding.Statement (.droopEvent a) := by
  intro o v h; cases h
theorem Encoding.droopWindowClose : Encoding.Statement (.droopWindowClose) := by
  intro o v h; cases h
theorem Encoding.powerSampleUpdate (a : Nat) (b : BitVec 16) : Encoding.Statement (.powerSampleUpdate a b) := by
  intro o v h; cases h
theorem Encoding.reqLoad (a : Nat) (b : List Byte) : Encoding.Statement (.reqLoad a b) := by
  intro o v h; cases h
theorem Encoding.reqStore (a : Nat) (b : List Byte) : Encoding.Statement (.reqStore a b) := by
  intro o v h; cases h
theorem Encoding.reqAtomic (a : Nat) (b : List Byte) : Encoding.Statement (.reqAtomic a b) := by
  intro o v h; cases h
theorem Encoding.dataFlit (a : Nat) (b : List Byte) : Encoding.Statement (.dataFlit a b) := by
  intro o v h; cases h
theorem Encoding.respFlit (a : Nat) (b : List Byte) (c : List Byte) : Encoding.Statement (.respFlit a b c) := by
  intro o v h; cases h
theorem Encoding.markFlit (a : Nat) (b : List Byte) : Encoding.Statement (.markFlit a b) := by
  intro o v h; cases h
theorem Encoding.pennantFlit (a : Nat) (b : Nat) (c : Bool) (d : List Byte) : Encoding.Statement (.pennantFlit a b c d) := by
  intro o v h; cases h
theorem Encoding.linkAck (a : Nat) (b : List Byte) : Encoding.Statement (.linkAck a b) := by
  intro o v h; cases h
theorem Encoding.linkNak (a : Nat) (b : List Byte) : Encoding.Statement (.linkNak a b) := by
  intro o v h; cases h
theorem Encoding.stripeReq (a : Nat) (b : List Byte) : Encoding.Statement (.stripeReq a b) := by
  intro o v h; cases h
theorem Encoding.stripeAck (a : Nat) (b : List Byte) : Encoding.Statement (.stripeAck a b) := by
  intro o v h; cases h
theorem Encoding.bound (a : Nat) (b : List Byte) (c : List Byte) (d : List Byte) : Encoding.Statement (.bound a b c d) := by
  intro o v h; cases h
theorem Encoding.ackTimer (a : Nat) : Encoding.Statement (.ackTimer a) := by
  intro o v h; cases h
theorem Encoding.replayTimeout (a : Nat) : Encoding.Statement (.replayTimeout a) := by
  intro o v h; cases h
theorem Encoding.lossOfLight (a : Nat) (b : Bool) (c : Word64) (d : BitVec 4) : Encoding.Statement (.lossOfLight a b c d) := by
  intro o v h; cases h
theorem Encoding.lightDetect (a : Nat) : Encoding.Statement (.lightDetect a) := by
  intro o v h; cases h
theorem Encoding.trainComplete (a : Nat) (b : Word64 × Word64) (c : Nat) (d : Nat) : Encoding.Statement (.trainComplete a b c d) := by
  intro o v h; cases h
theorem Encoding.replayEnd (a : Nat × Bool) : Encoding.Statement (.replayEnd a) := by
  intro o v h; cases h
theorem Encoding.boundPublish (a : Nat) : Encoding.Statement (.boundPublish a) := by
  intro o v h; cases h
theorem Encoding.routeReconfigure (a : List RouteEntry) (b : List (Nat × Nat)) (c : BitVec 16) : Encoding.Statement (.routeReconfigure a b c) := by
  intro o v h; cases h
theorem Encoding.portDrainComplete (a : Nat) : Encoding.Statement (.portDrainComplete a) := by
  intro o v h; cases h
theorem Encoding.switchGo (a : Nat) (b : Word32) : Encoding.Statement (.switchGo a b) := by
  intro o v h; cases h
theorem Encoding.drainComplete (a : Nat) : Encoding.Statement (.drainComplete a) := by
  intro o v h; cases h
theorem Encoding.unbindComplete (a : Nat) : Encoding.Statement (.unbindComplete a) := by
  intro o v h; cases h
theorem Encoding.retrainComplete (a : Nat) (b : Bool) : Encoding.Statement (.retrainComplete a b) := by
  intro o v h; cases h
theorem Encoding.loadComplete (a : Nat) : Encoding.Statement (.loadComplete a) := by
  intro o v h; cases h
theorem Encoding.bindComplete (a : Nat) : Encoding.Statement (.bindComplete a) := by
  intro o v h; cases h
theorem Encoding.serdesLinkFailure (a : Nat) : Encoding.Statement (.serdesLinkFailure a) := by
  intro o v h; cases h
theorem Encoding.serdesInboundRequest (a : Nat) (b : Nat × Nat) (c : BitVec 52) (d : Nat) (e : List Byte) : Encoding.Statement (.serdesInboundRequest a b c d e) := by
  intro o v h; cases h
theorem Encoding.compactPacketReceive (a : Nat) (b : Nat × Nat) (c : Word64 × Word64) (d : List Byte × Word64) : Encoding.Statement (.compactPacketReceive a b c d) := by
  intro o v h; cases h
theorem Encoding.rudRetransmit (a : Nat) (b : Nat) : Encoding.Statement (.rudRetransmit a b) := by
  intro o v h; cases h
theorem Encoding.hostBar2Read (a : BitVec 52) (b : Nat) : Encoding.Statement (.hostBar2Read a b) := by
  intro o v h; cases h
theorem Encoding.hostBar2Write (a : BitVec 52) (b : List Byte) : Encoding.Statement (.hostBar2Write a b) := by
  intro o v h; cases h
theorem Encoding.registerWrite (a : Nat) (b : Nat) (c : Word64) : Encoding.Statement (.registerWrite a b c) := by
  intro o v h; cases h
theorem Encoding.lptailWrite (a : Nat) (b : Word32) : Encoding.Statement (.lptailWrite a b) := by
  intro o v h; cases h
theorem Encoding.lpcfgWrite (a : Nat) (b : Word64) : Encoding.Statement (.lpcfgWrite a b) := by
  intro o v h; cases h
theorem Encoding.lpbndUpdate (a : Nat) : Encoding.Statement (.lpbndUpdate a) := by
  intro o v h; cases h
theorem Encoding.launchJoinIncrement (a : Nat) (b : Word32) : Encoding.Statement (.launchJoinIncrement a b) := by
  intro o v h; cases h
theorem Encoding.emptyLaunchComplete (a : Nat) : Encoding.Statement (.emptyLaunchComplete a) := by
  intro o v h; cases h
theorem Encoding.portEntryAged (a : Nat) (b : Word32) : Encoding.Statement (.portEntryAged a b) := by
  intro o v h; cases h
theorem Encoding.eqctlWrite (a : Word32) : Encoding.Statement (.eqctlWrite a) := by
  intro o v h; cases h
theorem Encoding.eqheadWrite (a : Word32) : Encoding.Statement (.eqheadWrite a) := by
  intro o v h; cases h
theorem Encoding.msixInterrupt : Encoding.Statement (.msixInterrupt) := by
  intro o v h; cases h
theorem Encoding.updateGo (a : Word32) : Encoding.Statement (.updateGo a) := by
  intro o v h; cases h
theorem Encoding.stageComplete : Encoding.Statement (.stageComplete) := by
  intro o v h; cases h
theorem Encoding.handoverPoint : Encoding.Statement (.handoverPoint) := by
  intro o v h; cases h
theorem Encoding.freezeComplete : Encoding.Statement (.freezeComplete) := by
  intro o v h; cases h
theorem Encoding.aliveReport (a : Bool) : Encoding.Statement (.aliveReport a) := by
  intro o v h; cases h
theorem Encoding.watchdogExpiry : Encoding.Statement (.watchdogExpiry) := by
  intro o v h; cases h
theorem Encoding.rollbackExpiry : Encoding.Statement (.rollbackExpiry) := by
  intro o v h; cases h
theorem Encoding.attestQuote : Encoding.Statement (.attestQuote) := by
  intro o v h; cases h
theorem Encoding.fatalError (a : BitVec 8) : Encoding.Statement (.fatalError a) := by
  intro o v h; cases h
theorem Encoding.dumpComplete (a : Bool) : Encoding.Statement (.dumpComplete a) := by
  intro o v h; cases h
theorem Encoding.strandPlace (a : Nat) : Encoding.Statement (.strandPlace a) := by
  intro o v h; cases h
theorem Encoding.quantumExpiry (a : Nat) : Encoding.Statement (.quantumExpiry a) := by
  intro o v h; cases h
theorem Encoding.preemptStop (a : Nat) : Encoding.Statement (.preemptStop a) := by
  intro o v h; cases h
theorem Encoding.gangAged (a : Nat) (b : BitVec 48) : Encoding.Statement (.gangAged a b) := by
  intro o v h; cases h
theorem Encoding.gangStopDrain (a : Nat) : Encoding.Statement (.gangStopDrain a) := by
  intro o v h; cases h
theorem Encoding.unitLoad (a : Nat) : Encoding.Statement (.unitLoad a) := by
  intro o v h; cases h
theorem Encoding.watchEvaluate (a : Nat) (b : Nat) : Encoding.Statement (.watchEvaluate a b) := by
  intro o v h; cases h
theorem Encoding.hangDetect (a : BitVec 16) : Encoding.Statement (.hangDetect a) := by
  intro o v h; cases h
theorem Encoding.engineStatusLand (a : Nat) : Encoding.Statement (.engineStatusLand a) := by
  intro o v h; cases h
theorem Encoding.roundInject (a : Bool) : Encoding.Statement (.roundInject a) := by
  intro o v h; cases h
theorem Encoding.d2dLinkFailure (a : Nat) : Encoding.Statement (.d2dLinkFailure a) := by
  intro o v h; cases h
theorem Encoding.dieSuspect (a : Nat) : Encoding.Statement (.dieSuspect a) := by
  intro o v h; cases h
theorem Encoding.dieTakeover (a : Nat) : Encoding.Statement (.dieTakeover a) := by
  intro o v h; cases h
theorem Encoding.vectorBind (a : Nat) : Encoding.Statement (.vectorBind a) := by
  intro o v h; cases h
theorem Encoding.mxOpStart (a : Nat) : Encoding.Statement (.mxOpStart a) := by
  intro o v h; cases h
theorem Encoding.semaphoreWaitComplete (a : Nat) (b : Nat) : Encoding.Statement (.semaphoreWaitComplete a b) := by
  intro o v h; cases h
theorem Encoding.engineCommandStart (a : Nat) (b : Nat) : Encoding.Statement (.engineCommandStart a b) := by
  intro o v h; cases h
theorem Encoding.streamReadahead (a : Nat) (b : Nat) : Encoding.Statement (.streamReadahead a b) := by
  intro o v h; cases h
theorem Encoding.faultRetry (a : Nat) (b : BitVec 4) : Encoding.Statement (.faultRetry a b) := by
  intro o v h; cases h
theorem Encoding.faultReply (a : Nat) (b : BitVec 4) (c : Word64) : Encoding.Statement (.faultReply a b c) := by
  intro o v h; cases h
theorem Encoding.messageArrive (a : Nat) : Encoding.Statement (.messageArrive a) := by
  intro o v h; cases h
theorem Encoding.ptInvalidate (a : Nat) (b : Nat) : Encoding.Statement (.ptInvalidate a b) := by
  intro o v h; cases h
theorem Encoding.ptInvalidateAck (a : Nat) (b : Nat) : Encoding.Statement (.ptInvalidateAck a b) := by
  intro o v h; cases h
theorem Encoding.ptStoreComplete (a : Nat) : Encoding.Statement (.ptStoreComplete a) := by
  intro o v h; cases h
theorem Encoding.tilePowerGate (a : Nat) : Encoding.Statement (.tilePowerGate a) := by
  intro o v h; cases h
theorem Encoding.superstepStart (a : BitVec 16) : Encoding.Statement (.superstepStart a) := by
  intro o v h; cases h
theorem Encoding.signingWaitExpiry (a : BitVec 16) : Encoding.Statement (.signingWaitExpiry a) := by
  intro o v h; cases h
theorem Encoding.holdAnnounce (a : BitVec 16) (b : Nat) : Encoding.Statement (.holdAnnounce a b) := by
  intro o v h; cases h
theorem Encoding.xferUnitLand (a : Nat) : Encoding.Statement (.xferUnitLand a) := by
  intro o v h; cases h
theorem Encoding.compactBarrierRelease (a : BitVec 16) : Encoding.Statement (.compactBarrierRelease a) := by
  intro o v h; cases h
theorem Encoding.transferDeadlineExpiry (a : BitVec 16) : Encoding.Statement (.transferDeadlineExpiry a) := by
  intro o v h; cases h
theorem Encoding.compactDissolve (a : BitVec 16) : Encoding.Statement (.compactDissolve a) := by
  intro o v h; cases h
theorem Encoding.rds (a : Nat) (b : Nat) : Encoding.Statement (.rds a b) := by
  intro o v h; cases h
theorem Encoding.rdx (a : Nat) (b : Nat) (c : Word64) : Encoding.Statement (.rdx a b c) := by
  intro o v h; cases h
theorem Encoding.upg (a : Nat) (b : Nat) (c : Word64) : Encoding.Statement (.upg a b c) := by
  intro o v h; cases h
theorem Encoding.wb (a : Nat) (b : Nat) : Encoding.Statement (.wb a b) := by
  intro o v h; cases h
theorem Encoding.cleanEvictionNotice (a : Nat) (b : Nat) : Encoding.Statement (.cleanEvictionNotice a b) := by
  intro o v h; cases h
theorem Encoding.probe (a : Nat) (b : Nat) (c : ProbeKind) (d : Bool) : Encoding.Statement (.probe a b c d) := by
  intro o v h; cases h
theorem Encoding.conflict (a : Nat) (b : Nat) : Encoding.Statement (.conflict a b) := by
  intro o v h; cases h
theorem Encoding.nack (a : Nat) (b : Nat) (c : Option (BitVec 16)) : Encoding.Statement (.nack a b c) := by
  intro o v h; cases h
theorem Encoding.ticketCall (a : Nat) : Encoding.Statement (.ticketCall a) := by
  intro o v h; cases h
theorem Encoding.fillReturn (a : Nat) (b : Nat) : Encoding.Statement (.fillReturn a b) := by
  intro o v h; cases h
theorem Encoding.wbDrain (a : Nat) : Encoding.Statement (.wbDrain a) := by
  intro o v h; cases h
theorem Encoding.leaseRenewal (a : Nat) (b : Nat) (c : Word64) : Encoding.Statement (.leaseRenewal a b c) := by
  intro o v h; cases h
theorem Encoding.ownershipRequest (a : Nat) (b : Nat) : Encoding.Statement (.ownershipRequest a b) := by
  intro o v h; cases h
theorem Encoding.mirrorUpdate (a : Nat) : Encoding.Statement (.mirrorUpdate a) := by
  intro o v h; cases h
theorem Encoding.lclockTick (a : Nat) : Encoding.Statement (.lclockTick a) := by
  intro o v h; cases h
theorem Encoding.msaAtomic (a : Nat) (b : Bool) : Encoding.Statement (.msaAtomic a b) := by
  intro o v h; cases h
theorem Encoding.scTicketIssue : Encoding.Statement (.scTicketIssue) := by
  intro o v h; cases h
theorem Encoding.wordNotInstruction (a : Reject) : Encoding.Statement (.wordNotInstruction a) := by
  intro o v h; cases h
theorem Encoding.writeLands (a : Nat) : Encoding.Statement (.writeLands a) := by
  intro o v h; cases h
theorem Encoding.coherenceReply (a : Nat) (b : Nat) : Encoding.Statement (.coherenceReply a b) := by
  intro o v h; cases h
theorem Encoding.serdesResponse (a : Nat) (b : Bool) : Encoding.Statement (.serdesResponse a b) := by
  intro o v h; cases h
theorem Encoding.registrationAcknowledged (a : Nat) : Encoding.Statement (.registrationAcknowledged a) := by
  intro o v h; cases h
theorem Encoding.modeSwitchComplete : Encoding.Statement (.modeSwitchComplete) := by
  intro o v h; cases h
theorem Encoding.powerLoss : Encoding.Statement (.powerLoss) := by
  intro o v h; cases h

end Sys2Proof.Laws
end

