-- ==== Sys2Proof/Laws/Runs.lean ====
section
/-! SUPPORT. Every strand instruction goes through the shared checks of `run`: what the whole-machine rules are proved from. -/

namespace Sys2Proof.Machine
open Sys2Proof

/-- The instructions whose checks demand supervisor state. -/
def asksSup : Instr → Bool
  | .eret _ | .tlbwr _ | .tlbrd _ | .tlbinv _ | .mbxpost _ | .mbxwait _ | .gstop _ | .ctxsv _ | .ctxld _ | .l2mode _ | .halt _
  | .pennant _ => true
  | .mfs w => sysReadPriv (num w.a)
  | .mts w => sysWritePriv (num w.d)
  | _ => false

/-- A strand's instruction is its body behind the checks of R329; TLBWR and TLBRD may trap RESERVED for an operand's value before. -/
theorem exec_runs (i : Instr) (w : Ins) (s : State) (h : Forms.fieldsOf i = some w) :
    (∃ free body, exec i s = run i w (asksSup i) free body s) ∨ exec i s = .next (s.takeTrap .reserved 0) := by
  cases i <;> simp only [Forms.fieldsOf, Option.some.injEq, reduceCtorEq] at h <;> subst h <;> simp only [exec, asksSup,
    execAdd, execSub, execMul, execMulh, execDiv, execRem, execAnd, execOr, execXor, execAndn, execShl, execShr, execSar, 
    execRot, execClz, execCtz, execPopc, execMin, execMax, execAbs, execSel, execCmp, execMov, execBfx, execBfi, execMadd, 
    execSext, execZext, execAddImm, execSubImm, execMulImm, execMulhImm, execDivImm, execRemImm, execAndImm, execOrImm, 
    execXorImm, execAndnImm, execShlImm, execShrImm, execSarImm, execRotImm, execMinImm, execMaxImm, execSelImm, execCmpImm, 
    execBfxImm, execBfiImm, execMaddImm, execSextImm, execZextImm, execLi, execLiw, execFadd, execFsub, execFmul, execFfma, 
    execFdiv, execFsqrt, execFmin, execFmax, execFcmp, execFcvt, execFsgn, execFclass, execBr, execJmp, execCall, execRet, 
    execBrx, execLoop, execEndl, execNop, execPand, execPor, execPxor, execPnot, execPmov, execMand, execMor, execMxor, 
    execMnot, execMpop, execMfirst, execMtop, execLd, execSt, execLdw, execStw, execPref, execFlushl, execAadd, execAfadd, 
    execAmin, execAmax, execAamax, execAand, execAor, execAxor, execAswp, execAcas, execFence, execFenceRange, execSpawn, 
    execSpawng, execSuspend, execYield, execJoin, execExit, execWaitw, execSignal, execBar, execBara, execBarw, execSend, 
    execRpost, execRwait, execRprobe, execCsign, execCdiss, execXfer, execExpect, execSstep, execLfwd, execVadd, execVsub, 
    execVmul, execVfma, execVmin, execVmax, execVabs, execVneg, execVand, execVor, execVxor, execVshl, execVshr, execVsar, 
    execVcmp, execVsel, execVred, execVscan, execVperm, execVslide, execVexp, execVrcp, execVrsq, execVlog, execVdot4, execVext, 
    execVins, execVamax, execVbcast, execVcvt, execVtag, execVgtag, execVld, execVst, execVlds, execVsts, execVgth, execVsct, 
    execMldb, execMld, execMst, execMzero, execMmac, execMmacr, execMcvt, execMscale, execMtrans, execSeminc, execSemwait, 
    execCopy, execCopy2d, execGather, execScatter, execStream, execStrend, execRouteDsp, execRouteCmb, execRouteStat, execRld, 
    execRst, execRatom, execRfence, execTrap, execEret, execMfs, execMts, execTlbwr, execTlbrd, execTlbinv, execMbxpost, 
    execMbxwait, execGstop, execCtxsv, execCtxld, execL2mode, execHalt, execBrk, execPennant, execSense, execTime, execIdle] <;>
    first
      | exact .inl ⟨_, _, rfl⟩
      | exact (runValued_cases _ _ _ _ _ _ _).elim .inr fun e => .inl ⟨_, _, e⟩

/-- An instruction that the map does not admit traps RESERVED (R327). -/
theorem exec_reserved (i : Instr) (w : Ins) (s : State) (h : Forms.fieldsOf i = some w) (hp : s.power = true)
    (hw : i.wellFormed = false) : exec i s = .next (s.takeTrap .reserved 0) := by
  obtain ⟨f, b, e⟩ | e := exec_runs i w s h
  swap
  · exact e
  have hb : (Forms.ok i && Forms.guardOk w) = false := by simpa [Instr.wellFormed, Forms.wellFormed, h] using hw
  rw [e]; simp only [run, hp, hb]; rfl

end Sys2Proof.Machine
end

