-- ==== Sys2Proof/Safety.lean ====
section
/-! DEFINITION. What counts as a safe step and a safe run: the part goes on, and memory and the tile stores keep their canonical form,
so that equal contents are equal data. The one stop a step has is the part without standby power (05 R108). -/

namespace Sys2Proof.Safety
open Sys2Proof Sys2Proof.Machine

/-- Memory and the tile stores are in canonical form: rising addresses, no entry equal to what an unlisted address reads as. -/
def canonical (s : State) : Bool := Memory.wf s.mem && Memory.wf s.ts

/-- An outcome that is a next state in canonical form. -/
def okOutcome : Host.Outcome State Fault Refusal → Bool
  | .next t => canonical t
  | .fault _ => false
  | .refused _ => false

/-- A step that goes on, to a state in canonical form. -/
def stepSafe (s : State) : Bool := okOutcome (step s)

/-- `k` steps from `s` that all go on in canonical form. -/
def runSafe : Nat → State → Bool
  | 0, s => canonical s
  | k + 1, s =>
    canonical s && match step s with
      | .next t => runSafe k t
      | .fault _ => false
      | .refused _ => false

end Sys2Proof.Safety
end

