-- ==== Sys2Proof/Tests/Slice0.lean ====
section
/-! SUPPORT. Tests: the checks of well-formedness, words that the specification prints, small cases whose results the specification or
a hand calculation gives, and for every obligation states and operands that meet the hypotheses of its clauses. -/

namespace Sys2Proof.Tests
open Sys2Proof Sys2Proof.Machine Sys2Proof.Claims
set_option Elab.async false

/-- A register field. -/
def r (c n : Nat) (m : Nat := 0) : Operand := .reg (BitVec.ofNat 4 c) (BitVec.ofNat 10 m) (BitVec.ofNat 8 n)
/-- The zero field. -/
def z : Operand := r 0 0
/-- An immediate. -/
def im (n : Nat) : Operand := .imm (BitVec.ofNat 22 n)
/-- An unguarded instruction word's fields. -/
def ins (d a b : Operand) : Ins :=
  { d := d, a := a, b := b, gn := false, gp := 0, st := 0, yd := false, ra := false, rb := false, eop := false }
/-- Slot 0 with a strand, and page 0 mapped for it. -/
def s0 : State := State.reset.withFetchWord 96 0
/-- That state with slot 0 changed. -/
def sw (f : Slot → Slot) : State := s0.modSlot 0 f
/-- The slot with s-register `k` set. -/
def sr (k v : Nat) (x : Slot) : Slot := x.setS k (BitVec.ofNat 64 v)
/-- The strand with supervisor state and a handler at 0x6000. -/
def sv (x : Slot) : Slot := { x with status := 1, tvec := 0x6000 }
/-- A memory operand. -/
def me (b o : Nat) : Operand := .mem (BitVec.ofNat 6 b) (BitVec.ofNat 16 o)
/-- A wide half. -/
def wi (n : Nat) : Operand := .wide (BitVec.ofNat 22 n)
/-- Does each word decode to the instruction beside it, and the instruction encode to the word? -/
def wordsOk (l : List (Nat × Instr)) : Bool :=
  l.all fun p => decodeWord (BitVec.ofNat 96 p.1) == .ok p.2 && encode p.2 == some (BitVec.ofNat 96 p.1)
/-- An instruction word's fields: ST, GP, GN, YD, RA, RB, EOP and the operands. -/
def ig (st gp gn yd ra rb eop : Nat) (d a b : Operand) : Ins :=
  { d := d, a := a, b := b, gn := gn == 1, gp := BitVec.ofNat 4 gp, st := BitVec.ofNat 4 st, yd := yd == 1, ra := ra == 1,
    rb := rb == 1, eop := eop == 1 }

/-- R296, R298, R321: words of group 0, composed field by field from the encoding tables. -/
theorem test_words_0_0 : wordsOk [
    (0x004000000507000006000015, .add (ig 0 0 0 0 0 0 0 (r 0 7 0x5) (r 0 6) (r 0 21))),
    (0x008a30000508000007000016, .sub (ig 1 5 0 1 0 0 0 (r 0 8 0x5) (r 0 7) (r 0 22))),
    (0x00d442000509000008000017, .mul (ig 2 10 0 0 0 0 1 (r 0 9 0x5) (r 0 8) (r 0 23))),
    (0x06be7200050a000009000018, .madd (ig 3 15 1 1 0 0 1 (r 0 10 0x5) (r 0 9) (r 0 24))),
    (0x02c88800050b00000a000019, .shl (ig 4 4 0 0 1 0 0 (r 0 11 0x5) (r 0 10) (r 0 25))),
    (0x0112b800020c00000b00001a, .mulh (ig 5 9 0 1 1 0 0 (r 0 12 0x2) (r 0 11) (r 0 26))),
    (0x017cca00020d00000c00001b, .div (ig 6 14 1 0 1 0 1 (r 0 13 0x2) (r 0 12) (r 0 27))),
    (0x0186fa00020e00000d00001c, .rem (ig 7 3 0 1 1 0 1 (r 0 14 0x2) (r 0 13) (r 0 28))),
    (0x01d10400020f00000e00001d, .and (ig 8 8 0 0 0 1 0 (r 0 15 0x2) (r 0 14) (r 0 29))),
    (0x023b3400021000000f00001e, .or (ig 9 13 1 1 0 1 0 (r 0 16 0x2) (r 0 15) (r 0 30))),
    (0x02454600021100001000001f, .xor (ig 10 2 0 0 0 1 1 (r 0 17 0x2) (r 0 16) (r 0 31))),
    (0x028f76000212000011000020, .andn (ig 11 7 0 1 0 1 1 (r 0 18 0x2) (r 0 17) (r 0 32))),
    (0x03398c000213000012000021, .shr (ig 12 12 1 0 1 1 0 (r 0 19 0x2) (r 0 18) (r 0 33))),
    (0x0343bc000214000013000022, .sar (ig 13 1 0 1 1 1 0 (r 0 20 0x2) (r 0 19) (r 0 34))),
    (0x038dce000215000014000023, .rot (ig 14 6 0 0 1 1 1 (r 0 21 0x2) (r 0 20) (r 0 35))),
    (0x04b7fe000216000015000024, .min (ig 15 11 1 1 1 1 1 (r 0 22 0x2) (r 0 21) (r 0 36)))] = true := by
  decide +kernel

/-- R296, R298, R321: words of group 0, composed field by field from the encoding tables. -/
theorem test_words_0_1 : wordsOk [
    (0x04c000000217000016000025, .max (ig 0 0 0 0 0 0 0 (r 0 23 0x2) (r 0 22) (r 0 37))),
    (0x03ca30000418000017000000, .clz (ig 1 5 0 1 0 0 0 (r 0 24 0x4) (r 0 23) z)),
    (0x043442000419000018000000, .ctz (ig 2 10 1 0 0 0 1 (r 0 25 0x4) (r 0 24) z)),
    (0x045e7200041a000019000000, .popc (ig 3 15 0 1 0 0 1 (r 0 26 0x4) (r 0 25) z)),
    (0x05088800013f00003e000000, .abs (ig 4 4 0 0 1 0 0 (r 0 63 0x1) (r 0 62) z)),
    (0x0572b8000001000a02000003, .sel (ig 5 9 1 1 1 0 0 (r 0 1) (r 0 2 0xa) (r 0 3))),
    (0x059cca040204000305000006, .cmp (ig 6 14 0 0 1 0 1 (r 1 4 0x2) (r 0 5 0x3) (r 0 6))),
    (0x05c6fa0c0003000009000000, .mov (ig 7 3 0 1 1 0 1 (r 3 3) (r 0 9) z)),
    (0x063104000201000002000003, .bfx (ig 8 8 1 0 0 1 0 (r 0 1 0x2) (r 0 2) (r 0 3))),
    (0x065b34000004000005000006, .bfi (ig 9 13 0 1 0 1 0 (r 0 4) (r 0 5) (r 0 6))),
    (0x06c546000007000008000009, .sext (ig 10 2 0 0 0 1 1 (r 0 7) (r 0 8) (r 0 9))),
    (0x072f7600000a00000b00000c, .zext (ig 11 7 1 1 0 1 1 (r 0 10) (r 0 11) (r 0 12)))] = true := by
  decide +kernel

/-- R296, R298, R321: words of group 1, composed field by field from the encoding tables. -/
theorem test_words_1_0 : wordsOk [
    (0x1040000005070000067fffff, .addImm (ig 0 0 0 0 0 0 0 (r 0 7 0x5) (r 0 6) (im 0x3fffff))),
    (0x108a300005080000077ffffe, .subImm (ig 1 5 0 1 0 0 0 (r 0 8 0x5) (r 0 7) (im 0x3ffffe))),
    (0x10d4420005090000087ffffd, .mulImm (ig 2 10 0 0 0 0 1 (r 0 9 0x5) (r 0 8) (im 0x3ffffd))),
    (0x16be7200050a0000097ffffc, .maddImm (ig 3 15 1 1 0 0 1 (r 0 10 0x5) (r 0 9) (im 0x3ffffc))),
    (0x12c88800050b00000a7ffffb, .shlImm (ig 4 4 0 0 1 0 0 (r 0 11 0x5) (r 0 10) (im 0x3ffffb))),
    (0x1112b800020c00000b400012, .mulhImm (ig 5 9 0 1 1 0 0 (r 0 12 0x2) (r 0 11) (im 18))),
    (0x117cca00020d00000c400015, .divImm (ig 6 14 1 0 1 0 1 (r 0 13 0x2) (r 0 12) (im 21))),
    (0x1186fa00020e00000d400018, .remImm (ig 7 3 0 1 1 0 1 (r 0 14 0x2) (r 0 13) (im 24))),
    (0x11d10400020f00000e40001b, .andImm (ig 8 8 0 0 0 1 0 (r 0 15 0x2) (r 0 14) (im 27))),
    (0x123b3400021000000f40001e, .orImm (ig 9 13 1 1 0 1 0 (r 0 16 0x2) (r 0 15) (im 30))),
    (0x124546000211000010400021, .xorImm (ig 10 2 0 0 0 1 1 (r 0 17 0x2) (r 0 16) (im 33))),
    (0x128f76000212000011400024, .andnImm (ig 11 7 0 1 0 1 1 (r 0 18 0x2) (r 0 17) (im 36))),
    (0x13398c000213000012400027, .shrImm (ig 12 12 1 0 1 1 0 (r 0 19 0x2) (r 0 18) (im 39))),
    (0x1343bc00021400001340002a, .sarImm (ig 13 1 0 1 1 1 0 (r 0 20 0x2) (r 0 19) (im 42))),
    (0x138dce00021500001440002d, .rotImm (ig 14 6 0 0 1 1 1 (r 0 21 0x2) (r 0 20) (im 45))),
    (0x14b7fe000216000015400030, .minImm (ig 15 11 1 1 1 1 1 (r 0 22 0x2) (r 0 21) (im 48)))] = true := by
  decide +kernel

/-- R296, R298, R321: words of group 1, composed field by field from the encoding tables. -/
theorem test_words_1_1 : wordsOk [
    (0x14c000000217000016400033, .maxImm (ig 0 0 0 0 0 0 0 (r 0 23 0x2) (r 0 22) (im 51))),
    (0x154a30000001000a02400007, .selImm (ig 1 5 0 1 0 0 0 (r 0 1) (r 0 2 0xa) (im 7))),
    (0x15b4420402040003057ffff7, .cmpImm (ig 2 10 1 0 0 0 1 (r 1 4 0x2) (r 0 5 0x3) (im 0x3ffff7))),
    (0x161e72000201000002400310, .bfxImm (ig 3 15 0 1 0 0 1 (r 0 1 0x2) (r 0 2) (im 0x310))),
    (0x164888000004000005400408, .bfiImm (ig 4 4 0 0 1 0 0 (r 0 4) (r 0 5) (im 0x408))),
    (0x16f2b8000007000008400005, .sextImm (ig 5 9 1 1 1 0 0 (r 0 7) (r 0 8) (im 5))),
    (0x171cca00000a00000b400006, .zextImm (ig 6 14 0 0 1 0 1 (r 0 10) (r 0 11) (im 6))),
    (0x1746fa00000d7ffffe000000, .li (ig 7 3 0 1 1 0 1 (r 0 13) (im 0x3ffffe) z)),
    (0x17b10400000ed55555eaaaaa, .liw (ig 8 8 1 0 0 1 0 (r 0 14) (wi 0x155555) (wi 0x2aaaaa)))] = true := by
  decide +kernel

/-- R296, R298, R321: words of group 2, composed field by field from the encoding tables. -/
theorem test_words_2 : wordsOk [
    (0x20400000000100000b000015, .fadd (ig 0 0 0 0 0 0 0 (r 0 1) (r 0 11) (r 0 21))),
    (0x208a3000200200000c000016, .fsub (ig 1 5 0 1 0 0 0 (r 0 2 0x20) (r 0 12) (r 0 22))),
    (0x20d44200400300000d000017, .fmul (ig 2 10 0 0 0 0 1 (r 0 3 0x40) (r 0 13) (r 0 23))),
    (0x213e7200000400000e000018, .ffma (ig 3 15 1 1 0 0 1 (r 0 4) (r 0 14) (r 0 24))),
    (0x21488800200500000f000019, .fdiv (ig 4 4 0 0 1 0 0 (r 0 5 0x20) (r 0 15) (r 0 25))),
    (0x21d2b800400600001000001a, .fmin (ig 5 9 0 1 1 0 0 (r 0 6 0x40) (r 0 16) (r 0 26))),
    (0x223cca00000700001100001b, .fmax (ig 6 14 1 0 1 0 1 (r 0 7) (r 0 17) (r 0 27))),
    (0x2186fa000003000004000000, .fsqrt (ig 7 3 0 1 1 0 1 (r 0 3) (r 0 4) z)),
    (0x231104002005000006000000, .fclass (ig 8 8 0 0 0 1 0 (r 0 5 0x20) (r 0 6) z)),
    (0x227b34044507000008000009, .fcmp (ig 9 13 1 1 0 1 0 (r 1 7 0x45) (r 0 8) (r 0 9))),
    (0x22c546000201000002000003, .fsgn (ig 10 2 0 0 0 1 1 (r 0 1 0x2) (r 0 2) (r 0 3))),
    (0x228f76006401000002000000, .fcvt (ig 11 7 0 1 0 1 1 (r 0 1 0x64) (r 0 2) z))] = true := by
  decide +kernel

/-- R296, R298, R321: words of group 3, composed field by field from the encoding tables. -/
theorem test_words_3 : wordsOk [
    (0x3040000000007ffffc000000, .br (ig 0 0 0 0 0 0 0 z (im 0x3ffffc) z)),
    (0x308a30000000c00001c00020, .jmp (ig 1 5 0 1 0 0 0 z (wi 0x1) (wi 0x20))),
    (0x30d44200001f400040000000, .call (ig 2 10 0 0 0 0 1 (r 0 31) (im 64) z)),
    (0x313e7200000000001f000000, .ret (ig 3 15 1 1 0 0 1 z (r 0 31) z)),
    (0x314888000000000005400009, .brx (ig 4 4 0 0 1 0 0 z (r 0 5) (im 9))),
    (0x3192b800000000000640000c, .loop (ig 5 9 0 1 1 0 0 z (r 0 6) (im 12))),
    (0x31fcca000000000000000000, .endl (ig 6 14 1 0 1 0 1 z z z)),
    (0x3206fa000000000000000000, .nop (ig 7 3 0 1 1 0 1 z z z))] = true := by
  decide +kernel

/-- R296, R298, R321: words of group 4, composed field by field from the encoding tables. -/
theorem test_words_4 : wordsOk [
    (0x40400004000104000e04000f, .pand (ig 0 0 0 0 0 0 0 (r 1 1) (r 1 14) (r 1 15))),
    (0x408a3004000204000e04000e, .por (ig 1 5 0 1 0 0 0 (r 1 2) (r 1 14) (r 1 14))),
    (0x40d44204000304000e04000d, .pxor (ig 2 10 0 0 0 0 1 (r 1 3) (r 1 14) (r 1 13))),
    (0x413e7204000904000a000000, .pnot (ig 3 15 1 1 0 0 1 (r 1 9) (r 1 10) z)),
    (0x41488804000b400001000000, .pmov (ig 4 4 0 0 1 0 0 (r 1 11) (im 1) z)),
    (0x4192b80c00010c00020c0003, .mand (ig 5 9 0 1 1 0 0 (r 3 1) (r 3 2) (r 3 3))),
    (0x41fcca0c00020c00020c0002, .mor (ig 6 14 1 0 1 0 1 (r 3 2) (r 3 2) (r 3 2))),
    (0x4206fa0c00030c00020c0001, .mxor (ig 7 3 0 1 1 0 1 (r 3 3) (r 3 2) (r 3 1))),
    (0x4251040c00030c0001000000, .mnot (ig 8 8 0 0 0 1 0 (r 3 3) (r 3 1) z)),
    (0x42bb340000280c0002000000, .mpop (ig 9 13 1 1 0 1 0 (r 0 40) (r 3 2) z)),
    (0x42c5460000290c0003000000, .mfirst (ig 10 2 0 0 0 1 1 (r 0 41) (r 3 3) z)),
    (0x430f7604020c0c0001000000, .mtop (ig 11 7 0 1 0 1 1 (r 1 12 0x2) (r 3 1) z))] = true := by
  decide +kernel

/-- R296, R298, R321: words of group 5, composed field by field from the encoding tables. -/
theorem test_words_5 : wordsOk [
    (0x50400001810586fff8000000, .ld (ig 0 0 0 0 0 0 0 (r 0 5 0x181) (me 6 0xfff8) z)),
    (0x508a30870010010008000000, .st (ig 1 5 0 1 0 0 0 (me 7 16) (r 0 8 0x100) z)),
    (0x50d4420200098a0040000000, .ldw (ig 2 10 0 0 0 0 1 (r 0 9 0x200) (me 10 64) z)),
    (0x513e728b000800800c000000, .stw (ig 3 15 1 1 0 0 1 (me 11 8) (r 0 12 0x80) z)),
    (0x514888000000830040000000, .pref (ig 4 4 0 0 1 0 0 z (me 3 64) z)),
    (0x5192b8000100840080000000, .flushl (ig 5 9 0 1 1 0 0 (r 0 0 0x1) (me 4 0x80) z))] = true := by
  decide +kernel

/-- R296, R298, R321: words of group 6, composed field by field from the encoding tables. -/
theorem test_words_6 : wordsOk [
    (0x60400002200194000000001e, .aadd (ig 0 0 0 0 0 0 0 (r 0 1 0x220) (me 20 0) (r 0 30))),
    (0x618a3002340295000800001f, .aand (ig 1 5 0 1 0 0 0 (r 0 2 0x234) (me 21 8) (r 0 31))),
    (0x61d442024803960010000020, .aor (ig 2 10 0 0 0 0 1 (r 0 3 0x248) (me 22 16) (r 0 32))),
    (0x623e72025c04970018000021, .axor (ig 3 15 1 1 0 0 1 (r 0 4 0x25c) (me 23 24) (r 0 33))),
    (0x624888026005980020000022, .aswp (ig 4 4 0 0 1 0 0 (r 0 5 0x260) (me 24 32) (r 0 34))),
    (0x6292b8027406990028000023, .acas (ig 5 9 0 1 1 0 0 (r 0 6 0x274) (me 25 40) (r 0 35))),
    (0x60bcca01e00889000400000a, .afadd (ig 6 14 1 0 1 0 1 (r 0 8 0x1e0) (me 9 4) (r 0 10))),
    (0x6146fa01f40889000400000a, .aamax (ig 7 3 0 1 1 0 1 (r 0 8 0x1f4) (me 9 4) (r 0 10))),
    (0x60d10401a2088900047fffff, .amin (ig 8 8 0 0 0 1 0 (r 0 8 0x1a2) (me 9 4) (im 0x3fffff))),
    (0x613b34023e0889000800000a, .amax (ig 9 13 1 1 0 1 0 (r 0 8 0x23e) (me 9 8) (r 0 10))),
    (0x62c546006c00000000000000, .fence (ig 10 2 0 0 0 1 1 (r 0 0 0x6c) z z)),
    (0x630f76004800850000000006, .fenceRange (ig 11 7 0 1 0 1 1 (r 0 0 0x48) (me 5 0) (r 0 6)))] = true := by
  decide +kernel

/-- R296, R298, R321: words of group 7, composed field by field from the encoding tables. -/
theorem test_words_7_0 : wordsOk [
    (0x704000003801820040000003, .spawn (ig 0 0 0 0 0 0 0 (r 0 1 0x38) (me 2 64) (r 0 3))),
    (0x708a30000004850040400005, .spawng (ig 1 5 0 1 0 0 0 (r 0 4) (me 5 64) (im 5))),
    (0x70d442000000000000000000, .suspend (ig 2 10 0 0 0 0 1 z z z)),
    (0x713e72000000000000000000, .yield (ig 3 15 1 1 0 0 1 z z z)),
    (0x714888000000870010000000, .join (ig 4 4 0 0 1 0 0 z (me 7 16) z)),
    (0x7192b8000000000000000000, .exit (ig 5 9 0 1 1 0 0 z z z)),
    (0x71fcca01e400880004000009, .waitw (ig 6 14 1 0 1 0 1 (r 0 0 0x1e4) (me 8 4) (r 0 9))),
    (0x7206fa00680a8b0040000000, .signal (ig 7 3 0 1 1 0 1 (r 0 10 0x68) (me 11 64) z)),
    (0x72510400300c40000100000d, .bar (ig 8 8 0 0 0 1 0 (r 0 12 0x30) (im 1) (r 0 13))),
    (0x72bb3400400e40000200000f, .bara (ig 9 13 1 1 0 1 0 (r 0 14 0x40) (im 2) (r 0 15))),
    (0x72c546005000400003000010, .barw (ig 10 2 0 0 0 1 1 (r 0 0 0x50) (im 3) (r 0 16))),
    (0x730f76000011000012000013, .send (ig 11 7 0 1 0 1 1 (r 0 17) (r 0 18) (r 0 19))),
    (0x73798c000014000015000000, .rpost (ig 12 12 1 0 1 1 0 (r 0 20) (r 0 21) z)),
    (0x7383bc007416000017000000, .rwait (ig 13 1 0 1 1 1 0 (r 0 22 0x74) (r 0 23) z)),
    (0x73cdce000018000019000000, .rprobe (ig 14 6 0 0 1 1 1 (r 0 24) (r 0 25) z)),
    (0x7437fe00001a9b0040000000, .csign (ig 15 11 1 1 1 1 1 (r 0 26) (me 27 64) z))] = true := by
  decide +kernel

/-- R296, R298, R321: words of group 7, composed field by field from the encoding tables. -/
theorem test_words_7_1 : wordsOk [
    (0x74400000001c00001d000000, .cdiss (ig 0 0 0 0 0 0 0 (r 0 28) (r 0 29) z)),
    (0x748a3000001e00001f000020, .xfer (ig 1 5 0 1 0 0 0 (r 0 30) (r 0 31) (r 0 32))),
    (0x74f442000000000021400004, .expect (ig 2 10 1 0 0 0 1 z (r 0 33) (im 4))),
    (0x751e72000000000000000000, .sstep (ig 3 15 0 1 0 0 1 z z z)),
    (0x754888000022140001000000, .lfwd (ig 4 4 0 0 1 0 0 (r 0 34) (r 5 1) z))] = true := by
  decide +kernel

/-- R296, R298, R321: words of group 8, composed field by field from the encoding tables. -/
theorem test_words_8 : wordsOk [
    (0x804000092101080105080009, .vadd (ig 0 0 0 0 0 0 0 (r 2 1 0x121) (r 2 5 0x1) (r 2 9))),
    (0x808a3009210208010608000a, .vsub (ig 1 5 0 1 0 0 0 (r 2 2 0x121) (r 2 6 0x1) (r 2 10))),
    (0x80d44209210308010708000b, .vmul (ig 2 10 0 0 0 0 1 (r 2 3 0x121) (r 2 7 0x1) (r 2 11))),
    (0x813e7209210408010808000c, .vfma (ig 3 15 1 1 0 0 1 (r 2 4 0x121) (r 2 8 0x1) (r 2 12))),
    (0x814888091001080605080009, .vmin (ig 4 4 0 0 1 0 0 (r 2 1 0x110) (r 2 5 0x6) (r 2 9))),
    (0x8192b809300208060608000a, .vmax (ig 5 9 0 1 1 0 0 (r 2 2 0x130) (r 2 6 0x6) (r 2 10))),
    (0x827cca09500308060708000b, .vand (ig 6 14 1 0 1 0 1 (r 2 3 0x150) (r 2 7 0x6) (r 2 11))),
    (0x8286fa09100408060808000c, .vor (ig 7 3 0 1 1 0 1 (r 2 4 0x110) (r 2 8 0x6) (r 2 12))),
    (0x82d10409300508060908000d, .vxor (ig 8 8 0 0 0 1 0 (r 2 5 0x130) (r 2 9 0x6) (r 2 13))),
    (0x81fb34080001080302000000, .vabs (ig 9 13 1 1 0 1 0 (r 2 1) (r 2 2 0x3) z)),
    (0x820546094103080004000000, .vneg (ig 10 2 0 0 0 1 1 (r 2 3 0x141) (r 2 4) z)),
    (0x830f76090001080002400003, .vshl (ig 11 7 0 1 0 1 1 (r 2 1 0x100) (r 2 2) (im 3))),
    (0x83798c09a001080002400003, .vshr (ig 12 12 1 0 1 1 0 (r 2 1 0x1a0) (r 2 2) (im 3))),
    (0x8383bc092001080002000003, .vsar (ig 13 1 0 1 1 1 0 (r 2 1 0x120) (r 2 2) (r 0 3))),
    (0x83cdce0d0201080002080003, .vcmp (ig 14 6 0 0 1 1 1 (r 3 1 0x102) (r 2 2) (r 2 3))),
    (0x8437fe080004080205080006, .vsel (ig 15 11 1 1 1 1 1 (r 2 4) (r 2 5 0x2) (r 2 6)))] = true := by
  decide +kernel

/-- R296, R298, R321: words of group 9, composed field by field from the encoding tables. -/
theorem test_words_9 : wordsOk [
    (0x904000000201080102000000, .vred (ig 0 0 0 0 0 0 0 (r 0 1 0x2) (r 2 2 0x1) z)),
    (0x908a30090803080404000000, .vscan (ig 1 5 0 1 0 0 0 (r 2 3 0x108) (r 2 4 0x4) z)),
    (0x931442004005080006000000, .vamax (ig 2 10 0 0 0 0 1 (r 0 5 0x40) (r 2 6) z)),
    (0x90fe72080007080008080009, .vperm (ig 3 15 1 1 0 0 1 (r 2 7) (r 2 8) (r 2 9))),
    (0x91088808010a08000b400003, .vslide (ig 4 4 0 0 1 0 0 (r 2 10 0x1) (r 2 11) (im 3))),
    (0x9292b800000c08000d40003f, .vext (ig 5 9 0 1 1 0 0 (r 0 12) (r 2 13) (im 63))),
    (0x92fcca08000e00000f000010, .vins (ig 6 14 1 0 1 0 1 (r 2 14) (r 0 15) (r 0 16))),
    (0x9346fa082000000011000000, .vbcast (ig 7 3 0 1 1 0 1 (r 2 0 0x20) (r 0 17) z)),
    (0x915104080001080105000000, .vexp (ig 8 8 0 0 0 1 0 (r 2 1) (r 2 5 0x1) z)),
    (0x91bb34082002080106000000, .vrcp (ig 9 13 1 1 0 1 0 (r 2 2 0x20) (r 2 6 0x1) z)),
    (0x91c546084003080107000000, .vrsq (ig 10 2 0 0 0 1 1 (r 2 3 0x40) (r 2 7 0x1) z)),
    (0x920f76080004080108000000, .vlog (ig 11 7 0 1 0 1 1 (r 2 4) (r 2 8 0x1) z)),
    (0x92798c090101094002080003, .vdot4 (ig 12 12 1 0 1 1 0 (r 2 1 0x101) (r 2 2 0x140) (r 2 3)))] = true := by
  decide +kernel

/-- R296, R298, R321: words of group A, composed field by field from the encoding tables. -/
theorem test_words_A : wordsOk [
    (0xa04000080001082802000000, .vcvt (ig 0 0 0 0 0 0 0 (r 2 1) (r 2 2 0x28) z)),
    (0xa08a30090003000000000000, .vtag (ig 1 5 0 1 0 0 0 (r 2 3 0x100) z z)),
    (0xa0d442000004100001000000, .vgtag (ig 2 10 0 0 0 0 1 (r 0 4) (r 4 1) z)),
    (0xa13e72080005860100000000, .vld (ig 3 15 1 1 0 0 1 (r 2 5) (me 6 0x100) z)),
    (0xa14888870100082008000000, .vst (ig 4 4 0 0 1 0 0 (me 7 0x100) (r 2 8 0x20) z)),
    (0xa192b80800098a0000400008, .vlds (ig 5 9 0 1 1 0 0 (r 2 9) (me 10 0) (im 8))),
    (0xa1fcca8b000009000c00000d, .vsts (ig 6 14 1 0 1 0 1 (me 11 0) (r 2 12 0x100) (r 0 13))),
    (0xa206fa08000e8f0000080001, .vgth (ig 7 3 0 1 1 0 1 (r 2 14) (me 15 0) (r 2 1))),
    (0xa25104900000090002080003, .vsct (ig 8 8 0 0 0 1 0 (me 16 0) (r 2 2 0x100) (r 2 3)))] = true := by
  decide +kernel

/-- R296, R298, R321: words of group B, composed field by field from the encoding tables. -/
theorem test_words_B : wordsOk [
    (0xb04000004001004402000000, .mldb (ig 0 0 0 0 0 0 0 (r 0 1 0x40) (r 0 2 0x44) z)),
    (0xb08a30100000830000000000, .mld (ig 1 5 0 1 0 0 0 (r 4 0) (me 3 0) z)),
    (0xb0d442840000100001000000, .mst (ig 2 10 0 0 0 0 1 (me 4 0) (r 4 1) z)),
    (0xb13e72110000000000000000, .mzero (ig 3 15 1 1 0 0 1 (r 4 0 0x100) z z)),
    (0xb14888104101080002000005, .mmac (ig 4 4 0 0 1 0 0 (r 4 1 0x41) (r 2 2) (r 0 5))),
    (0xb192b8114000000006000007, .mmacr (ig 5 9 0 1 1 0 0 (r 4 0 0x140) (r 0 6) (r 0 7))),
    (0xb1fcca106001100000000000, .mcvt (ig 6 14 1 0 1 0 1 (r 4 1 0x60) (r 4 0) z)),
    (0xb206fa100000080008000000, .mscale (ig 7 3 0 1 1 0 1 (r 4 0) (r 2 8) z)),
    (0xb25104100001100000000000, .mtrans (ig 8 8 0 0 0 1 0 (r 4 1) (r 4 0) z)),
    (0xb2bb34000100400003000009, .seminc (ig 9 13 1 1 0 1 0 (r 0 0 0x1) (im 3) (r 0 9))),
    (0xb2c54600020040000400000a, .semwait (ig 10 2 0 0 0 1 1 (r 0 0 0x2) (im 4) (r 0 10)))] = true := by
  decide +kernel

/-- R296, R298, R321: words of group C, composed field by field from the encoding tables. -/
theorem test_words_C : wordsOk [
    (0xc04000006801000002000003, .copy (ig 0 0 0 0 0 0 0 (r 0 1 0x68) (r 0 2) (r 0 3))),
    (0xc08a30000104000005000006, .copy2d (ig 1 5 0 1 0 0 0 (r 0 4 0x1) (r 0 5) (r 0 6))),
    (0xc0d442002507000008890000, .gather (ig 2 10 0 0 0 0 1 (r 0 7 0x25) (r 0 8) (me 9 0))),
    (0xc13e7200020a00000b8c0000, .scatter (ig 3 15 1 1 0 0 1 (r 0 10 0x2) (r 0 11) (me 12 0))),
    (0xc1488800020d08000c8e0040, .stream (ig 4 4 0 0 1 0 0 (r 0 13 0x2) (r 2 12) (me 14 64))),
    (0xc192b800480f08000d000000, .strend (ig 5 9 0 1 1 0 0 (r 0 15 0x48) (r 2 13) z)),
    (0xc1fcca000010910040000000, .routeDsp (ig 6 14 1 0 1 0 1 (r 0 16) (me 17 64) z)),
    (0xc206fa000012930040000000, .routeCmb (ig 7 3 0 1 1 0 1 (r 0 18) (me 19 64) z)),
    (0xc25104000014950040000000, .routeStat (ig 8 8 0 0 0 1 0 (r 0 20) (me 21 64) z))] = true := by
  decide +kernel

/-- R296, R298, R321: words of group D, composed field by field from the encoding tables. -/
theorem test_words_D : wordsOk [
    (0xd0400001f502840008000000, .rld (ig 0 0 0 0 0 0 0 (r 0 2 0x1f5) (me 4 8) z)),
    (0xd08a30027a05860008000007, .rst (ig 1 5 0 1 0 0 0 (r 0 5 0x27a) (me 6 8) (r 0 7))),
    (0xd0d442027008890008000c0a, .ratom (ig 2 10 0 0 0 0 1 (r 0 8 0x270) (me 9 8) (r 0 10 0xc))),
    (0xd13e72007c00000000000000, .rfence (ig 3 15 1 1 0 0 1 (r 0 0 0x7c) z z))] = true := by
  decide +kernel

/-- R296, R298, R321: words of group E, composed field by field from the encoding tables. -/
theorem test_words_E_0 : wordsOk [
    (0xe04000000000400005000000, .trap (ig 0 0 0 0 0 0 0 z (im 5) z)),
    (0xe3ca30000000400006000000, .brk (ig 1 5 0 1 0 0 0 z (im 6) z)),
    (0xe09442000000000000000000, .eret (ig 2 10 0 0 0 0 1 z z z)),
    (0xe0fe72000001180012000000, .mfs (ig 3 15 1 1 0 0 1 (r 0 1) (r 6 18) z)),
    (0xe10888180003000002000000, .mts (ig 4 4 0 0 1 0 0 (r 6 3) (r 0 2) z)),
    (0xe152b800000300000440030f, .tlbwr (ig 5 9 0 1 1 0 0 (r 0 3) (r 0 4) (im 0x30f))),
    (0xe1bcca000005000006000007, .tlbrd (ig 6 14 1 0 1 0 1 (r 0 5) (r 0 6) (r 0 7))),
    (0xe1c6fa000208000009000000, .tlbinv (ig 7 3 0 1 1 0 1 (r 0 8 0x2) (r 0 9) z)),
    (0xe2110400000000000a00000b, .mbxpost (ig 8 8 0 0 0 1 0 z (r 0 10) (r 0 11))),
    (0xe27b3400010c000000000000, .mbxwait (ig 9 13 1 1 0 1 0 (r 0 12 0x1) z z)),
    (0xe2854600140d00000e000000, .gstop (ig 10 2 0 0 0 1 1 (r 0 13 0x14) (r 0 14) z)),
    (0xe2cf7600010000000f000000, .ctxsv (ig 11 7 0 1 0 1 1 (r 0 0 0x1) (r 0 15) z)),
    (0xe3398c000000000010000000, .ctxld (ig 12 12 1 0 1 1 0 z (r 0 16) z)),
    (0xe343bc000011400001000000, .l2mode (ig 13 1 0 1 1 1 0 (r 0 17) (im 1) z)),
    (0xe38dce000000000000000000, .halt (ig 14 6 0 0 1 1 1 z z z)),
    (0xe437fe001812000000000000, .pennant (ig 15 11 1 1 1 1 1 (r 0 18 0x18) z z))] = true := by
  decide +kernel

/-- R296, R298, R321: words of group E, composed field by field from the encoding tables. -/
theorem test_words_E_1 : wordsOk [
    (0xe44000000013400044000000, .sense (ig 0 0 0 0 0 0 0 (r 0 19) (im 68) z)),
    (0xe48a30000114000000000000, .time (ig 1 5 0 1 0 0 0 (r 0 20 0x1) z z)),
    (0xe4f442000000000000000000, .idle (ig 2 10 1 0 0 0 1 z z z))] = true := by
  decide +kernel


/-! Witnesses: instructions of groups 0 to 4, issue, traps. -/

theorem witness_IntegerArithmetic_wraps :
    let w := ins (r 0 1) (r 0 2) (r 0 3)
    wrapRow (.add w) = some (w, 1, fun _ a b _ => a + b) ∧ Issues (.add w) w s0 ∧ intSat (mods w.d) = false :=
  ⟨rfl, by decide +kernel, rfl⟩
theorem witness_IntegerArithmetic_exact :
    let w := ins (r 0 1) (r 0 2) (im 0)
    (∃ f, exactRow (.divImm w) = some (w, 20, f)) ∧ Issues (.divImm w) w s0 ∧ intSat (mods w.d) = false :=
  ⟨⟨_, rfl⟩, by decide +kernel, rfl⟩
theorem witness_IntegerArithmetic_saturates :
    let w := ins (r 0 1 1) (r 0 2) (r 0 3)
    (∃ f, satRow (.mul w) = some (w, 3, f)) ∧ Issues (.mul w) w s0 ∧ intSat (mods w.d) = true :=
  ⟨⟨_, rfl⟩, by decide +kernel, rfl⟩

theorem witness_BitFieldsAndSelects :
    let w := ins (r 0 1) (r 0 2) (r 0 3)
    let i := ins (r 0 1) (r 0 2) (im 64)
    Issues (.bfx w) w s0 ∧ Issues (.bfxImm i) i s0 ∧ Issues (.bfi w) w s0 ∧ Issues (.sext w) w s0 ∧ Issues (.zextImm i) i s0 ∧
      Issues (.sel { w with a := r 0 2 15 }) { w with a := r 0 2 15 } s0 ∧
      Issues (.cmp { w with d := r 1 15, a := r 0 2 5 }) { w with d := r 1 15, a := r 0 2 5 } s0 := by decide +kernel
theorem witness_BitFieldsAndSelects_constants :
    (let w := ins (r 0 1) (im 5) z
     Issues (.li w) w s0 ∧ Forms.clsOf w.d = 0) ∧
    (let w := ins (r 7 0) (im 5) z
     Issues (.li w) w s0 ∧ Forms.clsOf w.d = 7) ∧
    (let w := ins (r 0 1) (.wide 1) (.wide 2)
     Issues (.liw w) w s0) := by decide +kernel

/-- Tile 0 held by a compact of one member, slot 0 its strand. -/
def member0 : Member := ⟨1, 0, [], [], false, false, false, [], [], 0, [], []⟩
/-- The compact of that member. -/
def compact1 : Compact :=
  ⟨.running, 5, 0, none, 1, none, 0, none, [⟨0, 0, [1, 0, 0, 0], 0x1000, 0x2000, [], [], 0, 12, 0, [], [(0, 0, 1)]⟩],
    0, 0, 0, none, [], false, false, [], [], [], [], [], 0, false, [], false⟩
/-- The state with it. -/
def sc : State :=
  { (s0.setTile 0 { s0.tile 0 with held := some member0 }).modSlot 0 fun x => { x with cls := 4 } with compacts := [(1, compact1)] }

theorem witness_MoveCopies_free :
    let w := ins (r 0 1) (r 5 0) z
    Issues (.mov w) w s0 ∧ Forms.clsOf w.a = 5 ∧ s0.compact = false := by decide +kernel
theorem witness_MoveCopies_pop :
    let w := ins (r 0 1) (r 5 0) z
    Issues (.mov w) w sc ∧ Forms.clsOf w.a = 5 ∧ sc.compact = true := by decide +kernel
theorem witness_MoveCopies_push :
    let w := ins (r 5 1) (r 0 1) z
    Issues (.mov w) w sc ∧ Forms.clsOf w.a ≠ 5 ∧ sc.compact = true := by decide +kernel

theorem witness_PredicatesAndMasks :
    let w := ins (r 1 0) (r 1 15) (r 1 1)
    (∃ f, predRow (.pand w) = some (w, f)) ∧ Issues (.pand w) w s0 ∧ predForm (.mtop (ins (r 1 1 3) (r 3 1) z)) = some false ∧
      s0.power = true := ⟨⟨_, rfl⟩, by decide +kernel, by decide +kernel, by decide +kernel⟩

theorem witness_ResultsLand : s0.compact = false ∧ sc.compact = true := by decide +kernel
theorem witness_HardWiredRegisters : 0 < 63 ∧ 63 < 64 ∧ 0 < 15 ∧ 15 < 16 ∧ 0 < 3 ∧ 3 < 4 := by decide

theorem witness_FloatArithmetic :
    let w := ins (r 0 1) (r 0 2) (r 0 3)
    (∃ f, floatRow (.fadd w) = some (w, 4, f)) ∧ Issues (.fadd w) w s0 := ⟨⟨_, rfl⟩, by decide +kernel⟩
theorem witness_FloatSelectsAndConverts :
    let w := ins (r 0 1) (r 0 2) (r 0 3)
    let p := ins (r 1 1 7) (r 0 2) (r 0 3)
    let c := ins (r 0 1 0x100) (r 0 2) z
    Issues (.fmin w) w s0 ∧ Issues (.fmax w) w s0 ∧ Issues (.fcmp p) p s0 ∧ Issues (.fsgn w) w s0 ∧
      Issues (.fclass { w with b := z }) { w with b := z } s0 ∧ Issues (.fcvt c) c s0 := by decide +kernel
theorem witness_RoundsToNearestEven :
    Fmt.isFloat3 .f16 = true ∧ 0 < 3 ∧ (∃ x, ratio (.fin false 1 3) = some x) ∧
      (∃ y, ratio (decFp .f16 false (encFp .f16 rneOpt (.fin false 1 3)).1) = some y) ∧
      0x3555 < 2 ^ Fmt.memBits .f16 ∧ ∃ q, ratio (decFp .f16 false 0x3555) = some q := by
  have h : encFp .f16 rneOpt (.fin false 1 3) = (0x3555, fNX) := by decide +kernel
  have h2 : decFp .f16 false 0x3555 = .fin false (1365) (4096) := by decide +kernel
  rw [h, h2]
  exact ⟨rfl, by decide, ⟨_, rfl⟩, ⟨_, rfl⟩, by decide, ⟨_, rfl⟩⟩
theorem witness_ExactOperations :
    0 < 3 ∧ 0 < 7 ∧ (∃ x, ratio (.fin false 1 3) = some x) ∧ ∃ y, ratio (.fin true 2 7) = some y ∧ y ≠ 0 :=
  ⟨by decide, by decide, ⟨_, rfl⟩, _, rfl, by norm_num⟩

theorem witness_ControlTransfers :
    let w := ins z (im 0x3FFFFF) z
    let s := sw fun x => { x with pc := 0x3000 }
    transferTo s.slot (.br w) = some (w, 0x3000 + 12 * (0x3FFFFF : BitVec 22).signExtend 64, none) ∧ Issues (.br w) w s ∧
      ((0x3000 + 12 * (0x3FFFFF : BitVec 22).signExtend 64 : Word64)).toNat % 12 = 0 := ⟨rfl, by decide +kernel⟩
theorem witness_ControlTransfers_misaligned :
    let w := ins z (r 0 1) z
    let s := sw (sr 1 13)
    transferTo s.slot (.ret w) = some (w, 13, none) ∧ Issues (.ret w) w s ∧ 13 % 12 ≠ 0 := ⟨rfl, by decide +kernel⟩
theorem witness_ControlTransfers_far :
    let w := ins (r 0 2) (r 0 1) z
    let s := sw (sr 1 (2 ^ 48))
    transferTo s.slot (.call w) = some (w, 0x1000000000000, some 2) ∧ Issues (.call w) w s ∧ 2 ^ 48 % 12 ≠ 4 + 1 := ⟨rfl, by decide +kernel⟩
theorem witness_ControlTransfers_outside :
    let w := ins z (r 0 1) z
    let s := sw (sr 1 (2 ^ 48 + 8))
    transferTo s.slot (.ret w) = some (w, 0x1000000000008, none) ∧ Issues (.ret w) w s ∧ (2 ^ 48 + 8) % 12 = 0 ∧ 2 ^ 48 ≤ 2 ^ 48 + 8 :=
  ⟨rfl, by decide +kernel⟩

/-- A loop of one pass left, whose ENDL stands at address 24. -/
def loop1 : LoopEnt := ⟨12, 24, 1⟩
theorem witness_HardwareLoops :
    let w := ins z (im 3) (im 2)
    let e := ins z z z
    let s4 := sw fun x => { x with loops := [loop1, loop1, loop1, loop1] }
    let at24 (l : List LoopEnt) : State := sw fun x => { x with pc := 24, loops := l }
    (Issues (.loop w) w s0 ∧ (s0.slot.opU w.a).setWidth 32 ≠ (0 : Word32) ∧ s0.slot.loops.length < 4) ∧
    (Issues (.loop w) w s4 ∧ (s4.slot.opU w.a).setWidth 32 ≠ (0 : Word32) ∧ 4 ≤ s4.slot.loops.length) ∧
    (Issues (.endl e) e s0 ∧ s0.slot.loops = []) ∧
    (Issues (.endl e) e s4 ∧ s4.slot.loops = loop1 :: [loop1, loop1, loop1] ∧ loop1.stop ≠ s4.slot.pc) ∧
    (Issues (.endl e) e (at24 [{ loop1 with count := 0 }]) ∧ loop1.stop = (at24 [{ loop1 with count := 0 }]).slot.pc) ∧
    (Issues (.endl e) e (at24 [loop1]) ∧ (at24 [loop1]).slot.loops = loop1 :: [] ∧ loop1.stop = (at24 [loop1]).slot.pc) ∧
    Issues (.nop e) e s0 := by decide +kernel

theorem witness_IssueChecks :
    let g : Ins := { ins (r 0 1) (r 0 2) (r 0 3) with gp := 1 }
    let b : Ins := { ins (r 0 1) (r 0 2) (r 0 3) with gn := true }
    let e := ins z z z
    (Forms.fieldsOf (.add g) = some g ∧ s0.power = true ∧ (Instr.add g).wellFormed = true ∧ privileged (.add g) = false ∧
      s0.slot.guard g = false) ∧
    (Forms.fieldsOf (.add b) = some b ∧ (Instr.add b).wellFormed = false) ∧
    (Forms.fieldsOf (.eret e) = some e ∧ (Instr.eret e).wellFormed = true ∧ privileged (.eret e) = true ∧ s0.sup s0.cur = false) ∧
    (Forms.fieldsOf (.idle e) = some e ∧ Issues (.idle e) e sc ∧ privileged (.idle e) = false ∧ freeOnly (.idle e) = true ∧
      sc.compact = true) ∧
    (Forms.fieldsOf (.sstep e) = some e ∧ Issues (.sstep e) e s0 ∧ compactOnly (.sstep e) = true ∧ s0.compact = false) := by decide +kernel

theorem witness_TrapEntry :
    let h := sw sv
    let n := sw fun x => { sv x with status := 5 }
    (h.getSlot 0).tvec ≠ 0 ∧ (bit (h.getSlot 0).status 2 && false) = false ∧ (bit (n.getSlot 0).status 2 && true) = true ∧
      (s0.getSlot 0).tvec = 0 ∧ s0.compactAt 0 = false := by decide +kernel
theorem witness_TrapsAndReturn :
    let t := ins z (im 5) z
    let e := ins z z z
    let s := sw fun x => { sv x with epc := 0x6000 }
    let s' := sw fun x => { sv x with epc := 0x6004 }
    (t.a = .imm 5 ∧ Issues (.trap t) t s0 ∧ Issues (.brk t) t s0) ∧ (Issues (.eret e) e s0 ∧ s0.sup s0.cur = false) ∧
      (Issues (.eret e) e s ∧ s.sup s.cur = true ∧ s.slot.epc.toNat % 12 = 0) ∧
      (Issues (.eret e) e s' ∧ s'.sup s'.cur = true ∧ s'.slot.epc.toNat % 12 ≠ 0) := by decide +kernel

theorem witness_SupervisorOnlyByTrap :
    let w := ins z (im 5) z
    let s := sw fun x => { x with tvec := 0x6000 }
    Forms.fieldsOf (.trap w) = some w ∧ (∀ v, Instr.trap w ≠ .csign v) ∧ s.sup s.cur = false ∧
      ∃ t, exec (.trap w) s = .next t ∧ t.sup s.cur = true :=
  ⟨rfl, fun _ => by simp, by decide +kernel, _, rfl, by decide +kernel⟩
theorem witness_GoingOn :
    let f := ins (r 0 0 0x4C) z z
    let g := ins (r 0 0 0x48) (.mem 1 0) (r 0 1)
    let c := ins z (r 0 1) z
    let u := sw fun x => { x with status := 1 }
    Forms.fieldsOf .scTicketIssue = none ∧ s0.power = true ∧ Issues (.fence f) f s0 ∧ s0.coh.part = false ∧ Forms.scopeOf (mods f.d) ≠ 7 ∧
      Issues (.fenceRange g) g s0 ∧ (s0.slot.opU g.b).toNat ≤ 2 ^ 32 ∧ (s0.slot.ea g.a).toNat + (s0.slot.opU g.b).toNat ≤ 2 ^ 48 ∧
      FreeSup (.halt (ins z z z)) (ins z z z) u ∧ FreeSup (.ctxsv c) c u ∧ (u.slot.getS (num c.a)).toNat % 4096 = 0 ∧
      isHbm (u.slot.getS (num c.a)).toNat = true ∧ u.quietSlot u.cur = true := by decide +kernel

/-! Witnesses: memory. -/

/-- The strand with s1 = 64, and words of memory behind it. -/
def s64 : State := { sw (sr 1 64) with mem := Mem.write [] 64 0x1122334455667788 8 }
/-- TYPE b64. -/
def b64 : Nat := 4 * 128
/-- Tile 0 with its whole store in the scratch partition. -/
def ss : State := s64.setTile 0 { s64.tile 0 with scr := 16 }
/-- Address operands on s1: base s1, offset 0. -/
def m1 : Operand := .mem 1 0

theorem witness_LoadsStoresAndHints :
    let l := ins (r 0 2 b64) m1 z
    let t := ins m1 (r 0 1 b64) z
    let p := ins (r 0 0) m1 z
    let i := ins (r 0 0 1) m1 z
    (Free (.ld l) l s64 ∧ Reached s64 (s64.slot.ea l.a) 8 .load 64 false false ∧ Clear s64 64) ∧
    (Free (.st t) t s64 ∧ Reached s64 (s64.slot.ea t.d) 8 .store 64 false false ∧ Clear s64 64 ∧ s64.ptHeld (lineOf 64) = false) ∧
    Issues (.pref p) p s64 ∧
    (Free (.flushl p) p s64 ∧ Reached s64 (s64.slot.ea p.a) 1 .load 64 false false) ∧ Free (.flushl i) i s64 := by decide +kernel

theorem witness_AccessFrames :
    64 % 64 + 8 ≤ 64 ∧ 64 < 2 ^ 52 ∧ s64.isPt (lineOf 64) = false ∧ s64.copy (clusterOf 0) (lineOf 64) = none := by decide +kernel

theorem witness_WindowAccesses :
    let l := ins (r 0 2 b64) m1 z
    let t := ins m1 (r 0 1 b64) z
    Issues (.ldw l) l ss ∧ (ss.slot.ea l.a).toNat % 8 = 0 ∧ ss.window (ss.slot.ea l.a).toNat = some (0, 64) ∧
      ss.tsPoison.contains (0 * 2 ^ 14 + 64 / 64) = false ∧ Issues (.stw t) t ss := by decide +kernel

theorem witness_AccessChecks :
    let l := ins (r 0 2 b64) m1 z
    let t := ins m1 (r 0 1 b64) z
    let far := sw (sr 1 (2 ^ 48))
    let odd := sw (sr 1 1)
    let off := sw (sr 1 0x1000000)
    (accessRow (.ld l) = some (l, m1, 8) ∧ Free (.ld l) l odd ∧ (odd.slot.ea m1).toNat % 8 ≠ 0) ∧
    (Free (.ld l) l far ∧ (far.slot.ea m1).toNat % 8 = 0 ∧ 2 ^ 48 ≤ (far.slot.ea m1).toNat ∧ inWindow (far.slot.ea m1) = false) ∧
    (isTsc off.cur = false ∧ (off.slot.park.map Park.deny).getD false = false ∧ Free (.ld l) l off ∧ off.xlate off.cur 0x1000000 .load = .fault 1 ∧
      Free (.st t) t off ∧ off.xlate off.cur 0x1000000 .store = .fault 1) ∧
    (off.slot.park = none ∧ (off.cluster (clusterOf off.cur)).mailbox.length < 256) := by decide +kernel

/-- An atomic's modifiers: TYPE b64, SCOPE cluster, ORD relaxed. -/
def at64 : Nat := 4 * 128 + 4 * 16
theorem witness_Atomics :
    let w := ins (r 0 2 at64) m1 (im 1)
    let v := ins (r 0 2 (4 * 128 + 4 * 16 + 3 * 4)) m1 (im 1)
    (∃ f, atomRow (.aadd w) = some (w, f)) ∧ Free (.aadd w) w s64 ∧ inWindow (s64.slot.ea w.a) = false ∧
      Reached s64 (s64.slot.ea w.a) 8 .atomic 64 false false ∧ Clear s64 64 ∧ s64.slot.reply = none ∧
      (s64.poisoned (lineOf 64) && wideScope 4) = false ∧ s64.isPt (lineOf 64) = false ∧ s64.atMsa 64 4 = false ∧
      Free (.aadd v) v s64 ∧ s64.relWaits 4 = false := ⟨⟨_, rfl⟩, by decide +kernel⟩
/-- In partitioned mode an atomic of device scope goes to the MSA, whose answer has come. -/
def sm : State := { s64.modSlot 0 fun x => { x with reply := some (0, 5) } with coh := { s64.coh with part := true } }
theorem witness_Atomics_msa :
    let w := ins (r 0 2 (4 * 128 + 6 * 16)) m1 (im 1)
    (∃ f, atomRow (.aadd w) = some (w, f)) ∧ Free (.aadd w) w sm ∧ Reached sm (sm.slot.ea w.a) 8 .atomic 64 false false ∧
      sm.atMsa 64 6 = true ∧ sm.slot.reply = some (0, 5) := ⟨⟨_, rfl⟩, by decide +kernel⟩
/-- s1 = the window's byte 64. -/
def swin : State := ss.modSlot 0 (sr 1 (2 ^ 64 - 2 ^ 48 + 64))
theorem witness_Atomics_window :
    let w := ins (r 0 2 at64) m1 (im 1)
    (∃ f, atomRow (.aor w) = some (w, f)) ∧ Issues (.aor w) w swin ∧ inWindow (swin.slot.ea w.a) = true ∧
      (swin.slot.ea w.a).toNat % 2 ^ 48 % 8 = 0 ∧ swin.window ((swin.slot.ea w.a).toNat % 2 ^ 48) = some (0, 64) ∧
      swin.tsPoison.contains (0 * 2 ^ 14 + 64 / 64) = false ∧ swin.relWaits 4 = false := ⟨⟨_, rfl⟩, by decide +kernel⟩

/-- A fence's modifiers. -/
def fm (sc o : Nat) : Nat := sc * 16 + o * 4
theorem witness_FencesAndReleases :
    let f := ins (r 0 0 (fm 4 3)) z z
    let t := ins (r 0 0 (fm 6 3)) z z
    let rg := ins (r 0 0 (fm 4 1)) m1 (r 0 1)
    let base (a n : Nat) : State := sw fun x => sr 2 n (sr 1 a x)
    let rr := ins (r 0 0 (fm 4 2)) m1 (r 0 2)
    let p := { s64 with coh := { s64.coh with part := true } }
    (Issues (.fence f) f sc ∧ sc.compact = true) ∧ (Free (.fence f) f s64 ∧ s64.coh.part = false ∧ s64.relWaits 4 = false) ∧
    (Free (.fence t) t sm ∧ Forms.ordOf (mods t.d) = 3 ∧ Forms.scopeOf (mods t.d) = 6 ∧ sm.slot.reply.isSome = true) ∧
    (Free (.fence t) t p ∧ p.coh.part = true ∧ p.slot.reply = none ∧ p.scq.contains p.cur = false ∧ p.relWaits 6 = false) ∧
    (Issues (.fenceRange rr) rr (base 64 0) ∧ ((base 64 0).slot.opU rr.b).toNat = 0) ∧
    (Issues (.fenceRange rr) rr (base 64 (2 ^ 32 + 1)) ∧ 2 ^ 32 < ((base 64 (2 ^ 32 + 1)).slot.opU rr.b).toNat) ∧
    (Issues (.fenceRange rr) rr (base (2 ^ 48) 1) ∧ 2 ^ 48 < ((base (2 ^ 48) 1).slot.ea rr.a).toNat + 1) ∧
    (Issues (.fenceRange rg) rg (sc.modSlot 0 (sr 1 64)) ∧ (sc.modSlot 0 (sr 1 64)).compact = true) ∧
    (Issues (.fenceRange rr) rr (base 64 64) ∧ (base 64 64).compact = false ∧ (base 64 64).relWaits 4 = false) := by decide +kernel
/-- A store of the strand to package 7 not yet visible at system scope. -/
def swait : State :=
  { s64 with fab := { s64.fab with out := [⟨5, 7, mkRequest 1 1 0x100 8 0 [], 0, s64.slot.recAddr, 0, 0, 0, .rst 2 false, 1, 0, false⟩], group := [7] },
             optic := { s64.optic with routes := [⟨7, 8, 1, 1, [], []⟩], ports := [(3, { s64.port 3 with tx := .up, rx := .up })] } }
theorem witness_FencesAndReleases_waits :
    let f := ins (r 0 0 (fm 7 3)) z z
    Free (.fence f) f swait ∧ Forms.ordOf (mods f.d) = 3 ∧ swait.relWaits 7 = true := by decide +kernel
/-- A partition line in cluster 0 with dirty byte 0. -/
def sd : State := { s64 with coh := { s64.coh with part := true, copies := [(1, ⟨0, 0, 0x55, 1⟩)] } }
theorem witness_FencesAndReleases_dirty :
    sd.compact = false ∧ sd.copy 0 1 = some ⟨0, 0, 0x55, 1⟩ ∧ sd.partLine 1 = true ∧ 1 < 2 ^ 46 ∧ sd.poisoned 1 = false := by decide +kernel

/-! Witnesses: strands, barriers, messages, compacts. -/

/-- Words of memory. -/
def memOf (l : List (Nat × Nat)) : List Host.Cell := l.foldl (fun m e => Mem.write m e.1 e.2 8) []
/-- A record's template at 0x100: entry 0x300, priority 1, no affinity; with G for a gang; and a join word at 0x400. -/
def tpl (g join : Nat) : List (Nat × Nat) := [(0x100, 0x300), (0x108, g + 0x10), (0x130, join), (0x138, 0x00FF000000000000)]
/-- The strand, whose record lies at 0x200, with s1 = 0x100. -/
def sk (m : List (Nat × Nat)) (f : Slot → Slot) : State :=
  { sw fun x => f (sr 1 0x100 { x with recAddr := 0x200, prio := 1, cls := 0 }) with mem := memOf m }

theorem witness_SpawnsCreate :
    let w := ins (r 0 2) m1 (r 0 3)
    let s := sk (tpl 0 0) id
    let t := sk (tpl 0 0x400) id
    let b := sk ((0x120, 0) :: tpl 0x800 0) id
    let v : Ins := { w with b := im 2 }
    let f : State := { s with rdy := setBit s.rdy 1 true,
                              clusters := Tbl.set s.clusters 1 { s.cluster 1 with asids := Vector.replicate 16 (some ⟨9, none, 1⟩) } }
    (Free (.spawn w) w s ∧ MayRelease w s ∧ Clear s 0x100 ∧ s.slot.making = none ∧ s.failed (.clu 0) = false ∧ (s.slot.ea w.a).toNat % 64 = 0 ∧ s.pickCluster (s.slot.opS w.b).toNat = some 0 ∧
      s.pagesOf [(s.slot.ea w.a).toNat] = .pas [0x100] ∧
      badTemplate false ((template s 0x100).getD 0 0) ((template s 0x100).getD 1 0) ((template s 0x100).getD 2 0)
        ((template s 0x100).getD 7 0) = 0 ∧ (s.asidEntry 0 (s.asidOf s.cur) 1).isSome = true ∧ (template s 0x100).getD 6 0 = 0) ∧
    (Free (.spawn w) w t ∧ (template t 0x100).getD 6 0 ≠ 0 ∧ t.joinAt ((template t 0x100).getD 6 0) = .here 0x400 false ∧ t.joinHeld 0x400 = false) ∧
    (Free (.spawn w) w b ∧ badTemplate false ((template b 0x100).getD 0 0) ((template b 0x100).getD 1 0) ((template b 0x100).getD 2 0)
        ((template b 0x100).getD 7 0) ≠ 0) ∧
    (Free (.spawn v) v f ∧ f.pickCluster (f.slot.opS v.b).toNat = some 1 ∧ f.asidEntry 1 (f.asidOf f.cur) 1 = none) ∧
    (Free (.spawn { w with b := im 17 }) { w with b := im 17 } s ∧ s.pickCluster 17 = none) := by decide +kernel
theorem witness_SpawnsCreate_gang :
    let w := ins (r 0 2) m1 (r 0 3)
    let s := sk (tpl 0x800 0) fun x => sr 2 0x600 (sr 3 2 x)
    let b := sk (tpl 0x800 0) fun x => sr 2 0x600 (sr 3 769 x)
    (Free (.spawng w) w s ∧ MayRelease w s ∧ Clear s 0x100 ∧ s.joinHeld 0x600 = false ∧ s.joinHeld 0x640 = false ∧
      (s.slot.getS (num w.d)).toNat % 64 = 0 ∧ fld (s.slot.opS w.b) 9 0 = 2 ∧
      s.pickCluster (fld (s.slot.opS w.b) 20 16) = some 0 ∧ s.pagesOf [0x100, 0x600, 0x640] = .pas [0x100, 0x600, 0x640] ∧
      badTemplate true ((template s 0x100).getD 0 0) ((template s 0x100).getD 1 0) ((template s 0x100).getD 2 0)
        ((template s 0x100).getD 7 0) = 0 ∧ (s.asidEntry 0 (s.asidOf s.cur) 2).isSome = true) ∧
    (Free (.spawng w) w b ∧ 768 < fld (b.slot.opS w.b) 9 0) := by decide +kernel

theorem witness_EmptyGangAndJoin :
    let w := ins (r 0 2) m1 (r 0 3)
    let j := ins (r 0 0) m1 z
    let s := sk [] id
    (Free (.spawng w) w s ∧ MayRelease w s ∧ (s.slot.ea w.a).toNat % 64 = 0 ∧ (s.slot.getS (num w.d)).toNat % 64 = 0 ∧ fld (s.slot.opS w.b) 9 0 = 0) ∧
    (Free (.join j) j s ∧ Reached s (s.slot.ea j.a) 8 .load 0x100 false false ∧ Clear s 0x100 ∧ (s.load s.cur 0x100 8 false).1 = 0) := by
  decide +kernel

theorem witness_StopsAndWaits :
    let e := ins z z z
    let s := sk [] id
    let j := ins (r 0 0) m1 z
    let p := sk [(0x100, 1)] id
    let q := ins (r 0 0 (b64 + 1)) m1 (im 1)
    (Free (.suspend e) e (sk [] fun x => { x with wake := true })) ∧ (Free (.suspend e) e s ∧ s.slot.wake = false) ∧
    (Free (.yield e) e s ∧ s.slot.recAddr.toNat % 64 = 0 ∧ s.slot.prio.toNat < 8) ∧
    (Issues (.exit e) e s ∧ s.recWord 0x200 6 = 0) ∧
    (Issues (.exit e) e (sk [(0x230, 0x400)] id) ∧ (sk [(0x230, 0x400)] id).recWord 0x200 6 ≠ 0 ∧
      (sk [(0x230, 0x400)] id).exitJoin ((sk [(0x230, 0x400)] id).recWord 0x200 6) = .here 0x400 false ∧
      (sk [(0x230, 0x400)] id).joinHeld 0x400 = false) ∧
    (Free (.join j) j p ∧ Reached p (p.slot.ea j.a) 8 .load 0x100 false false ∧ Clear p 0x100 ∧ (p.load p.cur 0x100 8 false).1 ≠ 0 ∧
      (p.cluster 0).watch.length < 1024) ∧
    (Free (.waitw q) q s ∧ Reached s (s.slot.ea q.a) 8 .load 0x100 false false ∧ (s.load s.cur 0x100 8 false).1 ≠ 1) ∧
    (Free (.waitw q) q p ∧ (p.load p.cur 0x100 8 false).1 = 1) := by decide +kernel
theorem witness_StopsAndWaits_queues : QueuedAligned (sk [] id) 0 := by
  intro q e a h _
  have hq : (sk [] id).queue 0 q = [] := by
    show ((Vector.replicate 8 ([] : List QEnt))[q]?).getD [] = []
    by_cases h8 : q < 8 <;> simp [h8]
  rw [hq] at h; cases h

theorem witness_SignalsAndBarriers :
    let w := ins (r 0 2) m1 z
    let susp : State := let s := sk [(0x108, 0x12)] id; s.setCluster 0 { s.cluster 0 with suspended := [0x100] }
    let run : State := (sk [(0x108, 0x11)] id).putSlot 1 { Slot.reset with occ := true, recAddr := 0x100 }
    let done := sk [(0x108, 0x15)] id
    (Free (.signal w) w susp ∧ MayRelease w susp ∧ Clear susp 0x100 ∧ susp.pagesOf [(susp.slot.ea w.a).toNat] = .pas [0x100] ∧ susp.recState 0x100 = 2 ∧
      (susp.clusters.find? fun c => c.2.suspended.contains 0x100).isSome = true) ∧
    (Free (.signal w) w run ∧ run.recState 0x100 = 1 ∧ (run.slots.find? fun x => x.2.occ && x.2.recAddr.toNat == 0x100).isSome = true) ∧
    (Free (.signal w) w done ∧ done.recState 0x100 ≠ 1 ∧ done.recState 0x100 ≠ 2) := by decide +kernel
theorem witness_SignalsAndBarriers_arrive :
    let a := ins (r 0 2 (fm 4 0)) (im 15) (im 1)
    let bw := ins (r 0 0 (fm 4 0)) (im 0) (r 0 3)
    (Free (.bara a) a s0 ∧ Forms.scopeOf (mods a.d) ≤ 6) ∧ (Free (.bara { a with b := im 0 }) { a with b := im 0 } s0) ∧
    (Free (.bara { a with d := r 0 2 (fm 7 0) }) { a with d := r 0 2 (fm 7 0) } s0 ∧ s0.relWaits 7 = false ∧
      s0.podPending 7 (barKey 7 s0.cur 15) = false) ∧
    (Free (.barw bw) bw s0 ∧ (s0.barrier (barKey 4 0 0)).gen = (s0.slot.opS bw.b).setWidth 32) ∧
    (Free (.barw bw) bw (sw (sr 3 1)) ∧ ((sw (sr 3 1)).barrier (barKey 4 0 0)).gen ≠ ((sw (sr 3 1)).slot.opS bw.b).setWidth 32) ∧
    (Free (.barw { bw with a := r 0 4 }) { bw with a := r 0 4 } (sw (sr 4 16)) ∧ 15 < ((sw (sr 4 16)).slot.opS (r 0 4)).toNat) := by decide +kernel
theorem witness_SignalsAndBarriers_bar :
    let a := ins (r 0 2 (fm 4 0)) (im 15) (im 1)
    (Free (.bar a) a s0 ∧ bit (s0.slot.getS 2) 63 = false ∧ afterArrival (s0.barrier (barKey 4 0 15)) 1 = ⟨1, 0, 1⟩) ∧
    (Free (.bar { a with b := im 2 }) { a with b := im 2 } s0 ∧ (afterArrival (s0.barrier (barKey 4 0 15)) 2).gen = 0) ∧
    (let p := { a with d := r 0 2 (fm 7 0) }; Free (.bar p) p s0 ∧ Forms.scopeOf (mods p.d) = 7 ∧ s0.relWaits 7 = false ∧
      s0.podPending 7 (barKey 7 s0.cur 15) = false ∧ bit (s0.slot.getS 2) 63 = false) ∧
    (Free (.bar a) a (sw (sr 2 (2 ^ 63 + 7))) ∧ bit ((sw (sr 2 (2 ^ 63 + 7))).slot.getS 2) 63 = true) := by decide +kernel

theorem witness_Messages :
    let w := ins (r 0 2) (r 0 1) (r 0 3)
    let p := ins (r 0 2) (r 0 1) z
    let toT (n : Nat) : State := sw (sr 1 n)
    let spec : Nat := 0xFFFFFFFF
    let msg : Msg := ⟨0, 0, 7, 0⟩
    let sp := sw (sr 1 spec)
    let got : State := { sp with cores := [(0, { sp.core 0 with posted := [⟨0, BitVec.ofNat 32 spec, some msg, 0⟩] })] }
    let full : State := { sp with cores := [(0, { sp.core 0 with posted := List.replicate 32 ⟨0, BitVec.ofNat 32 spec, some msg, 0⟩ })] }
    let ovf : State := sp.setTile 0 { sp.tile 0 with overflow := [msg] }
    (Free (.send w) w (toT 0) ∧ fld ((toT 0).slot.opS w.a) 9 0 ≤ 767 ∧ (toT 0).ready (.clu 0) = true) ∧
    (Free (.send w) w (toT 768) ∧ 767 < fld ((toT 768).slot.opS w.a) 9 0) ∧ (Free (.send w) w (toT 48) ∧ (toT 48).ready (.clu 1) = false) ∧
    (Free (.rpost p) p full ∧ 32 ≤ (full.core 0).posted.length) ∧
    (Free (.rpost p) p sp ∧ (sp.core 0).posted.length < 32 ∧ takeMsg (BitVec.ofNat 32 spec) (sp.tile 0).overflow = none) ∧
    (Free (.rpost p) p ovf ∧ takeMsg (BitVec.ofNat 32 spec) (ovf.tile 0).overflow = some (msg, [])) ∧
    (Free (.rwait p) p got ∧ Free (.rwait p) p ovf ∧ Free (.rwait p) p sp) ∧
    (Free (.rprobe p) p got ∧ Free (.rprobe p) p ovf ∧ Free (.rprobe p) p sp) := by decide +kernel

theorem witness_CompactControl_requests :
    let d := ins (r 0 2) (r 0 1) z
    let one := sc.modSlot 0 (sr 1 1)
    let other : State := { sw (sr 1 1) with compacts := [(1, { compact1 with asid := 0 })] }
    let x := ins (r 0 1) (r 0 2) (r 0 3)
    let sx := (sc.modSlot 0 fun y => sr 3 32 (sr 2 (2 ^ 20 - 2048) { y with ended := true }))
    let e := ins z z z
    let stalled : State := { sc with compacts := [(1, { compact1 with st := .stalled })] }
    (Issues (.cdiss d) d one ∧ one.compact = true ∧ one.myCompact = some (member0, compact1) ∧ (one.slot.opU d.a).toNat = member0.cid.toNat) ∧
    (Free (.cdiss d) d other ∧ (Tbl.get? other.compacts 1).map Compact.asid = some (other.asidOf other.cur)) ∧
    (Issues (.xfer x) x sx ∧ sx.compact = true ∧ sx.slot.ended = true ∧ sx.myCompact = some (member0, compact1) ∧ sx.slot.sentUnits = 0 ∧
      (sx.slot.opS x.b).toNat = 32 ∧ (sx.slot.opS x.a).toNat + 64 * 32 ≤ 2 ^ 20 ∧ (sx.slot.opS x.a).toNat % 64 = 0 ∧
      fld (sx.slot.getS 1) 9 0 < compact1.mems.length) ∧
    (Issues (.sstep e) e sc ∧ sc.myCompact = some (member0, compact1) ∧ compact1.st ≠ .stalled) ∧
    (Issues (.sstep e) e stalled ∧ stalled.myCompact = some (member0, { compact1 with st := .stalled })) := by decide +kernel

theorem witness_ExpectAdds :
    let w := ins z (r 0 2) (r 0 3)
    let s (a b : Nat) : State := sc.modSlot 0 fun y => sr 3 b (sr 2 a { y with ended := true })
    (Issues (.expect w) w sc ∧ sc.compact = true ∧ sc.myCompact = some (member0, compact1) ∧ sc.slot.ended = false) ∧
    (Issues (.expect w) w (s 64 1) ∧ (s 64 1).slot.ended = true ∧ 63 < ((s 64 1).slot.opS w.a).toNat) ∧
    (Issues (.expect w) w (s 0 65536) ∧ 65535 < ((s 0 65536).slot.opS w.b).toNat) ∧
    (Issues (.expect w) w (s 0 65535) ∧ (s 0 65535).myCompact = some (member0, compact1) ∧ Tbl.get member0.exp 0 0 + 65535 ≤ 65535 ∧
      (0, 0, 1) ∈ (compact1.mems.flatMap MemberDesc.srcs)) := by decide +kernel
theorem witness_LinkForward :
    let w := ins (r 0 0) (r 5 0) z
    let f : State := sc.setCore 0 { sc.core 0 with le := [5] }
    (Issues (.lfwd w) w f ∧ f.compact = true ∧ (f.core 0).le = 5 :: []) ∧ (Issues (.lfwd w) w sc ∧ (sc.core 0).le = []) := by decide +kernel

/-- A compact's tables: the descriptor of compact 7 at 0x200, open, with `x` added to its first word; its one member, tile 5, at 0x800,
with one strand on core 0; its role at 0xA00, at 0x300; its schedule at 0xB00. -/
def csTab (x : Nat) : List (Nat × Nat) :=
  [(0x200, 7 * 2 ^ 48 + 2 ^ 40 + 2 ^ 37 + x), (0x218, 0x800), (0x220, 0xA00), (0x228, 0xB00), (0x800, 5 * 2 ^ 45 + 2 ^ 20), (0x808, 0x10000),
    (0x810, 0x80000), (0xA00, 0x300), (0xA08, 12 * 2 ^ 32)]
/-- The strand with s1 = 0x200. -/
def scs : State := { sw (sr 1 0x200) with mem := memOf (csTab 0) }
/-- Words read. -/
def wordsOf (v : VRead) : List Word64 := match v with
  | .words l => l
  | _ => []
theorem witness_CompactControl_signing :
    let w := ins (r 0 2) m1 z
    let dw := wordsOf (scs.vread 0x200 16)
    let d := parseDesc dw
    let mt := wordsOf (scs.vread 0x800 16)
    let rt := wordsOf (scs.vread 0xA00 4)
    let xt := wordsOf (scs.vread 0xB00 32)
    let m := parseMember mt rt xt
    Free (.csign w) w scs ∧ (scs.slot.ea w.a).toNat = 0x200 ∧ dw.length = 16 ∧ mt.length = 16 ∧ rt.length = 4 ∧ xt.length = 32 ∧
      d.cid = 7 ∧ d.ok = true ∧ d.nmem = 0 ∧ d.mtab = 0x800 ∧ d.rtab = 0xA00 ∧ d.xtab = 0xB00 ∧ d.join = 0 ∧ d.isOpen = true ∧
      Tbl.get? scs.compacts 7 = none ∧ m.pkg = scs.fab.me ∧ scs.rangePagesOf d.asid m.ranges = .words [] ∧
      memberWhy mt rt xt 0 (.words []) = 0 ∧ (scs.withImages [m]).2 = none ∧ spanOf (scs.withImages [m]).1 ≤ d.scope ∧
      scs.signRefusal d (scs.withImages [m]).1 none = none := by decide +kernel

/-! Witnesses: vectors. -/

/-- A vector register of format `f` whose lane i holds `g i`. -/
def vr (f : Fmt) (g : Nat → Nat) : VReg :=
  ⟨some f, BitVec.ofNat 2048 ((List.range 64).foldl (fun a i => a + g i % 2 ^ 32 * 2 ^ (32 * i)) 0)⟩
/-- v1, v2 and v3 in `f`, m1 = 1, s1 = 63, s2 = 64. -/
def vx (f : Fmt) (g : Nat → Nat) : State := sw fun x =>
  ((((((x.setV 1 (vr f g)).setV 2 (vr f id)).setV 3 (vr f fun i => 7 * i)).setM 1 1).setS 1 63).setS 2 64)
/-- The modifiers of FMT `f`. -/
def fmod (f : Fmt) (oth : Nat := 0) : Nat := 32 * f.code + oth

theorem witness_ElementWise :
    let w := ins (r 2 3 (fmod .i32)) (r 2 1 1) (r 2 2)
    let d := ins (r 2 3 (fmod .i32)) (r 2 1 1) (r 2 2)
    let s := vx .i32 fun i => 2 ^ 32 - i
    (∃ op, elemRow (.vadd w) = some (w, 8, true, false, op)) ∧ VecFree (.vadd w) w s ∧ fmtD w = .i32 ∧
      (s.slot.getV 1).tag = some .i32 ∧ (s.slot.getV 2).tag = some .i32 ∧ (s.slot.getV 3).tag = some .i32 ∧ mergesOld w ∧
      (∃ op, elemRow (.vfma d) = some (d, 8, true, true, op)) ∧ VecFree (.vfma d) d s := ⟨⟨_, rfl⟩, by decide +kernel, by decide +kernel,
        by decide +kernel, by decide +kernel, by decide +kernel, by decide +kernel, ⟨_, rfl⟩, by decide +kernel⟩
theorem witness_ElementWise_tags :
    let w := ins (r 2 3) (r 2 1) (r 2 2)
    let s := vx .i32 id
    let t := sw fun x => (x.setV 1 (vr .f32 id))
    (∃ op, elemRow (.vmul w) = some (w, 8, true, false, op)) ∧ VecFree (.vmul w) w s ∧ (s.slot.getV 1).tag ≠ some (fmtD w) ∧
      VecFree (.vmul w) w t ∧ (t.slot.getV 1).tag = some (fmtD w) ∧ (t.slot.getV 2).tag = none := ⟨⟨_, rfl⟩, by decide +kernel⟩

theorem witness_ComparesAndReductions :
    let f := vx .f32 fun i => 0x3F800000 + i
    let m := ins (r 3 2 5) (r 2 1 5) (r 2 2)
    let q := ins (r 2 3) (r 2 1 1) (r 2 2)
    let d := ins (r 0 3) (r 2 1) z
    let c := ins (r 2 3 8) (r 2 1 1) z
    (f.slot.getV 1).tag = some .f32 ∧ (f.slot.getV 2).tag = some .f32 ∧ (f.slot.getV 3).tag = some .f32 ∧
      VecFree (.vcmp m) m f ∧ VecFree (.vsel q) q f ∧ VecFree (.vred d) d f ∧ VecFree (.vscan c) c f ∧ VecFree (.vamax d) d f := by
  decide +kernel

/-- Lane movement: v1 to v3 hold i32 lanes. -/
theorem witness_LaneMovement :
    let s := vx .i32 id
    let p := ins (r 2 3) (r 2 1 1) (r 2 2)
    let q := ins (r 2 3 1) (r 2 1 1) (r 0 1)
    (s.slot.getV 1).tag = some .i32 ∧ (s.slot.getV 2).tag = some .i32 ∧ (s.slot.getV 3).tag = some .i32 ∧
      VecFree (.vperm p) p s ∧ VecFree (.vslide q) q s := by decide +kernel
theorem witness_LaneMovement_lanes :
    let s := vx .i32 id
    let e := ins (r 0 3) (r 2 1) (r 0 1)
    let e' := ins (r 0 3) (r 2 1) (r 0 2)
    let n := ins (r 2 3) (r 0 1) (r 0 1)
    let n' := ins (r 2 3) (r 0 1) (r 0 2)
    (VecFree (.vext e) e s ∧ (s.slot.opU e.b).toNat = 63) ∧ (VecFree (.vext e') e' s ∧ (s.slot.opU e'.b).toNat = 64) ∧
      VecFree (.vins n) n s ∧ VecFree (.vins n') n' s := by decide +kernel
theorem witness_LaneMovement_tags :
    let s := vx .i32 id
    let b := ins (r 2 3 (fmod .f4)) (r 0 1) z
    let t := ins (r 2 3 (fmod .i8)) z z
    let g := ins (r 0 3) (r 2 1) z
    VecFree (.vbcast b) b s ∧ VecFree (.vtag t) t s ∧ VecFree (.vgtag g) g s := by decide +kernel

theorem witness_DotProductsAndConversions :
    let d := ins (r 2 3 (fmod .i32)) (r 2 1 (fmod .i8)) (r 0 1)
    let e := ins (r 2 3 (fmod .f32)) (r 2 1 (fmod .f8e4)) (r 0 1)
    let c := ins (r 2 3 (fmod .f16)) (r 2 1 (fmod .f32 9)) z
    let b := ins (r 2 3 (fmod .b32f8e4)) (r 2 1 (fmod .f32)) (r 2 2)
    let s (f g h : Fmt) : State := sw fun x => (((x.setV 1 (vr f id)).setV 3 (vr g id)).setV 2 (vr h fun _ => 0x7F7F7F7F)).setM 1 1
    (VecFree (.vdot4 d) d (s .i8 .i32 .i8) ∧ (((s .i8 .i32 .i8).slot.getV 1).tag = some .i8 ∧ ((s .i8 .i32 .i8).slot.getV 3).tag = some .i32)) ∧
    (VecFree (.vdot4 e) e (s .f8e4 .f32 .i8) ∧ ((s .f8e4 .f32 .i8).slot.getV 1).tag = some .f8e4 ∧ ((s .f8e4 .f32 .i8).slot.getV 3).tag = some .f32) ∧
    (VecFree (.vcvt c) c (s .f32 .f16 .i8) ∧ Fmt.count .f32 < Fmt.count .f16 ∧ mergesOld c ∧ ((s .f32 .f16 .i8).slot.getV 1).tag = some .f32 ∧
      ((s .f32 .f16 .i8).slot.getV 3).tag = some .f16) ∧
    (VecFree (.vcvt b) b (s .f32 .f32 .e8m0) ∧ Fmt.isBlock .b32f8e4 = true ∧ Fmt.companion .b32f8e4 = .e8m0 ∧
      ((s .f32 .f32 .e8m0).slot.getV 2).tag = some .e8m0) := by decide +kernel

/-- s1 = 64, v1 = words, v2 = the index 4i in lane i, m1 = 3. -/
def vm (f : Slot → Slot) : State :=
  { sw fun x => f ((((x.setV 1 (vr .i32 fun i => i)).setV 2 (vr .z32 fun i => 4 * i)).setM 1 3).setS 1 64) with mem := Mem.write [] 64 7 8 }
/-- The tile store in the scratch partition. -/
def vs (f : Slot → Slot) : State := (vm f).setTile 0 { s0.tile 0 with scr := 16 }
/-- Two pieces, both placed, and free to access. -/
def placed2 (s : State) (win : Bool) (a : Acc) (pcs : List Piece) : Bool :=
  match s.locate win a pcs with
  | .inr l => l.length == 2 && l.all fun e => !s.heldAt e.2 && !s.poisonAt e.2 && match e.2 with
    | .mem pa _ mir => decide (pa < 2 ^ 52) && decide (pa % 64 + e.1.n ≤ 64) && !mir && !s.isPt (lineOf pa) && !s.ptHeld (lineOf pa)
    | .ts _ _ => true
  | _ => false

theorem witness_VectorLoads :
    let w := ins (r 2 3 (fmod .i32 1)) m1 z
    let c := ins (r 2 3 (fmod .i32 9)) m1 z
    let g := ins (r 2 3 (fmod .i32 5)) m1 (r 2 2)
    let d := ins (r 2 3 (fmod .i32 5)) m1 (im 4)
    let s := vm fun x => x.setV 3 (vr .i32 id)
    let t := vs fun x => x.setV 3 (vr .i32 id)
    (VecFree (.vld w) w s ∧ (s.slot.ea m1).toNat % 4 = 0 ∧ (s.slot.getV 3).tag = some .i32 ∧
      placed2 s false .load (contigPieces .i32 3 (s.slot.ea m1)) = true) ∧
    (VecFree (.vld c) c t ∧ placed2 t true .load (contigPieces .i32 3 (t.slot.ea m1)) = true) ∧
    (VecFree (.vgth g) g s ∧ (s.slot.getV 2).tag = some .z32 ∧
      placed2 s false .load (indexPieces 3 (s.slot.ea m1) (s.slot.getV 2)) = true) ∧
    (VecFree (.vlds d) d s ∧ (s.slot.ea m1 + 4 * s.slot.opS d.b).toNat % 4 = 0 ∧ placed2 s false .load (stridePieces .i32 3 (s.slot.ea m1) 4) = true) := by
  decide +kernel

theorem witness_VectorStores :
    let w := ins m1 (r 2 1 (fmod .i32 1)) z
    let c := ins m1 (r 2 1 (fmod .i32 9)) z
    let g := ins m1 (r 2 1 (fmod .i32 1)) (r 2 2)
    let d := ins m1 (r 2 1 (fmod .i32 1)) (im 4)
    let s := vm id
    let t := vs id
    (VecFree (.vst w) w s ∧ (s.slot.getV 1).tag = some .i32 ∧ placed2 s false .store (contigPieces .i32 3 (s.slot.ea m1)) = true ∧
      s.isPt (lineOf 64) = false ∧ s.ptHeld (lineOf 64) = false) ∧
    (VecFree (.vst c) c t ∧ placed2 t true .store (contigPieces .i32 3 (t.slot.ea m1)) = true) ∧
    (VecFree (.vsct g) g s ∧ placed2 s false .store (indexPieces 3 (s.slot.ea m1) (s.slot.getV 2)) = true) ∧
    (VecFree (.vsts d) d s ∧ placed2 s false .store (stridePieces .i32 3 (s.slot.ea m1) 4) = true) := by decide +kernel

/-! Witnesses: matrices, engines, fabric. -/

/-- The pages of a matrix access. -/
def pagesAre (s : State) (va : Word64) (n : Nat) (l : List Nat) : Bool := match s.mxPages va n with
  | .inr p => p == l
  | _ => false
/-- t0 = t1 in `f`, v2 and v3 in `f`, s1 = 64, s2 = 0, s4 = 2^35; the tile store in the scratch partition. -/
def mxs (f : Fmt) : State :=
  (sw fun x => ((((((x.setT 0 ⟨some f, 5, 0⟩).setT 1 ⟨some f, 0x700000003, 0⟩).setV 2 (vr f id)).setV 3 (vr f id)).setS 1 64).setS 4 (2 ^ 35))).setTile 0
    { s0.tile 0 with scr := 16 }

theorem witness_MatrixIssue_unit :
    let s := mxs .f32
    let ld := ins (r 4 0) m1 z
    let st := ins m1 (r 4 0) z
    let mz := ins (r 4 1) z z
    let cv := ins (r 4 0 (fmod .f16)) (r 4 1) z
    let sc' := ins (r 4 0) (r 2 2) z
    let tr := ins (r 4 0) (r 4 1) z
    let se := ins (r 0 0 1) (im 15) (im 65535)
    (Free (.mld ld) ld s ∧ ScratchOk s (s.slot.ea ld.a) 4096 true) ∧
    (Free (.mst st) st s ∧ (s.slot.getT 0).tag = some .f32 ∧ ScratchOk s (s.slot.ea st.d) 4096 false) ∧
    (Free (.mzero mz) mz s) ∧ (Free (.mcvt cv) cv s ∧ (s.slot.getT 1).tag = some .f32) ∧
    (Free (.mscale sc') sc' s ∧ (s.slot.getV 2).tag = some .f32 ∧ s.slot.streams = Vector.replicate 4 none) ∧
    (Free (.mtrans tr) tr s) ∧ (Free (.seminc se) se s ∧ Free (.semwait se) se s ∧ (mods se.d).toNat % 4 = 1) ∧
    (s.tile (tileOf s.cur)).mxq.length < 8 := by decide +kernel
theorem witness_MatrixIssue_products :
    let s := mxs .i8
    let tm := ins (r 4 0 (fmod .i8)) m1 (r 0 2)
    let tv := ins (r 4 0 (fmod .i8)) (r 2 2) (r 0 2)
    let tt := ins (r 4 0 (fmod .i8)) (r 4 1) (r 0 2)
    let lb := ins (r 0 2 (fmod .i8 1)) (r 0 1) z
    (Free (.mmac tm) tm s ∧ Forms.isMem tm.a = true ∧ ScratchOk s (s.slot.ea tm.a) (aExtent (fmtD tm) (s.slot.getS 2)) true) ∧
    (Free (.mmac tv) tv s ∧ Forms.clsOf tv.a = 2 ∧ (s.slot.getV 2).tag = some .i8 ∧ (s.slot.getV 3).tag = some .i8) ∧
    (Free (.mmac tt) tt s ∧ (s.slot.getT 1).tag = some .i8 ∧ fld (s.slot.getS 2) 63 35 = 0 ∧ fld (s.slot.getS 2) 18 9 + 1 ≤ 1024 / Fmt.container .i8) ∧
    (Free (.mldb lb) lb s ∧ bit (mods lb.d) 0 = true ∧ ScratchOk s (s.slot.getS 1) 512 false) := by decide +kernel
theorem witness_MatrixIssue_memory :
    let s := mxs .i8
    let lb := ins (r 0 2 (fmod .i8)) (r 0 1) z
    let mr := ins (r 4 0 (fmod .i8)) (r 0 1) (r 0 2)
    let mr' := ins (r 4 0 (fmod .i8)) (r 0 1) (r 0 4)
    let bad := ins (r 0 4 (fmod .i8)) (r 0 1) z
    (Free (.mldb lb) lb s ∧ s.slot.getS 2 &&& 0xFFFFFFFFFE00FE00 = 0 ∧ (s.slot.getS 1).toNat % 64 = 0 ∧ pagesAre s 64 512 [0] = true) ∧
    (Free (.mldb bad) bad s ∧ s.slot.getS 4 &&& 0xFFFFFFFFFE00FE00 ≠ 0) ∧
    (Free (.mmacr mr) mr s ∧ fld (s.slot.getS 2) 63 35 = 0 ∧ ((s.tile 0).mxq.any fun c => c.op == 0x2C6 && c.slot == s.cur) = false) ∧
    (Free (.mmacr mr') mr' s ∧ fld (s.slot.getS 4) 63 35 ≠ 0) := by decide +kernel

theorem witness_TileSemaphores :
    let a := ins (r 0 0) (im 3) (im 2)
    let b := ins (r 0 0 2) (im 3) (im 2)
    let c := ins (r 0 0) (im 16) (im 2)
    let d := ins (r 0 0) (im 15) (im 65536)
    let s := s0.semPut 0 3 2
    (Free (.seminc a) a s ∧ Free (.semwait a) a s ∧ s.semVal 0 3 = 2 ∧ (s.tile 0).semw = []) ∧
    (Free (.semwait a) a s0 ∧ s0.semVal 0 3 < 2) ∧ (Free (.semwait { a with b := im 0 }) { a with b := im 0 } s0) ∧
    (Free (.semwait b) b s0 ∧ Free (.seminc b) b s0 ∧ (s0.core 0).ceq.length < 8) ∧
    (Free (.seminc c) c s0 ∧ (s0.slot.opU c.a).toNat = 16) ∧ (Free (.seminc d) d s0 ∧ (s0.slot.opU d.b).toNat = 65536) := by decide +kernel

/-- A command of slot 0 in tile 0's MX queue; the weight store's slice 0 in i8. -/
def mxRun (op : Nat) (w : Ins) (args : List Word64) (s : State) : State :=
  s.setTile 0 { s.tile 0 with mxq := [mkCmd s op w args], ws := [(0, ⟨.i8, 0x0102030405060708090A0B0C0D0E0F10, 0, 1⟩)] }
/-- A multiply-accumulate of the register pair v2, v3 in i8 onto t0 in i32. -/
def mmacV : Ins := ins (r 4 0 (fmod .i8)) (r 2 2) (r 0 2)
theorem witness_MultiplyAccumulate :
    let c := mkCmd (mxs .i8) 0x2C5 mmacV [0, 0]
    let s := mxRun 0x2C5 mmacV [0, 0] ((mxs .i8).modSlot 0 fun x => x.setT 0 ⟨some .i32, 5, 0⟩)
    (mxPlan (s.tile 0) ((s.getSlot 0).getT 0).tag (fmtD c.w) (fld (c.arg 0) 8 0) (fld (c.arg 0) 18 9)).isSome = true ∧
      s.power = true ∧ (s.tile 0).mxq = [c] ∧ c.home = [] ∧ c.park = none ∧ s.fab.out = [] ∧ s.compactAt c.slot = false ∧
      bit (mods c.w.d) 0 = false ∧ c.acc = [] ∧ c.pos = 0 ∧ (s.getSlot 0).late = [] ∧ Forms.clsOf c.w.a = 2 ∧
      (fld (c.arg 0) 18 9 + 1) * 8 ≤ 128 := by decide +kernel
theorem witness_MatrixOperations :
    let s (op : Nat) : State := mxRun op (ins (r 4 0) (r 4 1) z) [0] (mxs .f32)
    (∀ op ∈ [0x2C2, 0x2C3, 0x2C4, 0x2C5, 0x2C6, 0x2C7, 0x2C8, 0x2C9], ∀ c ∈ ((s op).tile 0).mxq, ((s op).tile 0).mxq.length = 1 ∧
      c.op = op ∧ c.home = [] ∧ c.park = none ∧ (s op).fab.out = [] ∧ (s op).compactAt c.slot = false ∧ num c.w.d < 2) ∧
      mxPlan ((s 0x2C5).tile 0) (((s 0x2C5).getSlot 0).getT 0).tag .f32 0 0 ≠ none ∧
      mxPlan ((s0.tile 0)) (some .f32) .f32 0 0 = none := by decide +kernel

theorem witness_EngineIssue :
    let s := sw fun x => sr 1 64 (sr 4 (2 ^ 63) (sr 5 16 x))
    let c := ins (r 0 1) (r 0 2) (r 0 3)
    let g := ins (r 0 1) (r 0 2) m1
    let bad := ins (r 0 4) (r 0 2) (r 0 3)
    let mis := ins (r 0 1) (r 0 2) (.mem 5 0)
    (Free (.copy c) c s ∧ fld (s.slot.getS 1) 63 40 = 0 ∧ (s.queueOf s.myCe).length < 8) ∧
    (Free (.copy2d c) c s ∧ fld (s.slot.getS 1) 63 48 = 0) ∧
    (Free (.gather g) g s ∧ Free (.scatter g) g s ∧ (s.slot.ea g.b).toNat % 32 = 0) ∧
    (Free (.copy bad) bad s ∧ fld (s.slot.getS 4) 63 40 ≠ 0 ∧ Free (.copy2d bad) bad s) ∧
    (Free (.gather mis) mis s ∧ (s.slot.ea mis.b).toNat % 32 ≠ 0) := by decide +kernel
theorem witness_EngineIssue_routes :
    let s := sw fun x => sr 1 128 x
    let ro := ins (r 0 1) m1 z
    (Free (.routeDsp ro) ro s ∧ Free (.routeCmb ro) ro s ∧ Free (.routeStat ro) ro s ∧ (s.slot.ea ro.a).toNat % 128 = 0 ∧
      (s.queueOf 4).length < 4) := by decide +kernel

/-- COPY of 32 bytes from offset 64 to offset 128 of tile 0. -/
def copyW : Ins := ins (r 0 1 3) (r 0 2) (r 0 3)
/-- The state in which it stands at the head of core 0's copy engine. -/
def sce : State :=
  let s := (mxs .f32)
  { s.setCore 0 { s.core 0 with ceq := [mkCmd s 0x301 copyW [32, 128, 64]] } with ts := Mem.write [] 64 0x123456789ABCDEF 8 }
theorem witness_CopiesWindowBytes :
    let c := mkCmd (mxs .f32) 0x301 copyW [32, 128, 64]
    sce.power = true ∧ (sce.core (coreAt 0 0)).ceq = [c] ∧ c.home = [] ∧ c.park = none ∧ c.pos = 0 ∧ sce.compactAt c.slot = false ∧
      sce.fab.out = [] ∧ bit (mods c.w.d) 0 = true ∧ bit (mods c.w.d) 1 = true ∧ Forms.ordOf (mods c.w.d) = 0 ∧ fld (c.arg 0) 39 0 = 32 ∧
      128 % 64 + 32 ≤ 64 ∧ (sce.tile 0).held = none ∧ 160 ≤ (sce.tile 0).scr.toNat * 65536 ∧ sce.tsPoison = [] := by decide +kernel

/-- Page 0x10 of slot 0 lies at 0x5000 of package 7, which the destination table admits; s1 = 0x10040. -/
def sfar (v : Word64) : State :=
  { sw (sr 1 0x10040) with
    fab := { s0.fab with dbt := [(7, v)] },
    optic := { s0.optic with routes := [⟨7, 8, 1, 1, [], []⟩], ports := [(3, { s0.port 3 with tx := .up, rx := .up, open_ := true, g := 100, l := 100 })] },
    xl := { s0.xl with caches := [(0, [⟨0x10101, BitVec.ofNat 64 (2 ^ 63 + 7 * 2 ^ 54 + 0x51F0), 0⟩, ⟨0x101, 0x1F0, 0⟩])] } }
/-- Its RESP received. -/
def sgot : State := (sfar (2 ^ 63)).modSlot 0 fun x => { x with reply := some (0, 5) }
theorem witness_FabricAccesses :
    let w := ins (r 0 2 b64) m1 z
    let t := ins (r 0 2 b64) m1 (r 0 5)
    let a := ins (r 0 2 (b64 + 112)) m1 (r 0 5 1)
    let f := sfar (2 ^ 63)
    let n := sfar 0
    (Free (.rld w) w f ∧ OnPackage f (f.slot.ea w.a) 8 .load 7 0x5040 ∧ f.accepts 7 = true) ∧
    (f.acceptsMine 7 (mkRequest 0 0 0x5040 8 0 []) = true ∧ f.acceptsMine 7 (mkRequest 1 0 0x5040 8 0 (List.replicate 8 0)) = true ∧
      n.acceptsMine 7 (mkRequest 0 0 0x5040 8 0 []) = false ∧ f.relWaits 7 = false) ∧
    (Free (.rst t) t f ∧ OnPackage f (f.slot.ea t.a) 8 .store 7 0x5040) ∧
    (Free (.ratom a) a f ∧ OnPackage f (f.slot.ea t.a) 8 .atomic 7 0x5040) ∧
    (Free (.rld w) w n ∧ n.accepts 7 = false) := by decide +kernel
theorem witness_FabricAccesses_answered :
    let w := ins (r 0 2 b64) m1 z
    let o := ins (r 0 2 (b64 + 116)) m1 z
    let p := ins (r 0 2 (b64 + 116)) m1 (r 0 5 1)
    let e := ins (r 0 0 (fm 7 3)) z z
    (sgot.slot.reply = some (0, 5) ∧ Free (.rld o) o sgot ∧ OnPackage sgot (sgot.slot.ea o.a) 8 .load 7 0x5040 ∧ Forms.ordOf (mods o.d) = 1) ∧
    (Free (.ratom p) p sgot ∧ OnPackage sgot (sgot.slot.ea o.a) 8 .atomic 7 0x5040) ∧
    (Free (.rld w) w s64 ∧ Reached s64 (s64.slot.ea w.a) 8 .load 64 false false) ∧
    (Free (.rfence e) e s0 ∧ s0.awaited 2 = [] ∧ Free (.rfence e) e swait ∧ swait.awaited 2 ≠ []) := by decide +kernel

/-! Witnesses: the system. -/

/-- A strand in supervisor state, with s1 and s4. -/
def sup (a b : Nat) : State := sw fun x => sr 4 b (sr 1 a { x with status := 1 })

theorem witness_SystemRegisters :
    let r0 := ins (r 0 1) (r 6 0) z
    let r8 := ins (r 0 1) (r 6 8) z
    let w0 := ins (r 6 0) (r 0 1) z
    let w3 := ins (r 6 0x33) (r 0 1) z
    let s := sup 12 0
    Issues (.mfs r0) r0 s ∧ Free (.mfs r8) r8 s ∧ ownReg s 0 = some 1 ∧ sharedReg s 8 = some 0 ∧ Free (.mts w0) w0 s ∧
      Free (.mts w3) w3 s ∧ s.sup s.cur = true ∧ s.frozen 1 = false := by decide +kernel

/-- An entry for VA 0x20000 of every address space, at 0x30000, its PT line at 0x40; in s2, s3 and s4. -/
def stl (b : Nat) : State := sw fun x => sr 5 b (sr 4 0x40 (sr 3 0x301F0 (sr 2 0x20101 { x with status := 1 })))
theorem witness_TranslationInstructions :
    let w := ins (r 0 6) (r 0 2) (r 0 5)
    let v := ins (r 0 6) (im 0) (r 0 5)
    let i := ins (r 0 6) (r 0 2) (r 0 5)
    let bad := sw fun x => sr 2 0x20103 { x with status := 1 }
    let m := ins (r 0 8) z z
    let t := ins (r 0 8 1) z z
    (FreeSup (.tlbwr w) w (stl 0) ∧ (stl 0).ready (.clu 0) = true ∧ tlbRefusal (stl 0) (entryAt (stl 0).slot 2) = 0) ∧
    (FreeSup (.tlbwr w) w (stl 784) ∧ ((stl 784).slot.opS w.b).toNat = 784) ∧ ((stl 767).ready (.clu (767 / 48)) = false) ∧
    (FreeSup (.tlbrd v) v (stl 783)) ∧ (FreeSup (.tlbinv i) i (stl 0) ∧ (stl 0).fabBusy = false) ∧
    (FreeSup (.mbxwait m) m (stl 0) ∧ FreeSup (.mbxwait t) t (stl 0) ∧ ((stl 0).cluster 0).mailbox = []) ∧
    tlbRefusal bad (entryAt bad.slot 2) = 1 := by decide +kernel
theorem witness_TranslationInstructions_reply :
    let p := ins z (r 0 2) (r 0 5)
    FreeSup (.mbxpost p) p (stl 0) := by decide +kernel

/-- A context block's words at 0x10000 that CTXLD accepts: version 1, pc 24. -/
def ctxMem : List Host.Cell := memOf [(0x10000, 2 ^ 40), (0x10008, 24), (0x10110, 5)]
/-- The strand in supervisor state with s1 = 0x10000 and that block. -/
def sct (a : Nat) (m : List Host.Cell) : State := { sw fun x => sr 1 a { x with status := 1, cls := 0 } with mem := m }
theorem witness_ContextsAndDevices_contexts :
    let sv' := ins z (r 0 1) z
    let vv := ins (r 0 0 1) (r 0 1) z
    let s := sct 0x10000 ctxMem
    let o := sct 0x10001 []
    let f := sct (2 ^ 52 - 4096) []
    (FreeSup (.ctxsv sv') sv' s ∧ FreeSup (.ctxld sv') sv' s ∧ 0x10000 % 4096 = 0 ∧ isHbm 0x10000 = true ∧ s.quietSlot s.cur = true) ∧
    (FreeSup (.ctxsv vv) vv s ∧ s.slot.clsV = false) ∧
    (s.ctxZeros 0x10000 false = true ∧ fld (s.mem8 0x10000) 47 40 = 1 ∧ (s.mem8 0x10008).toNat % 12 = 0 ∧ s.mem8 0x10048 = 0 ∧
      s.mem8 0x107F8 = 0 ∧ (s.mem8 0x10000 >>> 48).setWidth 16 = s.asidOf s.cur) ∧
    (FreeSup (.ctxld sv') sv' (sct 0x10000 []) ∧ fld ((sct 0x10000 []).mem8 0x10000) 47 40 ≠ 1) ∧
    (FreeSup (.ctxsv sv') sv' o ∧ (o.slot.getS 1).toNat % 4096 ≠ 0) ∧
    (FreeSup (.ctxsv sv') sv' f ∧ isHbm (2 ^ 52 - 4096) = false) := by decide +kernel
theorem witness_ContextsAndDevices_devices :
    let g := ins (r 0 2 24) (r 0 1) z
    let l := ins (r 0 2) (r 0 1) z
    let h := ins z z z
    let p := ins (r 0 2 28) z z
    let q := ins (r 0 2 24) z z
    let t := ins (r 0 2) z z
    let s := sup 1 0
    let n := sup 2 0
    let c : State := { s with compacts := [(1, compact1)] }
    let gang : State := sw fun x => sr 1 0 { x with status := 1, gid := 5 }
    (FreeSup (.gstop g) g gang) ∧ (FreeSup (.l2mode l) l s ∧ (s.l2sw.getLast?.map L2Switch.part).getD s.coh.part = false ∧ s.compacts = []) ∧
    (FreeSup (.l2mode l) l n ∧ 1 < (n.slot.opU l.a).toNat) ∧ (FreeSup (.l2mode l) l c ∧ c.compacts ≠ []) ∧
    (FreeSup (.halt h) h s ∧ FreeSup (.pennant p) p s ∧ FreeSup (.pennant q) q s) ∧
    (Issues (.sense l) l s ∧ Issues (.time t) t s ∧ Free (.idle h) h s) := by decide +kernel

/-- Power stands, nothing is ready. -/
def son : State := { State.reset with power := true }
/-- The NMC and the four DCs have come, and it is 20 µs after reset. -/
def sdcs : State :=
  { son with rdy := (List.range 4).foldl (fun m d => setBit m (rdyIndex (.dcr d)) true) (setBit son.rdy (rdyIndex .nmc) true),
             time := { son.time with ns := 20000 } }
theorem witness_PowerAndSensors :
    son.power = true ∧ mayCome son .nmc ∧ (∀ g, Func.nmc ≠ .sds g) ∧ rdyIndex .nmc < 128 ∧ son.ready .nmc = false ∧ son.failed .nmc = false :=
  ⟨rfl, .inl rfl, fun _ => by simp, by decide, by decide +kernel, by decide +kernel⟩
theorem witness_PowerAndSensors_serdes :
    mayCome sdcs (.sds 3) ∧ sdcs.ready (.sds 3) = false ∧ sdcs.failed (.sds 3) = false ∧ (sdcs.group 3).st = .off ∧
      (sdcs.group 3).broken = false ∧ ¬ mayCome son (.sds 3) := by
  refine ⟨.inr ⟨by decide +kernel, .inr ?_⟩, by decide +kernel, by decide +kernel, by decide +kernel, by decide +kernel, ?_⟩
  · intro d h; interval_cases d <;> exact .inl (by decide +kernel)
  · rintro (h | ⟨h, -⟩)
    · cases h
    · exact absurd h (by decide +kernel)
theorem witness_PowerAndSensors_samples :
    (sdcs.acting (1 + 767 / 768) = true ∧ sdcs.need 0 < 8 ∧ 10000 ≤ sdcs.time.ns - Tbl.get sdcs.therm.moved 0 0) ∧
      (420 < (421 : BitVec 16).toInt ∧ 380 < (381 : BitVec 16).toInt ∧ (420 : BitVec 16).toInt ≤ 420 ∧ 440 < (441 : BitVec 16).toInt) ∧
      son.acting 1 = false ∧ sdcs.nmc.fatal = none ∧ sdcs.compacts = [] ∧ (1 = sdcs.need 0 + 1) ∧
      7600 < (7601 : BitVec 16).toNat ∧ Tbl.get sdcs.therm.droops 5 0 ≤ 65535 := by decide +kernel

/-! Witnesses: the optical engine and the SerDes groups. -/

/-- A flit of package 7 for this one: its TYPE, its SEQ, its payload. -/
def fli (typ seq : Nat) (pay : List Byte) : List Byte := flitBytes ⟨BitVec.ofNat 4 typ, BitVec.ofNat 12 seq, 0, 0, 7, 0, 0, 5⟩ pay
/-- That flit with its first byte overwritten. -/
def broken (b : List Byte) : List Byte := 0xEE :: b.drop 1
/-- The payload of a request's first flit. -/
def rqPay (r : Request) : List Byte := bytesOfNat 8 r.w0.toNat ++ bytesOfNat 8 r.w1.toNat ++ r.data
/-- The payload of a LINK flit: its subtype, with a word in bytes 8 to 15. -/
def linkPay (sub v : Nat) : List Byte := BitVec.ofNat 8 sub :: List.replicate 7 0 ++ bytesOfNat 8 v
/-- A load, a store and an atomic addition at 0x100. -/
def rqL : Request := mkRequest 0 0 0x100 8 0 []
/-- The store. -/
def rqS : Request := mkRequest 1 1 0x100 2 0 [0xAA, 0xBB]
/-- The atomic. -/
def rqA : Request := mkRequest 2 0 0x100 8 1 (List.replicate 16 1)
/-- A malformed request: a load of 8 bytes and a reserved bit. -/
def rqM : Request := { rqL with w1 := rqL.w1 ||| 1 }

/-- Port 3 in a state. -/
def sport (f : OPort → OPort) : State := (s0.setPort 3 (f (s0.port 3))).setGroup 3 (s0.group 3)
/-- A port that is up with two flits sent and not acknowledged. -/
def pUp (x : OPort) : OPort :=
  { x with tx := .up, rx := .up, buf := [(0, ⟨0, 7, 0, 0, 0, 0, [], none⟩), (1, ⟨0, 7, 0, 0, 0, 1, [], none⟩)], ackDue := true, lost := 5,
           txLive := BitVec.allOnes 64, rxLive := BitVec.allOnes 64, fset := 15, n := 16 }
/-- The part with that port. -/
def su : State := sport pUp
/-- The first 112 of 200 bytes of a store have arrived; a load of slot 0 awaits its answer from package 7 with tag 5. -/
def sasm : State :=
  { su with optic := { su.optic with asm := [⟨flitHead (fli 2 0 []), some rqS, 0, 200, List.replicate 112 0⟩], marks := [(7, 5, 1)] },
            fab := { su.fab with out := [⟨5, 7, rqL, 0, 0, 0, 0, 0, .scalar, 1, 0, false⟩] } }
/-- The `.pod` round runs. -/
def spod : State := { su with rounds := { su.rounds with podRun := true } }

theorem witness_OpticalEngine_flits :
    let d := broken (fli 1 0 (rqPay rqL))
    (flitOk d = false ∧ isReq 0 d = true ∧ (su.port 3).rx.live = true ∧ su.power = true) ∧
    (flitOk (fli 5 0 (bytesOfNat 8 1)) = true ∧ isType 5 (fli 5 0 (bytesOfNat 8 1)) = true ∧ spod.waitsBehind 3 (fli 5 0 (bytesOfNat 8 1)) = true) ∧
    (Arrives su 3 (fli 1 7 (rqPay rqL)) ∧ (flitHead (fli 1 7 (rqPay rqL))).seq ≠ (su.port 3).want ∧ isReq 0 (fli 1 7 (rqPay rqL)) = true) ∧
    (Arrives su 3 (fli 1 4000 (rqPay rqL)) ∧ 2048 < ((0 : BitVec 12) - 2000).toNat) ∧
    (Arrives { su with fab := { su.fab with me := 1 } } 3 (fli 1 0 (rqPay rqL)) ∧ (flitHead (fli 1 0 (rqPay rqL))).dst.toNat ≠ 1) := by
  decide +kernel
/-- A request's first flit at port 3. -/
def rqf (r : Request) : List Byte := fli 1 0 (rqPay r)
theorem witness_OpticalEngine_loads :
    ForMe su 3 (rqf rqL) ∧ (flitHead (rqf rqL)).typ = 1 ∧ requestOf (rqf rqL) = rqL ∧ rqL.op = 0 ∧ Servable su rqL ∧ su.rangeHeld 0x100 8 = false ∧
      su.rangeBad 0x100 8 = false := by decide +kernel
theorem witness_OpticalEngine_stores :
    ForMe su 3 (rqf rqS) ∧ requestOf (rqf rqS) = rqS ∧ rqS.op = 1 ∧ rqS.len = 2 ∧ Servable su rqS ∧ su.partialBad 0x100 2 = false := by
  decide +kernel
theorem witness_OpticalEngine_atomics :
    ForMe su 3 (rqf rqA) ∧ requestOf (rqf rqA) = rqA ∧ rqA.op = 2 ∧ Servable su rqA ∧ ForMe su 3 (rqf rqM) ∧
      (requestOf (rqf rqM)).malformed = true := by decide +kernel
theorem witness_OpticalEngine_held :
    let h : State := { su with clines := [(4, ⟨1, 0, 0, 0⟩)] }
    let p : State := { su with coh := { su.coh with poison := [4] } }
    ForMe h 3 (rqf rqL) ∧ h.rangeHeld 0x100 8 = true ∧ ForMe p 3 (rqf rqL) ∧ p.rangeHeld 0x100 8 = false ∧ p.rangeBad 0x100 8 = true := by
  decide +kernel
theorem witness_OpticalEngine_answers :
    let d := fli 2 0 (List.replicate 128 1)
    let r := fli 3 0 (bytesOfNat 8 0 ++ bytesOfNat 8 9)
    let k := fli 4 0 [1]
    (ForMe sasm 3 d ∧ (flitHead d).typ = 2 ∧ (sasm.optic.asm.find? fun a => a.h.src == (flitHead d).src && a.h.path == (flitHead d).path &&
        a.h.tag == (flitHead d).tag).isSome = true ∧ ForMe su 3 d ∧ su.optic.asm = []) ∧
    (ForMe sasm 3 r ∧ (flitHead r).typ = 3 ∧ sasm.reqOf 7 5 = some ⟨5, 7, rqL, 0, 0, 0, 0, 0, .scalar, 1, 0, false⟩ ∧ rqL.len ≤ 8 ∧
      sasm.slotOf 0 0 = some 0 ∧ payWord (flitPay r) 0 = 0 ∧ su.reqOf 7 5 = none) ∧
    (ForMe sasm 3 k ∧ (flitHead k).typ = 4 ∧ natOfBytes ((flitPay k).take 1) ≤ 1) := by decide +kernel

/-- A fibre lost: its 16 wavelengths dark. -/
def dark : Word64 := 0xFFFFFFFFFFFF0000
/-- A route to package 7 over port 3, one hop. -/
def route7 (res : Nat) : RouteConf := ⟨[⟨7, 8, res, 1, [], []⟩], [], 0⟩
/-- The first MSA request, of slot 0. -/
def smsa : State := { s0 with msaq := [⟨0x100, 8, 1, 5, 0, .slot 0 0, (0, 0)⟩] }
theorem witness_OpticalEngine_links :
    let at1 (b : List Byte) (k : Nat) : Prop := (su.port 3).rx.live = true ∧ flitOk b = true ∧ (flitHead b).typ = 6 ∧ linkSub (flitPay b) = k ∧
      badBound (flitPay b) = false
    let y := (su.port 3).acked su.time.ns 0
    at1 (fli 6 0 (linkPay 0 0)) 0 ∧ at1 (fli 6 0 (linkPay 1 0)) 1 ∧ at1 (fli 6 0 (linkPay 2 dark.toNat)) 2 ∧ at1 (fli 6 0 (linkPay 3 dark.toNat)) 3 ∧
      at1 (fli 6 0 (4 :: 0 :: 1 :: List.replicate 13 0)) 4 ∧ linkSub (flitPay (fli 6 0 (linkPay 9 0))) = 9 ∧
      y.buf = (1, ⟨0, 7, 0, 0, 0, 1, [], none⟩) :: [] ∧ y.tx = .up ∧ (stripeOf dark).2 ≠ 0 ∧ (stripeOf 0).2 = 0 ∧
      flitOk (broken (fli 6 0 (linkPay 0 0))) = false := by decide +kernel
theorem witness_OpticalEngine_ports :
    let late : State := { su with time := { su.time with ns := 5000 } }
    su.power = true ∧ (su.port 3).buf = [(0, ⟨0, 7, 0, 0, 0, 0, [], none⟩)] ++ (1, ⟨0, 7, 0, 0, 0, 1, [], none⟩) :: [] ∧ (su.port 3).queue = [] ∧
      (late.port 3).linked = true ∧ (late.port 3).ackAt + 256 ≤ late.time.ns ∧ (late.port 3).advAt + 2000 ≤ late.time.ns ∧ (su.port 3).tx = .up ∧
      (su.port 3).rx.live = true ∧ dark ≠ (su.port 3).rxLive ∧ (stripeOf dark).2 ≠ 0 ∧ (su.port 3).lit &&& dark ≠ (su.port 3).lit ∧
      (su.port 3).tx.live = true ∧ (su.port 3).lit &&& (su.port 3).lit = (su.port 3).lit ∧ (s0.port 3).tx.live = false := by decide +kernel
theorem witness_OpticalEngine_states :
    let r := sport fun x => { x with tx := .replay, rx := .replay }
    let t := sport fun x => { x with tx := .train }
    let d := sport fun x => { x with tx := .up, rx := .up, drain := true }
    let up : State := { su with rdy := (List.range 4).foldl (fun m k => setBit m (rdyIndex (.oec k)) true) su.rdy }
    ((r.port 3).rx = .replay ∧ (r.port 3).tx = .replay ∧ (t.port 3).tx = .train ∧ (s0.port 3).tx = .down) ∧
      (up.acting (21 + 3 / 4) = true ∧ (up.port 3).tx = .up ∧ (up.port 3).rx = .up) ∧
      ((d.port 3).drain = true ∧ (d.port 3).buf = [] ∧ (d.port 3).queue = [] ∧ (d.port 3).tx = .up ∧ (d.port 3).rx = .up) ∧
      ({ s0 with rdy := setBit s0.rdy (rdyIndex (.opt 3)) true } : State).ready (.opt 3) = true ∧
      (s0.badRoute (route7 0) = false ∧ s0.badRoute (route7 1) = true ∧ ∀ k, k ∈ (route7 0).dies → s0.failed (.oec k) = false ∧
        s0.frozen (21 + k) = false) ∧
      (smsa.msaq[0]? = some ⟨0x100, 8, 1, 5, 0, .slot 0 0, (0, 0)⟩ ∧ smsa.msaq.take 0 = [] ∧ (smsa.getSlot 0).occ = true ∧ smsa.msaq.length ≤ 1) := by
  decide +kernel

/-- Group 3 in a state, its window bound. -/
def sgrp (f : Group → Group) : State := { s0.setGroup 3 (f (s0.group 3)) with windows := [⟨3, 2 ^ 47, 2 ^ 40, false⟩] }
/-- READY in a personality. -/
def gUp (p : Nat) (x : Group) : Group := { x with st := .ready, pers := p }
/-- READY in a personality, its controller in service. -/
def sgUp (p : Nat) : State := let s := sgrp (gUp p); { s with rdy := setBit s.rdy (rdyIndex (.sgc 3)) true }
theorem witness_SerdesGroups_switch :
    let u := sgUp 0
    let z0 := s0.setGroup 0 (gUp 0 (s0.group 0))
    bit (0x80000000 : Word32) 31 = true ∧ u.frozen (25 + 3) = false ∧ (u.group 3).st = .ready ∧ u.ready (.sgc 3) = true ∧ (s0.group 3).st ≠ .ready ∧
      (z0.group 0).st = .ready ∧ (sgrp (gUp 0)).ready (.sgc 3) = false ∧ u.carriesCompact 3 = false ∧
      ({ u with compacts := [(1, { compact1 with sets := [(0, [3])] })] } : State).carriesCompact 3 = true ∧
      fld (0x8C000000 : Word32) 27 26 = 3 ∧ fld (0x84000000 : Word32) 27 26 < 3 ∧ fld (0x84000000 : Word32) 27 26 ≠ (u.group 3).pers := by
  decide +kernel
theorem witness_SerdesGroups_passes :
    let st (t : GroupSt) : State := sgrp fun x => { x with st := t, pend := 1, sw := true }
    let k : Packet := ⟨1, 0, 0, 0, 0, [], 0, 0, 0, 0⟩
    ((st .drain).group 3).st = .drain ∧ ((st .drain).group 3).out = [] ∧ (st .drain).host.parked = [] ∧
      ((sgrp fun x => { x with st := .drain, out := [k] }).group 3).out ≠ [] ∧ ((st .unbind).group 3).st = .unbind ∧
      ((st .retrain).group 3).st = .retrain ∧ 1 < ((st .retrain).group 3).tries ∧ ((sgrp fun x => { x with tries := 1 }).group 3).tries ≤ 1 ∧
      ((st .load).group 3).st = .load ∧ ((st .bind).group 3).st = .bind ∧ ((st .bind).group 3).broken = false ∧
      ((sgrp fun x => { x with st := .bind, broken := true }).group 3).broken = true := by decide +kernel
/-- Group 3 in personality 2, with the compact. -/
def scg (step : Nat) : State := { sgrp (gUp 2) with compacts := [(1, { compact1 with step := step })] }
theorem witness_SerdesGroups_requests :
    let u := sgrp (gUp 1)
    let v := sgrp (gUp 0)
    let h : State := { u with clines := [(4, ⟨1, 0, 0, 0⟩)] }
    let p : State := { u with coh := { u.coh with poison := [4] } }
    (u.group 3).st = .ready ∧ (u.group 3).pers = 1 ∧ (v.group 3).pers = 0 ∧ u.rangeStatus 0x100 64 = 0 ∧ u.rangeHeld 0x100 64 = false ∧
      u.rangeBad 0x100 64 = false ∧ u.partialBad 0x100 64 = false ∧ h.rangeStatus 0x100 64 = 0 ∧ h.rangeHeld 0x100 64 = true ∧
      p.rangeHeld 0x100 64 = false ∧ p.rangeBad 0x100 64 = true ∧ p.partialBad 0x100 2 = true ∧ u.rangeStatus (2 ^ 52 - 64) 64 ≠ 0 ∧
      (s0.group 3).st ≠ .ready := by decide +kernel
theorem witness_SerdesGroups_packets :
    let w0 (step : Nat) : Word64 := BitVec.ofNat 64 (2 ^ 48 + step * 2 ^ 16 + 1)
    let d : List Byte := List.replicate 64 0
    let k : Packet := ⟨1, 0, 0, 0, 0, [], 0, 0, 0, 0⟩
    ((scg 5).group 3).st = .ready ∧ ((scg 5).group 3).pers = 2 ∧ ((scg 5).group 3).got = [] ∧ Tbl.get? (sgrp (gUp 2)).compacts 1 = none ∧
      d.length = 64 * fld (w0 5) 15 0 ∧ fld (w0 5) 47 16 = 5 ∧ fld (w0 6) 47 16 = 6 ∧ fld (w0 7) 47 16 = 7 ∧
      (Tbl.get? (scg 5).compacts 1).map Compact.step = some 5 ∧ (compact1.mems[0]?).map MemberDesc.pkg = some (scg 5).fab.me ∧
      (scg 5).fab.me = 0 ∧ compact1.mems[1]? = none ∧ ((sgrp fun x => { x with out := [k] }).group 3).out[0]? = some k := by decide +kernel

/-! Witnesses: the host's accesses and the maintenance of the part. -/

/-- Port 3 in a state: CLMASK cluster 0. -/
def slp (x : Port) : State := s0.setLp 3 x
/-- A port entry: one member, or none, with join word and store at 0x40. -/
def pent (m : Nat) : PortEnt := ⟨9, [0, 0, 0, 0x40, 77, 0, 0x40], m, 0, 0, none, 0, 0, false, false, false, none, []⟩
/-- A port with entry 9. -/
def sent9 (m : Nat) : State := slp { Port.reset with ents := [pent m], acc := 10, tail := 10, head := 9 }
/-- Group 0 presents the device. -/
def shost : State := { s0 with rdy := setBit s0.rdy (rdyIndex (.sds 0)) true }
theorem witness_HostAccesses_memory :
    let h : State := { shost with clines := [(4, ⟨1, 0, 0, 0⟩)] }
    s0.ready (.sds 0) = false ∧ HostMove (.updateGo 0) ∧ shost.ready (.sds 0) = true ∧ shost.stackLost 0x100 64 = false ∧
      shost.rangeHeld 0x100 64 = false ∧ shost.rangeBad 0x100 64 = false ∧ h.rangeHeld 0x100 64 = true ∧ h.stackLost 0x100 64 = false ∧
      shost.stackLost stackSize 64 = true ∧ 0x100 + 64 ≤ hbmEnd ∧ StoreReaches shost 0x100 64 4 ∧ ¬ StoreReaches h 0x100 64 4 :=
  ⟨by decide +kernel, .inr (.inr (.inr (.inr (.inr (.inr (.inr (.inl ⟨0, rfl⟩))))))), by decide +kernel⟩
theorem witness_HostAccesses_ports :
    let on := slp { Port.reset with cfg := 0x8000000100000000 }
    let v : Word64 := 0x8001000100000000
    let up : State := { s0 with rdy := (List.range 4).foldl (fun m k => setBit m (rdyIndex (.dcr k)) true) s0.rdy }
    up.acting (1 + 3 / 16) = true ∧ s0.acting (1 + 3 / 16) = false ∧ (s0.lp 3).en = false ∧ (s0.lp 3).head = (s0.lp 3).acc ∧ (on.lp 3).en = true ∧ 256 < ((257 : Word32) - (s0.lp 3).acc).toNat ∧
      ((1 : Word32) - (s0.lp 3).acc).toNat ≤ 256 ∧ (s0.lp 3).acc ≠ 1 ∧ fld v 59 48 ≤ 1024 ∧ bit v 63 = true ∧ s0.frozen (1 + 3 / 16) = false ∧
      s0.overbooked 3 { s0.lp 3 with cfg := v &&& 0x7FFFFFFFFFFFFF00 } = false ∧
      s0.overbooked 3 { s0.lp 3 with cfg := 0x0400000200000000 } = true := by decide +kernel
theorem witness_HostAccesses_launches :
    let x := (sent9 1).lp 3
    let e := (sent9 0).lp 3
    (x.ents.find? fun f => f.seq == 9 && f.m != 0 && !f.joined && f.park.isNone) = some (pent 1) ∧
    (sent9 1).lookupIn 0 x.asid.toNat 0x40 .atomic = .here 0x40 false false ∧ (pent 1).words.getD 6 0 = 0x40 ∧
    (sent9 1).lookupIn 0 x.asid.toNat 0x10000 .atomic ≠ .unbacked ∧ ((sent9 1).die 0).ages = [] ∧
    (e.ents.find? fun f => !f.placed) = some (pent 0) ∧ (sent9 0).lookupIn 0 e.asid.toNat 0x40 .store = .here 0x40 false false ∧
    (sent9 0).rangeHeld 0x40 8 = false ∧ (sent9 0).poisoned 1 = false ∧
    (x.ents.find? fun f => f.seq == 9 && !f.placed && f.m != 0) = some (pent 1) := by decide +kernel
theorem witness_HostAccesses_queue :
    let d : State := { s0 with evq := { s0.evq with due := true, int := true }, time := { s0.time with ns := 1000000 } }
    s0.evq.en = false ∧ s0.evq.held = [] ∧ d.evq.due = true ∧ d.evq.int = true ∧ d.evq.sentAt + 1000 ≤ d.time.ns ∧
      (pent 1).at0 + ((sent9 1).die 0).sdtage.toNat ≤ 1000000 ∧ (pent 1).words.getD 3 0 ≠ 0 := by decide +kernel

/-- The NMC in service at an update of TSC 0 (controller 5). -/
def snm (f : Nmc → Nmc) : State :=
  { s0 with nmc := f { s0.nmc with uctl := 5 }, time := { s0.time with ns := 50000000 }, rdy := setBit s0.rdy (rdyIndex .nmc) true }
/-- A header at 0x8000 that every check admits: MLIE, kind 3, length 64, version 1. -/
def simg : State :=
  { snm (fun n => { n with st := .stage, upaddr := 0x8000, keys := [1, 0, 0, 0] }) with
    mem := memOf [(0x8000, 0x454C494D * 2 ^ 32 + 3 * 2 ^ 24), (0x8008, 1), (0x8010, 64 * 2 ^ 32), (0x8040, 1)] }
/-- Key 0 is the neutral element of the curve, under which S = 0 and R neutral verify. -/
theorem witness_Maintenance_staged :
    simg.nmc.st = .stage ∧ simg.serves 0 = true ∧ simg.rangeStatus simg.nmc.upaddr.toNat 128 = 0 ∧ simg.rangeBad simg.nmc.upaddr.toNat 128 = false ∧
      simg.rangeStatus (0x8000 + 128) 64 = 0 ∧ simg.rangeBad (0x8000 + 128) 64 = false ∧
      simg.imageFault 5 (simg.rangeBytes 0x8000 128) (simg.rangeBytes 0x8080 64) = 0 := by decide +kernel
theorem witness_Maintenance_passes :
    let st (u : UpSt) : State := snm fun n => { n with st := u }
    let hp := st .waithp
    ((st .start).recordOk = true ∧ (st .start).abandoned = false ∧ (st .start).nmc.since + 50 * 1000000 = 50000000) ∧
    (hp.nmc.st = .waithp ∧ hp.handoverOk 5 = true ∧ hp.serves 0 = true) ∧ (st .freeze).nmc.st = .freeze ∧
    ((st .start).nmc.st = .start ∧ ((st .start).staged 5).fmtMin ≤ ((st .start).running 5).fmtOut ∧
      ((st .start).running 5).fmtOut ≤ ((st .start).staged 5).fmtMax ∧ (st .start).nmc.held = []) ∧
    (st .rollback).nmc.st = .rollback ∧
    (st .start).nmc.since + (if (st .start).nmc.wd = 0 then 50 else (st .start).nmc.wd) * 1000000 ≤ (st .start).time.ns ∧
    (st .rollback).nmc.since + 5000000 ≤ (st .rollback).time.ns ∧ s0.nmc.st = .idle ∧ (st .stage).nmc.st ≠ .idle ∧
    ((snm fun n => { n with st := .stage, upaddr := BitVec.ofNat 64 stackSize }).rangeStatus stackSize 128 ≠ 0) := by decide +kernel
theorem witness_Maintenance_events :
    let q := snm fun n => { n with quotes := 1 }
    let f := snm fun n => { n with fatal := some (1, 0), cut := some 0 }
    (q.nmc.quotes ≠ 0 ∧ q.acting 0 = true) ∧ s0.nmc.fatal = none ∧ (f.nmc.fatal = some (1, 0) ∧ f.nmc.cut ≠ none ∧ f.nmc.dumped = false ∧ f.frozen 0 = false) ∧
      f.dumpPlace = 2 ∧ bit (0x80000005 : Word32) 31 = true ∧ fld (0x80000005 : Word32) 11 0 < 3072 := by decide +kernel

/-! Witnesses: the strand dispatchers. -/

/-- A READY record of priority 1 at 0x400, at the head of cluster 0's queue 1. -/
def sq : State :=
  { sk [(0x400, 0x300), (0x408, 0x10), (0x438, 0x00FF000000000000)] id with
    clusters := Tbl.set s0.clusters 0 { s0.cluster 0 with queues := (s0.cluster 0).queues.setIfInBounds 1 [⟨[0x400], false, 0⟩] } }
theorem witness_DispatcherMoves_place :
    sq.power = true ∧ sq.pressed 0 = false ∧ sq.portQueue 0 = [] ∧ (∀ p, 1 < p → p < 8 → sq.queue 0 p = []) ∧
      sq.queue 0 1 = [⟨[0x400], false, 0⟩] ∧ bit (sq.recWord 0x400 1) 11 = false ∧
      (sq.chooseSlot 0 (fld (sq.recWord 0x400 7) 55 48) false).isSome = true := by
  refine ⟨by decide +kernel, by decide +kernel, by decide +kernel, ?_, by decide +kernel, by decide +kernel, by decide +kernel⟩
  intro p h1 h8
  interval_cases p <;> decide +kernel
/-- Slot 0's quantum at 0; its context block at 0x8000. -/
def sqt (c : Nat) : State := sk [] fun x => { x with quantum := 0, ctx := 0x8000, cls := BitVec.ofNat 4 c }
theorem witness_DispatcherMoves_quantum :
    let o := sqt 0
    let k := sqt 4
    (isTsc 0 = false ∧ (o.getSlot 0).occ = true ∧ (o.getSlot 0).quantum = 0 ∧ (o.getSlot 0).stop = .none ∧ (o.core 0).halted = false) ∧
    (k.getSlot 0).clsC = true ∧ (o.getSlot 0).clsC = false ∧ o.pressed 0 = false ∧ o.outranked 0 = false ∧ (o.cluster 0).resvs = [] ∧
    (o.getSlot 0).ctx ≠ 0 := by decide +kernel
/-- Every tile of cluster 0 loads a partition, so no slot is eligible, and queue 2 outranks slot 0. -/
def sout : State :=
  let s := sqt 0
  { s with tiles := (List.range 48).map fun t => (t, { s.tile t with load := some 0 }),
           clusters := Tbl.set s.clusters 0 { s.cluster 0 with queues := (s.cluster 0).queues.setIfInBounds 2 [⟨[0x400], false, 0⟩] } }
theorem witness_DispatcherMoves_outranked : sout.outranked 0 = true ∧ (sout.getSlot 0).ctx ≠ 0 := by decide +kernel
theorem witness_DispatcherMoves_stop :
    let p := (sqt 0).modSlot 0 fun x => { x with stop := .preempt false }
    let g : State := { (sqt 0).modSlot 0 fun x => { x with stop := .gang } with gstops := [⟨⟨1, 3, 0, 0, 0, 0⟩, 6, none, [0], 0, false⟩] }
    (p.getSlot 0).stop = .preempt false ∧ (p.getSlot 0).occ = true ∧ p.atBoundary 0 = true ∧ (p.getSlot 0).prio.toNat < 8 ∧
      g.gstops[0]? = some ⟨⟨1, 3, 0, 0, 0, 0⟩, 6, none, [0], 0, false⟩ ∧ ([0] : List Nat).Nodup ∧
      (g.getSlot 0).ctx ≠ 0 ∧ (g.getSlot 0).occ = true ∧ g.atBoundary 0 = true ∧ (g.getSlot 0).stop = .gang := by decide +kernel
/-- A gang of two at the head of queue 1, older than the aging time. -/
def sgang : State :=
  { sk [(0x400, 0x300), (0x408, 0x810)] id with
    time := { s0.time with ns := 100000000 },
    clusters := Tbl.set s0.clusters 0 { s0.cluster 0 with queues := (s0.cluster 0).queues.setIfInBounds 1 [⟨[0x400, 0x440], false, 0⟩] } }
theorem witness_DispatcherMoves_gang :
    ((sgang.cluster 0).queues.toList.flatten.find? fun e => e.recs.head? == some (0x400 : BitVec 48).toNat && !e.pre) =
        some ⟨[0x400, 0x440], false, 0⟩ ∧
      0 + (sgang.die 0).sdtage.toNat ≤ sgang.time.ns ∧ (sgang.die 0).ages = [] ∧
      ({ sgang with rdy := setBit sgang.rdy (rdyIndex (.dcr 0)) true } : State).acting 1 = true ∧ bit (sgang.recWord 0x400 1) 11 = true ∧ (sgang.cluster 0).resvs = [] ∧
      (∀ i, i < 48 → (sgang.tile i).held = none) ∧ cdiv 2 16 ≤ 48 := by
  refine ⟨by decide +kernel, by decide +kernel, by decide +kernel, by decide +kernel, by decide +kernel, by decide +kernel, ?_, by decide⟩
  have h : ∀ i : Fin 48, (sgang.tile i).held = none := by decide +kernel
  exact fun i hi => h ⟨i, hi⟩
/-- A record parked on the word at 0x100, which is written. -/
def swatch (v : Nat) : State :=
  let s := sk [(0x100, v)] id
  { s with touched := [lineKey 256 4], clusters := Tbl.set s.clusters 0 { s.cluster 0 with watch := [⟨0x400, 0x100, true, 0, 0, none⟩] } }
/-- Address space 0, known to cluster 0, quiet since cycle 0, slot 0's record its designated one. -/
def squiet : State :=
  let s := sk [] fun x => { x with wait := .recv, busyS := 8 }
  { s with desig := [(0, 0x200)], time := { s.time with cyc := 4096 },
           clusters := [(0, { s.cluster 0 with asids := (Vector.replicate 16 none).setIfInBounds 0 (some ⟨0, none, 1⟩) })] }
theorem witness_DispatcherMoves_watch :
    let u := (sqt 0).setTile 0 { s0.tile 0 with load := some 4 }
    waitCond 0 ((swatch 0).watched 16 ⟨0x400, 0x100, true, 0, 0, none⟩) 0 = true ∧
      waitCond 0 ((swatch 5).watched 16 ⟨0x400, 0x100, true, 0, 0, none⟩) 0 = false ∧ Tbl.get? (swatch 0).clines 4 = none ∧
      (swatch 0).touched = [lineKey (256 + 0) 4] ∧ (u.tile 0).load = some 4 ∧ (u.tile 0).mxq = [] ∧ (u.tile 0).req = [] := by decide +kernel
theorem witness_DispatcherMoves_lands :
    let l : State := { squiet with landings := [⟨0, 3, 0x200, 0, 0, 77⟩] }
    (bit (l.getSlot 0).busyS 3 = true ∧ l.landings[0]? = some ⟨0, 3, 0x200, 0, 0, 77⟩ ∧ (l.getSlot 0).occ = true ∧ (l.getSlot 0).recAddr = 0x200) ∧
    ((List.range 16).filter fun k => squiet.holdsAsid 0 k) = [0] ∧ squiet.liveIn 0 0 = false ∧ squiet.trafficIn 0 0 = false ∧
      Tbl.get squiet.quiet 0 0 + 4096 ≤ squiet.time.cyc ∧ 0 ∉ squiet.hung ∧ Tbl.get? squiet.desig 0 = some 0x200 ∧
      (squiet.slots.find? fun e => e.2.occ && e.2.recAddr.toNat == 0x200).isSome = true := by decide +kernel
/-- The NMC acts; a `.dev` round runs, in which die 0 has told its own and every input of every die has delivered but input 2 of die 0. -/
def sround (seen : List (Bool × Nat)) : State :=
  let r : Rounds := { s0.rounds with devRun := true, told := [(false, 0)], fly := [(false, 0, 2)], seen := seen,
                                     units := #v[(0, 0), (1, 0), (1, 0), (1, 0)] }
  { s0 with rounds := r }
theorem witness_DispatcherMoves_rounds :
    let i : State := { s0 with rdy := setBit s0.rdy (rdyIndex .nmc) true }
    let a := sround []
    let b := sround ((s0.dieInputs false 0).map fun j => (false, j)).tail
    (i.injects false = true ∧ i.rounds.running false = false ∧ i.diesUp = 0 :: [1, 2, 3]) ∧ s0.injects false = false ∧
    ((false, 0, 2) ∈ a.rounds.fly ∧ a.rounds.running false = true ∧ (false, 0) ∈ a.rounds.told ∧ a.rounds.seen = [] ∧ a.ring.gone = []) ∧
    ((s0.dieInputs false 0).head? = some 2 ∧ (∀ j, j ∈ b.dieInputs false 0 → j = 2 ∨ (false, 0 * 16 + j) ∈ b.rounds.seen)) ∧
    (∀ e, e ∈ b.diesUp → e = 0 ∨ b.rounds.entered false e = b.rounds.edge false + 1) ∧ b.rounds.entered false 0 = b.rounds.edge false := by
  decide +kernel
theorem witness_DispatcherMoves_traps :
    let m := sk [] fun x => { x with lm := some 5, lh := true }
    let i := sk [] fun x => { x with wait := .idle 0 }
    (m.getSlot 0).occ = true ∧ (m.getSlot 0).gone = false ∧ (m.getSlot 0).wait ≠ .launch ∧ m.accessFree 0 = true ∧ m.compactAt 0 = false ∧ (m.getSlot 0).lm = some 5 ∧
      (i.getSlot 0).wait = .idle 0 ∧ (0 : Nat) ∈ ({ s0 with ring := ⟨[], [0], []⟩ } : State).ring.suspect := by decide +kernel

/-! Witnesses: tiles, translation caches, compacts, coherence. -/

/-- A read stream of two register-fulls of i32 from offset 0 of the window, bound to v12 of slot 0. -/
def strm : Stream := ⟨2 ^ 61 + 8 * 2 ^ 48, 256, 2, [], false, false, 0, none, [], [], 0⟩
/-- The state with it, or with `b` in its place. -/
def sst (b : Stream) : State := (s0.setTile 0 { s0.tile 0 with scr := 16 }).modSlot 0 fun x => x.setStream 12 (some b)
/-- A waiter of semaphore 3 in tile 0: the MX queue's head. -/
def semq : State :=
  let s := s0.semPut 0 3 5
  s.setTile 0 { s.tile 0 with semw := [⟨3, 2 ^ 20 + 5, 2, ins z z z⟩], mxq := [mkCmd s 0x2CB (ins z (im 3) (im 2)) [3, 2]] }
/-- A posted fault of slot 0. -/
def prk : Park := ⟨1, 0, 0x5000, 6, 1, 0, true, false, 0⟩
/-- Slot 0 parked on it, with a reply in the mailbox; a message of slot 0 under way to tile 0; a translation line with a holder. -/
def sprk (w : Word64) : State :=
  { s0.modSlot 0 fun x => { x with park := some prk, wait := .fault, busyS := 8 } with
    xl := { s0.xl with replies := [(0, 0, w)], ptl := [(0x40, ⟨[0], [0], [], [0]⟩)] }, sent := [⟨0, 0, 3, 0, 0, (0, 0), ⟨0, 0, 7, 0⟩⟩],
    tlbRegs := [⟨0, 3, 0, 0, 0, 9⟩] }
theorem witness_TilesAndCompacts_units :
    let v := s0.setCore 1 { s0.core 1 with vq := [16] }
    ((v.core 0).vq = [] ∧ (v.core 2).vq = [] ∧ (v.core 3).vq = [] ∧ (v.core 1).vq = 16 :: [] ∧ (v.tile 0).lanes = #v[0, 0, 0, 0] ∧
      (v.tile 0).vcyc = 0) ∧
    (semq.semReady 0 3 = some ⟨3, 2 ^ 20 + 5, 2, ins z z z⟩) ∧
    ((sst strm).getSlot 0).stream 12 = some strm ∧ strm.write = false ∧ strm.pos + strm.ahead.length < strm.cnt ∧ strm.win = true ∧
      (strm.addr 0).toNat < 0x3000000 ∧ ((sst strm).tile 0).held = none ∧ 256 ≤ ((sst strm).tile 0).scr.toNat * 65536 ∧
      (sst strm).tsPoison = [] ∧ ({ strm with w2 := 0 } : Stream).cnt ≤ ({ strm with w2 := 0 } : Stream).pos := by decide +kernel
theorem witness_TilesAndCompacts_faults :
    let d := sprk (2 ^ 56 + 6)
    let o := sprk 6
    ((d.getSlot 0).park = some prk ∧ (d.getSlot 0).wait = .fault ∧ prk.eng = 0 ∧ prk.due ≤ d.time.cyc ∧ prk.out = true ∧
      prk.tag.toNat = fld (2 ^ 56 + 6 : Word64) 29 0 ∧ fld (2 ^ 56 + 6 : Word64) 63 56 = 1 ∧ fld (6 : Word64) 63 56 = 0) ∧
    ((0, 0, 2 ^ 56 + 6) ∈ d.xl.replies ∧ (0, 0, 6) ∈ o.xl.replies) ∧ (o.sent = [⟨0, 0, 3, 0, 0, (0, 0), ⟨0, 0, 7, 0⟩⟩] ∧ bit (o.getSlot 0).busyS 3 = true ∧ o.ready (.clu 0) = true) ∧
    (Tbl.get? o.xl.ptl 0x40 = some ⟨[0], [0], [], [0]⟩ ∧ o.ring.suspect.contains (dieOfCache 0) = false ∧ o.fabBusy = false) ∧
    (o.tlbRegs.find? fun l => l.slot == 0) = some ⟨0, 3, 0, 0, 0, 9⟩ ∧ s0.compactOf 0 = none ∧ (sc.compactOf 0).isSome = true := by decide +kernel

/-- The compact in a state; its tile free or held. -/
def scmp (st : CState) (f : Compact → Compact) : State :=
  { (if st = .signing then s0.modSlot 0 (fun x => { x with occ := false }) else sc) with compacts := [(1, f { compact1 with st := st })] }
/-- A compact of tiles 0 and 1; a unit of tile 0 for tile 1 in the send buffer. -/
def sxfer : State :=
  let u : XferUnit := ⟨1, 0, 1, 64, 5, false, 0, 0, (0, 0)⟩
  let m (i : Nat) : MemberDesc := ⟨0, i, [1, 0, 0, 0], 0x1000, 0x2000, [], [], 0, 12, 0, [], [(0, 0, 1)]⟩
  let s := (s0.modSlot 0 fun x => { x with cls := 4, ended := true, wait := .expect }).setTile 0 { s0.tile 0 with held := some { member0 with send := [u] } }
  { (s.setTile 1 { s.tile 1 with held := some { member0 with idx := 1 } }) with compacts := [(1, { compact1 with mems := [m 0, m 1] })] }
theorem witness_TilesAndCompacts_compacts :
    let g := scmp .signing id
    let r := scmp .running fun c => { c with tdl := 3 }
    let b := { (r.modSlot 0 fun x => { x with arrived := true }) with time := { s0.time with ns := 3000 } }
    let e := { (b.setTile 0 { b.tile 0 with held := some { member0 with exp := [(0, 1)] } }) with time := { s0.time with ns := 3000 } }
    (compact1.diss = false ∧ compact1.stopPending = false ∧ compact1.joinPa = none ∧ g.occupied 0 = []) ∧
    (compact1.t0 + 1000 * compact1.entry.getD 0 ≤ g.time.ns) ∧
    (g.tileQuiet 0 = true ∧ (b.tile 0).mxq = [] ∧ (b.core 0).ceq = [] ∧ (b.getSlot 0).late = [] ∧ b.queueOf 0 = [] ∧ (b.group 3).held = [] ∧
      b.farOf compact1 = []) ∧
    (b.allArrived compact1 = true ∧ b.countsMet compact1 = true ∧ compact1.scnt = none ∧ spanOf compact1.mems ≠ 3 ∧ b.optic.parked = [] ∧
      b.host.parked = []) ∧
    (e.allArrived compact1 = true ∧ e.countsMet compact1 = false ∧ compact1.arrNs + 1000 * 3 ≤ e.time.ns) := by decide +kernel
theorem witness_TilesAndCompacts_transfers :
    ((sxfer.tile 0).held.map Member.send) = some [⟨1, 0, 1, 64, 5, false, 0, 0, (0, 0)⟩] ∧ sxfer.fab.me = 0 ∧
      sxfer.phasePast { compact1 with mems := ((sxfer.compacts.map fun c => c.2.mems).getD 0 []) } 0 = true ∧
      (sxfer.tile 1).held ≠ none ∧ 64 + 64 ≤ 2 ^ 20 ∧ (((sxfer.compacts.map fun c => c.2.mems).getD 0 [])[1]?.bind fun d => d.srcOf 0) ≠ none := by decide +kernel

/-- Line 4 cached by tile 0 in a state. -/
def sdir (st : DirState) : State :=
  { s0 with coh := { s0.coh with dir := [(lineKey 0 4, ⟨st, 1, 0, [], false, []⟩)] } }
/-- A request of tile 0 for line 4 that its home has not answered. -/
def streq (q : TileReq) : State := { s0 with treqs := [q] }
/-- A read request. -/
def rq4 : TileReq := ⟨0, 4, .rds, 0, none, false, false, [], []⟩
/-- Slice tables of line 4 full of misses. -/
def sfull : State := s0.setTab (sliceIdx 0 4) { s0.tab (sliceIdx 0 4) with miss := (List.range 64).map fun i => (100 + i, [1]) }
theorem witness_CoherenceMoves_homes :
    (s0.caches 0 = true ∧ s0.treq 0 4 = none ∧ s0.dirOf 0 4 = none ∧ s0.copy 0 4 = none ∧ (s0.tab (sliceIdx 0 4)).miss = []) ∧
    ((sdir .s).dirOf 0 4).map DirEnt.st = some .s ∧ 64 ≤ (sfull.tab (sliceIdx 0 4)).miss.length ∧
    ((sfull.tab (sliceIdx 0 4)).miss.all fun e => e.1 != 4) = true ∧
    (sdir .m).dirOf 0 4 = some ⟨.m, 1, 0, [], false, []⟩ ∧ (sdir .e).dirOf 0 4 = some ⟨.e, 1, 0, [], false, []⟩ ∧
    (streq rq4).treq 0 4 = some rq4 ∧ rq4.ticket = none ∧ rq4.clash = false ∧ rq4.probes = [] ∧ rq4.acks = [] := by decide +kernel
theorem witness_CoherenceMoves_probes :
    let o : State := { s0 with coh := { s0.coh with dir := [(lineKey 0 4, ⟨.m, 2, 1, [], false, []⟩)] } }
    let p := streq { rq4 with tile := 1, acks := [(0, .downgrade)] }
    let n : State := { streq rq4 with coh := { s0.coh with dir := [(lineKey 0 4, ⟨.s, 1, 0, [], false, []⟩)] } }
    (o.caches 0 = true ∧ o.treq 0 4 = none ∧ (o.dirOf 0 4).map DirEnt.owner = some 1) ∧
    (p.treq 0 4 = none ∧ (p.treqs.any fun q => q.awaits 0 4) = true) ∧
    (n.caches 0 = true ∧ n.treq 0 4 = some rq4 ∧ dirNames (n.dirOf 0 4) 0 = true ∧ (n.tab (sliceIdx 0 4)).miss = []) ∧
    ((sdir .m).tab (sliceIdx 0 4)).circ = [] := by decide +kernel
theorem witness_CoherenceMoves_slices :
    let x : SliceTabs := ⟨[], 1, [(0, 0, 4)], [7], [(0, 8), (0, 9)]⟩
    let u := s0.setTab 3 x
    let f := s0.setTab 3 { x with miss := [(4, [0])] }
    (u.tab 3).wb = 7 :: [] ∧ (u.tab 3).wait = (0, 0, 4) :: [] ∧ (u.tab 3).miss.length < 64 ∧ u.treq 0 4 = none ∧
      ((f.tab 3).miss.find? fun e => e.1 == 4) = some (4, [0]) ∧ (u.tab 3).circ = [(0, 8), (0, 9)] ∧ (s0.tab 3).wb = [] := by decide +kernel
theorem witness_CoherenceMoves_domains :
    let q : State := { s0 with scq := [0], l2sw := [⟨true, ⟨0, 0, 0, 0, 0, 0⟩, 0⟩] }
    s0.partLine 4 = false ∧ s0.isPt 4 = false ∧ Tbl.get? s0.clines 4 = none ∧ (s0.home 4).owner ≠ some 0 ∧ isHbm (64 * 4) = true ∧
      (s0.getSlot 0).occ = true ∧ s0.coh.part = false ∧ q.scq = 0 :: [] ∧ q.l2sw = ⟨true, ⟨0, 0, 0, 0, 0, 0⟩, 0⟩ :: [] := by decide +kernel

/-! Well-formedness: one ill-formed term for each check, which the check refuses. -/

/-- Does the check refuse every one? -/
def allRefused (l : List Instr) : Bool := l.all fun i => !i.wellFormed
theorem test_wellFormed_guard : allRefused [
    .add { ins (r 0 1) (r 0 2) (r 0 3) with gn := true }, .nop { ins z z z with gn := true }] = true := by decide +kernel
theorem test_wellFormed_classes : allRefused [
    .add (ins (r 1 1) (r 0 2) (r 0 3)), .add (ins (r 0 64) (r 0 2) (r 0 3)), .pand (ins (r 1 16) (r 1 1) (r 1 2)),
    .vadd (ins (r 2 16) (r 2 1) (r 2 2)), .mand (ins (r 3 4) (r 3 1) (r 3 2)), .mzero (ins (r 4 2) z z), .lfwd (ins (r 0 1) (r 5 2) z),
    .mfs (ins (r 0 1) (r 6 9) z), .mov (ins (r 7 1) (r 0 1) z), .mov (ins (r 8 0) (r 0 1) z), .nop (ins (r 0 1) z z)] = true := by
  decide +kernel
theorem test_wellFormed_kinds : allRefused [
    .add (ins (r 0 1) (r 0 2) (im 3)), .addImm (ins (r 0 1) (r 0 2) (r 0 3)), .addImm (ins (r 0 1) (im 2) (im 3)),
    .clz (ins (r 0 1) (r 0 2) (im 0)), .liw (ins (r 0 1) (wi 1) (im 2)), .jmp (ins z (wi 1) z), .jmp (ins (r 0 1) (wi 1) (wi 2)),
    .br (ins z (r 0 1) z), .ld (ins (r 0 1 0x180) (r 0 2) z), .st (ins (r 0 1) (r 0 2 0x180) z), .trap (ins z (r 0 1) z),
    .loop (ins z (im 1) (im 0)), .loop (ins z (im 1) (im 0x3FFFFF))] = true := by decide +kernel
theorem test_wellFormed_integer_modifiers : allRefused [
    .mulh (ins (r 0 1 1) (r 0 2) (r 0 3)), .clz (ins (r 0 1 1) (r 0 2) z), .bfi (ins (r 0 1 2) (r 0 2) (r 0 3)),
    .add (ins (r 0 1 0x10) (r 0 2) (r 0 3)), .add (ins (r 0 1 0x20) (r 0 2) (r 0 3)), .add (ins (r 0 1) (r 0 2 1) (r 0 3)),
    .cmp (ins (r 1 1) (r 0 2 6) (r 0 3)), .cmp (ins (r 1 1 1) (r 0 2) (r 0 3)), .sel (ins (r 0 1) (r 0 2 0x10) (r 0 3))] = true := by
  decide +kernel
theorem test_wellFormed_float_modifiers : allRefused [
    .fadd (ins (r 0 1 0x60) (r 0 2) (r 0 3)), .fadd (ins (r 0 1 1) (r 0 2) (r 0 3)), .fcmp (ins (r 1 1 8) (r 0 2) (r 0 3)),
    .fsgn (ins (r 0 1 3) (r 0 2) (r 0 3)), .fcvt (ins (r 0 1 6) (r 0 2) z), .fcvt (ins (r 0 1 0xE2) (r 0 2) z),
    .fcvt (ins (r 0 1 1) (r 0 2) z), .fcvt (ins (r 0 1 0x320) (r 0 2) z), .fcvt (ins (r 0 1 8) (r 0 2) (r 1 1)),
    .fcvt (ins (r 0 1) (r 0 2) (r 0 1))] = true := by decide +kernel
theorem test_wellFormed_memory_modifiers : allRefused [
    .ld (ins (r 0 1) (me 2 0) z), .ld (ins (r 0 1 0x280) (me 2 0) z), .ld (ins (r 0 1 0x1A0) (me 2 0) z),
    .st (ins (me 2 0) (r 0 1 0x181) z), .pref (ins (r 0 1) (me 2 0) z), .flushl (ins (r 0 0 2) (me 2 0) z),
    .aadd (ins (r 0 1 0x180) (me 2 0) (r 0 3)), .aadd (ins (r 0 1 0x120) (me 2 0) (r 0 3)), .afadd (ins (r 0 1 0x220) (me 2 0) (r 0 3)),
    .aadd (ins (r 0 1 0x1A2) (me 2 0) (r 0 3)), .fence (ins (r 0 0 0x60) z z), .fenceRange (ins (r 0 0 0x6C) (me 2 0) (im 1)),
    .spawn (ins (r 0 1 0x64) (me 2 0) z), .waitw (ins (r 0 0 0x100) (me 2 0) z), .bar (ins (r 0 0 0x30) (im 1) (im 1)),
    .barw (ins (r 0 0 0x34) (im 1) (im 1)), .rwait (ins (r 0 1 0x78) (r 0 2) z), .csign (ins (r 0 1) (r 0 2) z)] = true := by decide +kernel
theorem test_wellFormed_vector_modifiers : allRefused [
    .vadd (ins (r 2 1 0x260) (r 2 2) (r 2 3)), .vadd (ins (r 2 1 1) (r 2 2) (r 2 3)), .vadd (ins (r 2 1) (r 2 2 8) (r 2 3)),
    .vadd (ins (r 2 1) (r 2 2) (im 1)), .vneg (ins (r 2 1 0x1A0) (r 2 2) z), .vshl (ins (r 2 1) (r 2 2) (r 2 3)),
    .vcmp (ins (r 3 1 0x106) (r 2 2) (r 2 3)), .vred (ins (r 0 1 0x108) (r 2 2) z), .vred (ins (r 0 1 3) (r 2 2) z),
    .vsel (ins (r 2 1) (r 2 2 4) (r 2 3)), .vamax (ins (r 0 1 0x100) (r 2 2) z), .vperm (ins (r 2 1 1) (r 2 2) (r 2 3)),
    .vslide (ins (r 2 1 2) (r 2 2) (im 1)), .vbcast (ins (r 2 1 0x3E0) (r 0 2) z), .vdot4 (ins (r 2 1 0x100) (r 2 2 0x60) (r 2 3)),
    .vcvt (ins (r 2 1 0x320) (r 2 2) z), .vcvt (ins (r 2 1 0x240) (r 2 2 0x260) (r 2 3)), .vtag (ins (r 2 1 0x21) z z),
    .vlds (ins (r 2 1 0xE0) (me 2 0) (im 1)), .vgth (ins (r 2 1 0x20) (me 2 0) (r 2 3)), .vst (ins (me 2 0) (r 2 1 4) z)] = true := by
  decide +kernel
theorem test_wellFormed_matrix_and_engine : allRefused [
    .mldb (ins (r 0 1) (r 0 2) z), .mldb (ins (r 0 1 0x240) (r 0 2) (im 1)), .mzero (ins (r 4 0 0x20) z z), .mmac (ins (r 4 0 0x20) (r 2 1) (r 0 1)),
    .mmac (ins (r 4 0 0x20) (r 4 0) (r 0 1)), .mmac (ins (r 4 0) (me 2 0) (r 0 1)), .mmacr (ins (r 4 0) (r 0 1) (r 0 2)),
    .mcvt (ins (r 4 0 0x3E0) (r 4 1) z), .mscale (ins (r 4 0 0x100) (r 2 1) z), .mtrans (ins (r 4 0 0x20) (r 4 1) z),
    .seminc (ins (r 0 0 3) (im 1) (im 1)), .copy (ins z (r 0 1) (r 0 2)), .copy2d (ins (r 0 1) (r 0 63) (r 0 2)),
    .gather (ins (r 0 1 2) (r 0 2) (me 3 0)), .stream (ins (r 0 1) (r 2 11) (me 3 0)), .strend (ins (r 0 1 1) (r 2 12) z),
    .rld (ins (r 0 3 0x180) (me 2 0) z), .rst (ins (r 0 1 0x183) (me 2 0) z), .ratom (ins (r 0 2 0x1F0) (me 2 0) (r 0 3)),
    .ratom (ins (r 0 2 0x270) (me 2 0) (r 0 3 2)), .rfence (ins z z z)] = true := by decide +kernel
theorem test_wellFormed_system : allRefused [
    .tlbwr (ins (r 0 1) (r 0 62) z), .tlbwr (ins (r 0 1) (r 0 1) (im 784)), .tlbrd (ins (r 0 0) z z), .tlbinv (ins (r 0 1 2) (r 0 2) (im 1)),
    .mbxwait (ins (r 0 61) z z), .gstop (ins (r 0 1) z z), .pennant (ins (r 0 1 0x14) z z), .ctxld (ins (r 0 1) (r 0 1) z)] = true := by
  decide +kernel
theorem test_wellFormed_moves : allRefused [
    .idleWake 12304, .functionReady (.clu 16), .functionFailure (.hbm 8), .temperatureSample 3072 0, .throttleStep 4 0, .throttleStep 0 9,
    .droopEvent 3072, .powerSampleUpdate 6 0, .ackTimer 16, .trainComplete 0 (0, 0) 512 0, .drainComplete 16, .registerWrite 0 2 0,
    .registerWrite 2 4 0, .lpbndUpdate 64, .fatalError 0, .fatalError 6, .strandPlace 16, .d2dLinkFailure 4, .dieSuspect 4, .unitLoad 768,
    .vectorBind 784, .semaphoreWaitComplete 0 16, .engineCommandStart 0 5, .streamReadahead 0 11, .ticketCall 192] = true := by
  decide +kernel

/-! Worked examples of the specification. -/

/-- The state after slot 0 executes `i` in `s`. -/
def after (i : Instr) (s : State) : State :=
  match exec i s with
  | .next t => t
  | _ => s0
/-- What D and the flags hold after `i` on s5 = `a` and s6 = `b`, with s4 = `d` before it. -/
def flt (i : Instr) (d a b : Nat) : Word64 × BitVec 6 :=
  let t := after i (sw fun x => sr 4 d (sr 5 a (sr 6 b x)))
  (t.slot.getS 4, t.slot.fflags)
/-- R342's table, the exact results. -/
theorem test_R342_float_examples :
    let w := ins (r 0 4) (r 0 5) (r 0 6)
    let c (m : Nat) := Instr.fcvt (ins (r 0 4 m) (r 0 5) z)
    flt (.fdiv w) 0 0x3F800000 0 = (0x7F800000, fDZ) ∧ flt (.fsqrt (ins (r 0 4) (r 0 5) z)) 0 0xBF800000 0 = (0x7FC00000, fNV) ∧
      flt (.fmin w) 0 0x7FC00000 0x40000000 = (0x40000000, 0) ∧ flt (.fmin w) 0 0 0x80000000 = (0x80000000, 0) ∧
      flt (.ffma w) 0x3F800000 0 0x7F800000 = (0x7FC00000, fNV) ∧ flt (c 0x100) 0 0x40200000 0 = (2, fNX) ∧
      flt (c 0x140) 0 0x43000000 0 = (0x7F, fNV) ∧ flt (c 0x61) 0 0x7FC00000 0 = (0x7F, 0) ∧ flt (c 0x1E0) 0 0xC0400000 0 = (0, fNV) := by
  decide +kernel
/-- R442's table, step 1: TRAP #5 of a strand in user state at 0x10000 with its handler at 0x20000. -/
theorem test_R442_trap :
    let x := (after (.trap (ins z (im 5) z)) (sw fun x => { x with pc := 0x10000, tvec := 0x20000 })).slot
    x.epc = 0x1000C ∧ x.cause = 0x5000B ∧ x.status = 5 ∧ x.pc = 0x20000 := by decide +kernel
/-- R442's table, step 4, at an address that R297 admits: ERET clears SUP and TH. -/
theorem test_R442_eret :
    let x := (after (.eret (ins z z z)) (sw fun x => { x with status := 5, epc := 0x6000, cause := 0x5040B })).slot
    x.epc = 0x6000 ∧ x.cause = 0x5040B ∧ x.status = 0 ∧ x.pc = 0x6000 := by decide +kernel
/-- R348's example: in pass 5 `lc` is written 1, and its ENDL pops the entry and goes on; in pass 4 it branches back with `lc` 6. -/
theorem test_R348_loop :
    let e := Instr.endl (ins z z z)
    let at24 (c : Nat) : State := sw fun x => { x with pc := 24, loops := [⟨12, 24, BitVec.ofNat 32 c⟩] }
    let last := (after e (after (.li (ins (r 7 0) (im 1) z)) (sw fun x => { x with pc := 12, loops := [⟨12, 24, 6⟩] }))).slot
    let back := (after e (at24 7)).slot
    last.loops = [] ∧ last.pc = 36 ∧ back.loops = [⟨12, 24, 6⟩] ∧ back.pc = 12 := by decide +kernel
/-- R332, R335: 32-bit addition wraps and is sign-extended. -/
theorem test_R335_add_wraps :
    (after (.add (ins (r 0 4 4) (r 0 5) (r 0 6))) (sw fun x => sr 5 0x7FFFFFFF (sr 6 1 x))).slot.getS 4 = 0xFFFFFFFF80000000 := by
  decide +kernel

/-! Witnesses: decoding, the step, memory's form. -/

theorem witness_DecodeEncode :
    let i := Instr.addImm (ins (r 0 6) (r 0 5) (im 1))
    i.wellFormed = true ∧ encode i = some 0x104000000006000005400001 ∧
      decodeWord 0x104000000006000005400001 = .ok i ∧ Forms.fieldsOf i = some (ins (r 0 6) (r 0 5) (im 1)) := by decide +kernel

/-- Slot 0 about to execute ADD s6, s5, #1. -/
def s1 : State := State.reset.withFetchWord 96 0x104000000006000005400001
/-- A compact of one member whose locked image, at address 0, is that word. -/
def compact0 : Compact :=
  ⟨.running, 5, 0, none, 1, none, 0, none, [⟨0, 0, [1, 0, 0, 0], 0, 0, [], [], 0, 12, 0, [], [(0, 0, 1)]⟩],
    0, 0, 0, none, [], false, false, [], [], [], [], [], 0, false, [], false⟩
/-- Slot 0 as its member. -/
def sc1 : State :=
  let m : Member := ⟨1, 0, [], [], false, false, false, [], [], 0, [], [1, 0, 64, 5, 0, 0, 6, 0, 0, 0, 64, 16]⟩
  let s := { s1 with compacts := [(1, compact0)] }
  (s.setTile 0 { s.tile 0 with held := some m }).modSlot 0 fun x => { x with cls := 4 }
/-- Is it a word, and which? -/
def wordIs (f : TurnOut) (w : BitVec 96) : Bool :=
  match f with
  | .word v t => v == w && t.power
  | .quiet _ => false
/-- Is the address on this package, and where? -/
def hereAt (f : Xl) (pa : Nat) : Bool :=
  match f with
  | .here p _ _ => p == pa
  | _ => false
theorem witness_StepRunsDecoded_free :
    let s := { s1 with agenda := [] }
    s1.agenda = .slot 0 :: [] ∧ s1.servedSlot = none ∧ s1.power = true ∧ s.stopped = false ∧ wordIs (s.turn 0) 0x104000000006000005400001 = true ∧
      s.compactOf 0 = none ∧ s.chosen (coreOf 0) = some 0 ∧ (s.takeTurn 0).trapDue 0 = false ∧ s.slotReady 0 = true ∧
      (∀ j, j ∈ slotsOf 0 → j ≠ 0 → s.slotReady j = false) := by decide +kernel
/-- The agenda holds a move. -/
def sev (i : Instr) : State := { s1 with agenda := [.event i] }
theorem witness_StepRunsDecoded_moves :
    let own : State := { s1 with agenda := [], time := { s1.time with steps := 1 } }
    let served : State := { s1 with agenda := [] }.modSlot 0 fun x => { x with served := [⟨1, 0, false⟩] }
    (sev .scTicketIssue).servedSlot = none ∧ (sev .scTicketIssue).acts .scTicketIssue = true ∧ (sev (.idleWake 20000)).acts (.idleWake 20000) = false ∧
      own.servedSlot = none ∧ own.time.steps % 2 = 1 ∧ own.due ≠ [] ∧ served.servedSlot = some 0 ∧
      ({ s1 with agenda := [] } : State).nextSlot = some 0 := by decide +kernel
theorem witness_StepRunsDecoded_crosses :
    let s := s1.modSlot 0 fun x => { x with pc := 60 }
    s.compactAt 0 = false ∧ 60 % 12 = 0 ∧ 64 - 60 % 64 < 12 ∧ hereAt (s.xlate 0 60 .fetch) 60 = true ∧ hereAt (s.xlate 0 64 .fetch) 64 = true := by
  decide +kernel
theorem witness_StepRunsDecoded_fetch :
    let s := { s1 with agenda := [] }
    s.compactAt 0 = false ∧ (s.getSlot 0).pc = 0 ∧ hereAt (s.xlate 0 0 .fetch) 0 = true ∧ Tbl.get? s.icache (tileOf 0 * 2 ^ 46 + lineOf 0) = none ∧
      Tbl.get? s.clines (lineOf 0) = none ∧ s.meetsPoison (clusterOf 0) (lineOf 0) = false ∧ s.partLine (lineOf 0) = false := by
  decide +kernel

/-- What a step comes to: a next state of which `p` holds. -/
def nextWith (o : Host.Outcome State Fault Refusal) (p : State → Bool) : Bool :=
  match o with
  | .next t => p t
  | _ => false
theorem witness_StepKeepsCanonicalMemory :
    Canonical s1 ∧ nextWith (step s1) (fun t => t.slot.pc == 12 && t.slot.getS 6 == 1) = true := by decide +kernel
theorem witness_StepRunsDecoded_compact :
    let s := { sc1 with agenda := [] }
    let t := s.catchUp compact0
    sc1.agenda = .slot 0 :: [] ∧ sc1.servedSlot = none ∧ sc1.power = true ∧ s.stopped = false ∧ s.compactOf 0 = some (1, compact0) ∧
      t.nextCore compact0 = some 0 ∧ t.turnSlot 0 = 0 ∧ t.emptyTurn 0 = false ∧ ({ t with cur := 0 } : State).trapDue 0 = false ∧
      wordIs (s.turn 0) 0x104000000006000005400001 = true := by
  decide +kernel
/-- The step that executes ADD is safe, and so is the run of one step. -/
theorem test_step_safe : Safety.stepSafe s1 = true ∧ Safety.runSafe 1 s1 = true := by decide +kernel

/-! Further witnesses, one for each remaining clause: the words and traps of a strand, its accesses, its stops. -/

theorem witness_IssueChecks_values :
    let w := ins (r 0 6) (r 0 2) (r 0 5)
    let v := ins (r 0 6) (im 0) (r 0 5)
    let g : Ins := { ins (r 0 1) (r 0 2) (r 0 3) with gp := 1 }
    (Forms.fieldsOf (.tlbwr w) = some w ∧ (stl 784).power = true ∧ reservedValue (stl 784).slot (.tlbwr w) = true ∧
      reservedValue (stl 784).slot (.tlbrd v) = true) ∧
    (reservedValue s0.slot (.add g) = false ∧ reservedValue s0.slot (.eret (ins z z z)) = false ∧ reservedValue sc.slot (.idle (ins z z z)) = false) ∧
    ((sw sv).slot.tvec ≠ 0 ∧ s0.slot.tvec = 0) := by decide +kernel
theorem witness_TrapEntry_record : ∀ j, j < 8 → s0.poisoned (lineOf ((s0.getSlot 0).recAddr.toNat + 8 + j)) = false := by decide +kernel
theorem witness_GoingOn_contexts :
    let c := ins z (r 0 1) z
    let s := sct 0x10000 ctxMem
    let i := ins z z z
    FreeSup (.ctxld c) c s ∧ (s.slot.getS (num c.a)).toNat = 0x10000 ∧ bit (s.mem8 0x10000) 33 = false ∧ bit (s.mem8 0x10000) 34 = false ∧
      Free (.idle i) i s0 := by decide +kernel

/-- A boundary has given slot 0 line 1. -/
def sserved (bad : Bool) : State := s64.modSlot 0 fun x => { x with served := [⟨1, 7, bad⟩] }
theorem witness_LoadsStoresAndHints_served :
    let l := ins (r 0 2 b64) m1 z
    s64.slot.servedLine (lineOf 64) = none ∧ Free (.ld l) l (sserved false) ∧ Reached (sserved false) ((sserved false).slot.ea l.a) 8 .load 64 false false ∧
      (sserved false).slot.servedLine (lineOf 64) = some ⟨1, 7, false⟩ := by decide +kernel
theorem witness_AccessFrames_cases :
    let p : State := { s64 with xl := { s64.xl with ptl := [(1, ⟨[0], [], [], []⟩)] } }
    (sd.partLine 1 = true ∧ sd.isPt 1 = false ∧ sd.coh.part = true) ∧ p.isPt (lineOf 64) = true := by decide +kernel
theorem witness_AccessChecks_permitted :
    let off := sw (sr 1 0x1000000)
    off.slot.denied .load 0x1000000 = false ∧ off.slot.denied .store 0x1000000 = false := by decide +kernel
theorem witness_FencesAndReleases_queue :
    let t := ins (r 0 0 (fm 6 3)) z z
    let p : State := { s64 with coh := { s64.coh with part := true }, scq := [0] }
    Free (.fence t) t p ∧ p.coh.part = true ∧ p.slot.reply = none ∧ p.scq.contains p.cur = true := by decide +kernel
/-- The strand of `swait` with s1 = 2^24, of which no page is known, and s2 = 64. -/
def srange : State := swait.modSlot 0 fun x => sr 2 64 (sr 1 0x1000000 x)
theorem witness_FencesAndReleases_full :
    let rr := ins (r 0 0 (fm 7 2)) m1 (r 0 2)
    Issues (.fenceRange rr) rr srange ∧ srange.compact = false ∧ 2 ≤ Forms.ordOf (mods rr.d) ∧
      (srange.rangePages 0x1000000 (0x1000000 + 64) 2).contains .all = true ∧ srange.relWaits 7 = true := by decide +kernel
theorem witness_FencesAndReleases_clean :
    let c : State := { sd with coh := { sd.coh with copies := [(1, ⟨0, 0, 0x55, 0⟩)] } }
    c.copy 0 1 = some ⟨0, 0, 0x55, 0⟩ ∧ c.partLine 1 = true := by decide +kernel

theorem witness_SpawnsCreate_join :
    let t := sk (tpl 0 0x400) id
    let g := sk (tpl 0x800 0x400) fun x => sr 2 0x600 (sr 3 2 x)
    t.ptHeld (lineOf 0x400) = false ∧ t.slot.making = none ∧ t.failed (.clu 0) = false ∧
      (g.slot.making = none ∧ g.slot.servedLine (lineOf 0x100) = none ∧ g.failed (.clu 0) = false ∧
        (template g 0x100).getD 6 0 ≠ 0 ∧ g.joinAt ((template g 0x100).getD 6 0) = .here 0x400 false ∧ g.joinHeld 0x400 = false ∧
        g.ptHeld (lineOf 0x400) = false ∧ g.joinHeld 0x600 = false ∧ g.joinHeld 0x640 = false) := by decide +kernel
/-- Slot 0 with a vector operation queued. -/
def svq : State := let s := sk [] id; s.setCore 0 { s.core 0 with vq := [0] }
theorem witness_StopsAndWaits_clear :
    let s := sk [] id
    let e := ins z z z
    let j := ins (r 0 0) m1 z
    let x := sk [(0x230, 0x400)] id
    let h : State := { x with clines := [(16, ⟨1, 0, 0, 0⟩)] }
    s.queueClear = true ∧ RecordClear s 0x200 ∧ (Free (.suspend e) e svq ∧ svq.slot.wake = false ∧ svq.queueClear = false) ∧
      (Free (.yield e) e svq ∧ Free (.exit e) e svq) ∧ (s.slot.servedLine (lineOf 0x100) = none ∧ Free (.join j) j s) ∧
      (x.queueClear = true ∧ x.slot.reply = none ∧ x.ptHeld (lineOf 0x400) = false) ∧
      (Issues (.exit e) e h ∧ h.queueClear = true ∧ h.recWord 0x200 6 ≠ 0 ∧ h.exitJoin (h.recWord 0x200 6) = .here 0x400 false ∧
        h.joinHeld 0x400 = true) ∧
      (Issues (.exit e) e sc ∧ sc.compact = true) := by decide +kernel

theorem witness_SignalsAndBarriers_addresses :
    let w := ins (r 0 2) m1 z
    let far := sfar 0
    let odd := sw (sr 1 0x104)
    let out := sw (sr 1 (2 ^ 48))
    let isBad (p : Pages) : Bool := match p with
      | .bad => true
      | _ => false
    (Free (.signal w) w far ∧ (far.slot.ea w.a).toNat % 64 = 0 ∧ (far.slot.ea w.a).toNat < 2 ^ 48 ∧
      isBad (far.pagesOf [(far.slot.ea w.a).toNat]) = true) ∧
    (Free (.signal w) w odd ∧ (odd.slot.ea w.a).toNat % 64 ≠ 0) ∧
    (Free (.signal w) w out ∧ (out.slot.ea w.a).toNat % 64 = 0 ∧ 2 ^ 48 ≤ (out.slot.ea w.a).toNat) := by decide +kernel
theorem witness_SignalsAndBarriers_ranges :
    let a := ins (r 0 2 (fm 4 0)) (im 15) (im 1)
    let bw := ins (r 0 0 (fm 4 0)) (im 0) (r 0 3)
    let n0 := { a with b := im 0 }
    let far := { a with a := r 0 4 }
    let s16 := sw (sr 4 16)
    let d7 := sw (sr 2 (2 ^ 63 + 7))
    let d0 := sw (sr 2 (2 ^ 63))
    (Free (.bara a) a s0 ∧ (s0.slot.opS a.a).toNat = 15 ∧ (s0.slot.opS a.b).toNat = 1 ∧ 1 ≤ unitSlots 4) ∧
    (Free (.bar n0) n0 s0 ∧ Free (.bara n0) n0 s0 ∧ (s0.slot.opS n0.b).toNat = 0) ∧
    (Free (.bar far) far s16 ∧ Free (.bara far) far s16 ∧ Free (.barw { bw with a := r 0 4 }) { bw with a := r 0 4 } s16 ∧ 15 < (s16.slot.opS far.a).toNat) ∧
    (Free (.barw bw) bw s0 ∧ (s0.barrier (barKey 4 0 0)).gen.toNat = (s0.slot.opS bw.b).toNat) ∧
    (Free (.barw bw) bw (sw (sr 3 (2 ^ 32))) ∧ ((sw (sr 3 (2 ^ 32))).barrier (barKey 4 0 0)).gen.toNat ≠ ((sw (sr 3 (2 ^ 32))).slot.opS bw.b).toNat) ∧
    (Free (.bar a) a d7 ∧ (d7.barrier (barKey 4 0 15)).gen ≠ (d7.slot.getS 2).setWidth 32) ∧
    (Free (.bar a) a d0 ∧ (d0.barrier (barKey 4 0 15)).gen = (d0.slot.getS 2).setWidth 32) := by decide +kernel
theorem witness_CompactControl_more :
    let d := ins (r 0 2) (r 0 1) z
    let x := ins (r 0 1) (r 0 2) (r 0 3)
    let sx := (sc.modSlot 0 fun y => sr 3 32 (sr 2 (2 ^ 20 - 2048) { y with ended := true }))
    let other : State := { sw (sr 1 1) with compacts := [(1, { compact1 with asid := 0 })] }
    let busy := scs.setTile 5 { scs.tile 5 with held := some member0 }
    let m := (busy.withImages [parseMember (wordsOf (scs.vread 0x800 16)) (wordsOf (scs.vread 0xA00 4)) (wordsOf (scs.vread 0xB00 32))]).1
    (Free (.cdiss d) d other ∧ (other.slot.opU d.a).toNat = 1) ∧
    (sx.slot.xargs = none ∧ member0.send.length + 32 ≤ 32 ∧ fld (sx.slot.getS 1) 35 16 % 64 = 0 ∧ fld (sx.slot.getS 1) 35 16 + 64 * 32 ≤ 2 ^ 20 ∧
      Issues (.xfer x) x sx) ∧
    (busy.signRefusal (parseDesc (wordsOf (scs.vread 0x200 16))) m none).isSome = true := by decide +kernel

/-! Further witnesses: matrices, engines, the fabric, the system. -/

theorem witness_MatrixIssue_queues :
    let mz := ins (r 4 1) z z
    let full := let s := mxs .f32; s.setTile 0 { s.tile 0 with mxq := List.replicate 8 (mkCmd s 0x2C4 mz []) }
    let lb := ins (r 0 2 (fmod .b32f4)) (r 0 1) (r 0 1)
    let mr := ins (r 4 0 (fmod .i8)) (r 0 1) (r 0 2)
    let s := mxs .i8
    (Free (.mzero mz) mz full ∧ 8 ≤ (full.tile (tileOf full.cur)).mxq.length) ∧
    (Free (.mldb lb) lb s ∧ (fmtD lb).hasCompanion = true ∧ pagesAre s 64 192 [0] = true ∧ (s.tile 0).mxq.length < 8) ∧
    (Free (.mmacr mr) mr s ∧ (s.slot.getS 1).toNat % 4 = 0 ∧ (s.slot.getS 1).toNat < 2 ^ 48 ∧ s.slot.park = none) := by decide +kernel
theorem witness_MatrixOperations_ready :
    let c := mkCmd (mxs .i8) 0x2C5 mmacV [0, 0]
    let s := mxRun 0x2C5 mmacV [0, 0] ((mxs .i8).modSlot 0 fun x => x.setT 0 ⟨some .i32, 5, 0⟩)
    s.engWaits (0 * 8 + 5) c = false ∧ s.power = true ∧ Fmt.isInt .i8 = true ∧
      (mxRun 0x2C4 (ins (r 4 0) (r 4 1) z) [0] (mxs .f32)).engWaits 5 (mkCmd (mxs .f32) 0x2C4 (ins (r 4 0) (r 4 1) z) [0]) = false := by decide +kernel
theorem witness_EngineIssue_checks :
    let c := ins (r 0 1) (r 0 2) (r 0 3)
    let full := s0.setCore 0 { s0.core 0 with ceq := List.replicate 8 (mkCmd s0 0x301 c [0, 0, 0]) }
    let out := sw (sr 1 (2 ^ 48))
    let g := ins (r 0 1) (r 0 2) m1
    let ro := ins (r 0 1) m1 z
    (Free (.copy c) c full ∧ 8 ≤ (full.queueOf full.myCe).length) ∧
    (Free (.gather g) g out ∧ (out.slot.ea g.b).toNat % 32 = 0 ∧ 2 ^ 48 ≤ (out.slot.ea g.b).toNat) ∧
    (Free (.routeDsp ro) ro out ∧ (out.slot.ea ro.a).toNat % 128 = 0) ∧ (out.slot.ea g.b).toNat % 32 = 0 := by decide +kernel
theorem witness_CopiesWindowBytes_turn :
    let c := mkCmd (mxs .f32) 0x301 copyW [32, 128, 64]
    sce.engWaits 0 c = false ∧ c.fin = none ∧ c.done = none ∧ c.out = [] ∧ c.pts = [] ∧ c.late = false ∧ sce.ceTurn 0 = some 0 := by
  decide +kernel
theorem witness_FabricAccesses_late :
    let o := ins (r 0 2 (b64 + 116)) m1 z
    let s := (sfar (2 ^ 63)).modSlot 0 fun x => { x with reply := some (0x80, 5) }
    let p := ins (r 0 2 (b64 + 116)) m1 (r 0 5 1)
    (s.slot.reply = some (if true then 0x80 else 0, 5) ∧ Free (.rld o) o s ∧ OnPackage s (s.slot.ea o.a) 8 .load 7 0x5040 ∧ Forms.ordOf (mods o.d) = 1 ∧
      Free (.ratom p) p s ∧ OnPackage s (s.slot.ea p.a) 8 .atomic 7 0x5040 ∧ Forms.ordOf (mods p.d) = 1) ∧
    ((sfar 0).member 7 = false ∧ ({ sfar 0 with fab := { (sfar 0).fab with group := [7] } } : State).member 7 = true) := by decide +kernel
theorem witness_FabricAccesses_here :
    let t := ins (r 0 2 b64) m1 (r 0 5)
    let a := ins (r 0 2 (b64 + 112)) m1 (r 0 5 1)
    let e := ins (r 0 0 (fm 4 1)) z z
    Free (.rst t) t s64 ∧ Reached s64 (s64.slot.ea t.a) 8 .store 64 false false ∧ Free (.ratom a) a s64 ∧
      Reached s64 (s64.slot.ea a.a) 8 .atomic 64 false false ∧ Free (.rfence e) e s64 ∧ s64.awaited 1 = [] := by decide +kernel

theorem witness_SystemRegisters_modes :
    let w5 := ins (r 6 5) (r 0 1) z
    let u := sup 12 0
    let p : State := { u with coh := { u.coh with part := true } }
    Free (.mts w5) w5 u ∧ u.coh.part = false ∧ Free (.mts w5) w5 p ∧ p.coh.part = true ∧ p.sup p.cur = true := by decide +kernel
theorem witness_TranslationInstructions_ready :
    let m := ins (r 0 8) z z
    let full : State := (stl 0).setCluster 0 { (stl 0).cluster 0 with mailbox := [⟨1, 2, 3, 4⟩] }
    (¬ ((stl 767).ready (.clu (767 / 48)) = true)) ∧ ((stl 767).slot.opS (r 0 5)).toNat = 767 ∧
      (FreeSup (.mbxwait m) m full ∧ (full.cluster (clusterOf full.cur)).mailbox = ⟨1, 2, 3, 4⟩ :: []) ∧
      ((stl 0).cache 0).length < 1024 := by decide +kernel
theorem witness_TranslationInstructions_idle : ∀ c, (stl 0).cacheBusy c = false := by
  intro c
  have h : (stl 0).fabBusy = false ∧ (stl 0).msaq = [] ∧ (stl 0).slots.all (fun e => e.2.making.isNone) = true ∧
      ∀ e ∈ (stl 0).tiles, e.2.mxq = [] := by decide +kernel
  have hm : ((stl 0).tile c).mxq = [] := by
    unfold State.tile Tbl.get Tbl.get?
    cases hf : (stl 0).tiles.find? (fun e => e.1 == c) with
    | none => rfl
    | some e => exact h.2.2.2 e (List.mem_of_find?_eq_some hf)
  have hs : ∀ e ∈ (stl 0).slots, e.2.making = none := by simpa using h.2.2.1
  simp only [State.cacheBusy, h.1, h.2.1, hm, List.any_nil, Bool.and_false, Bool.false_or, List.any_eq_false]
  intro e he
  simp [hs e he]

/-! Further witnesses: power, ports, groups, the host, maintenance. -/

theorem witness_PowerAndSensors_levels :
    sdcs.compacts = [] ∧ sdcs.level 0 = sdcs.need 0 ∧ 10000 ≤ sdcs.time.ns - Tbl.get sdcs.therm.lmoved 0 0 ∧ sdcs.acting (1 + 0) = true ∧
      10000 ≤ sdcs.time.ns - Tbl.get sdcs.therm.moved 0 0 := by decide +kernel

/-- Port 3 before its eighth loss of flit 0. -/
def slost (k : Nat) : State := sport fun x => { pUp x with lost := 0, losses := k }
theorem witness_OpticalEngine_losses :
    let late (s : State) : State := { s with time := { s.time with ns := 5000 } }
    ((slost 6).port 3).buf = (0, ⟨0, 7, 0, 0, 0, 0, [], none⟩) :: [(1, ⟨0, 7, 0, 0, 0, 1, [], none⟩)] ∧ ((slost 6).port 3).losses + 1 < 8 ∧
      8 ≤ ((slost 7).port 3).losses + 1 ∧ ((slost 7).port 3).lost = 0 ∧ ((slost 7).port 3).tx = .up ∧
      ((late (slost 7)).port 3).advAt + 2000 ≤ (late (slost 7)).time.ns ∧ (su.port 3).advAt + 2000 > su.time.ns := by decide +kernel
theorem witness_OpticalEngine_light :
    let lit (x : OPort) : OPort := { pUp x with lit := BitVec.allOnes 64, txLive := BitVec.allOnes 64 }
    let a := sport lit
    let b := sport fun x => { lit x with txLive := dark }
    let t := sport fun x => { x with tx := .train, rx := .train, lit := BitVec.allOnes 64 }
    ((a.port 3).lit &&& dark ≠ (a.port 3).lit ∧ (a.port 3).tx.live = true ∧ (a.port 3).txLive &&& dark ≠ (a.port 3).txLive) ∧
    ((b.port 3).lit &&& dark ≠ (b.port 3).lit ∧ (b.port 3).txLive &&& dark = (b.port 3).txLive) ∧
    ((t.port 3).tx = .train ∧ (stripeOf (dark &&& (t.port 3).lit)).2 ≠ 0 ∧ (stripeOf (0 &&& (t.port 3).lit)).2 = 0) ∧
    ((su.port 3).rxLive = BitVec.allOnes 64 ∧ (stripeOf 0).2 = 0 ∧ (su.port 3).tx ≠ .failed) := by decide +kernel
/-- A route configuration that every check admits: one hop over port 3. -/
def sroute : State := { s0 with rdy := (List.range 4).foldl (fun m k => setBit m (rdyIndex (.oec k)) true) s0.rdy }
theorem witness_OpticalEngine_routes :
    let c := route7 0
    let up : State := { sroute with optic := { sroute.optic with ports := [(3, pUp (s0.port 3))] } }
    let fz : State := { sroute with nmc := { sroute.nmc with st := .freeze, uctl := 21 } }
    (sroute.badRoute c = false ∧ ∀ k, k ∈ c.dies → sroute.frozen (21 + k) = false ∧ sroute.serves (21 + k) = true) ∧
    (∀ q, q < 16 → bit (15 : BitVec 16) q = true → (sroute.port q).tx = .down) ∧
    ((up.port 3).tx ≠ .down ∧ (up.port 3).tx ≠ .failed ∧ bit (8 : BitVec 16) 3 = true ∧ up.badRoute { c with drain := 8 } = false) ∧
    fz.frozen (21 + 0) = true := by decide +kernel
theorem witness_OpticalEngine_units :
    let two : State := { smsa with msaq := smsa.msaq ++ smsa.msaq }
    let far : State := { s0 with msaq := [⟨0x100, 8, 1, 5, 0, .slot 0 0, (1, 0)⟩] }
    (two.msaq[1]? = some ⟨0x100, 8, 1, 5, 0, .slot 0 0, (0, 0)⟩ ∧ (two.msaq.take 1).any (fun e => two.msaHere e && lineOf e.pa == 4) = true) ∧
    (far.msaHere ⟨0x100, 8, 1, 5, 0, .slot 0 0, (1, 0)⟩ = false ∧ smsa.msaHere ⟨0x100, 8, 1, 5, 0, .slot 0 0, (0, 0)⟩ = true) ∧
    ((msaBefore smsa 0 ⟨0x100, 8, 1, 5, 0, .slot 0 0, (0, 0)⟩).length < 32 ∧ (s0.port 3).linked = false) := by decide +kernel

theorem witness_SerdesGroups_controllers :
    let st (t : GroupSt) : State := sgrp fun x => { x with st := t, pend := 1, sw := true }
    let dead : State := { st .load with fail := setBit (st .load).fail (rdyIndex (.sgc 3)) true }
    let fz : State := { st .bind with nmc := { (st .bind).nmc with st := .freeze, uctl := 28 } }
    (st .load).loads 3 = true ∧ (st .bind).loads 3 = true ∧ dead.loads 3 = false ∧ fz.loads 3 = false ∧ ((st .drain).group 3).work = [] ∧
      ((sgrp fun x => { x with st := .drain, work := [(0, 64)] }).group 3).work ≠ [] ∧ (sgUp 0).frozen (25 + 3) = false ∧
      ({ sgUp 0 with nmc := { (sgUp 0).nmc with st := .freeze, uctl := 28 } } : State).frozen (25 + 3) = true := by decide +kernel
theorem witness_SerdesGroups_atomics :
    let u := sgrp (gUp 1)
    let d : List Byte := List.replicate 16 1
    let h : State := { u with clines := [(4, ⟨1, 0, 0, 0⟩)] }
    let p : State := { u with coh := { u.coh with poison := [4] } }
    (8 % 4 = 0 ∧ 0x100 % 4096 + 8 ≤ 4096 ∧ (mkRequest 2 2 0x100 (atomWidth 8) 1 d).malformed = false ∧ u.rangeStatus 0x100 8 = 0 ∧
      u.rangeHeld 0x100 8 = false ∧ u.rangeBad 0x100 8 = false ∧ u.msaq = []) ∧
    (6 % 4 ≠ 0 ∧ h.rangeHeld 0x100 8 = true ∧ p.rangeHeld 0x100 8 = false ∧ p.rangeBad 0x100 8 = true) := by decide +kernel
theorem witness_SerdesGroups_responses :
    let k : Packet := ⟨1, 0, 0, 0, 0, [], 0, 0, 0, 0⟩
    let a := sgrp fun x => { gUp 1 x with work := [(0, 64)] }
    let b := sgrp fun x => { gUp 2 x with out := [k] }
    ((a.group 3).work = (0, 64) :: [] ∧ (b.group 3).work = [] ∧ (b.group 3).out ≠ [] ∧ ((sgrp (gUp 2)).group 3).out = []) ∧
      ((0, 0) ∉ ((scg 5).group 3).got ∧ (0, 0) ∈ ((sgrp fun x => { gUp 2 x with got := [(0, 0)] }).group 3).got) := by decide +kernel

theorem witness_HostAccesses_cut :
    let c : State := { shost with nmc := { shost.nmc with fatal := some (1, 0), cut := some 0 } }
    shost.nmc.cut = none ∧ c.nmc.cut ≠ none ∧ c.ready (.sds 0) = true ∧ shost.power = true := by decide +kernel
theorem witness_HostAccesses_controllers :
    let up : State := { s0 with rdy := (List.range 4).foldl (fun m k => setBit m (rdyIndex (.dcr k)) true) s0.rdy }
    up.serves (1 + 3 / 16) = true ∧ s0.serves (1 + 3 / 16) = false ∧ (pent 1).pts = [] ∧ (pent 0).pts = [] ∧ 0x40 % 8 = 0 ∧
      (∀ l, l ∈ linesIn hostBase 64 → shost.poisoned l = false) ∧ (sent9 1).ring.gone = [] := by decide +kernel
theorem witness_HostAccesses_badJoin :
    let e : PortEnt := { pent 1 with words := [0, 0, 0, 0x40, 77, 0, 0x44] }
    let s := slp { Port.reset with ents := [e], acc := 10, tail := 10, head := 9 }
    ((s.lp 3).ents.find? fun f => f.seq == 9 && f.m != 0 && !f.joined && f.park.isNone) = some e ∧ (e.words.getD 6 0).toNat % 8 ≠ 0 ∧
      (e.words.getD 6 0).toNat ≠ 0 ∧ e.pts = [] := by decide +kernel
theorem witness_Maintenance_commands :
    let v : Word32 := 0x80050000
    let h : State := { simg with rdy := setBit simg.rdy (rdyIndex (.sds 0)) true }
    let i : State := { shost with rdy := setBit shost.rdy (rdyIndex .nmc) true }
    (i.ready (.sds 0) = true ∧ bit v 31 = true ∧ i.serves 0 = true ∧ i.nmc.st = .idle ∧ fld v 21 16 ≤ 40) ∧
    (h.ready (.sds 0) = true ∧ h.serves 0 = true ∧ h.nmc.st ≠ .idle) ∧ 40 < fld (0x80290000 : Word32) 21 16 ∧ shost.serves 0 = false := by
  decide +kernel

/-! Further witnesses: dispatchers, tiles, compacts, coherence, steps. -/

/-- The NMC and the four DCs in service; die 0 suspected. -/
def slossy : State :=
  { s0 with rdy := (List.range 4).foldl (fun m d => setBit m (rdyIndex (.dcr d)) true) (setBit s0.rdy (rdyIndex .nmc) true),
            ring := { s0.ring with suspect := [0] } }
theorem witness_DispatcherMoves_losses :
    slossy.confirms 0 = true ∧ 0 ∈ slossy.ring.suspect ∧ 0 ∉ slossy.ring.gone ∧ s0.confirms 0 = false := by decide +kernel
theorem witness_TilesAndCompacts_reaches :
    let d := sprk (2 ^ 56 + 6)
    d.reaches (0, 0) (0 / 192) = true ∧ (d.getSlot 0).occ = true ∧ (d.getSlot 0).recAddr = 0 ∧
      (∀ e ∈ d.cache 0, e.ptLine ≠ 0x40) ∧ ((sst strm).getSlot 0).stream 12 = some strm := by decide +kernel
/-- The state after the invalidation. -/
def sptl : State := { s0 with xl := { s0.xl with ptl := [(0x40, ⟨[], [], [0], []⟩)] } }
theorem witness_TilesAndCompacts_lines :
    Tbl.get? sptl.xl.ptl 0x40 = some ⟨[], [], [0], []⟩ ∧ (∀ e ∈ sptl.cache 0, e.ptLine ≠ 0x40) ∧ sptl.cacheBusy 0 = false ∧
      Tbl.get? ({ sptl with xl := { sptl.xl with ptl := [(0x40, ⟨[], [], [], [0]⟩)] } } : State).xl.ptl 0x40 = some ⟨[], [], [], [0]⟩ := by decide +kernel

/-- No queue of a state holds a command where its tables list none. -/
theorem queueOf_nil (s : State) (hc : ∀ e ∈ s.cores, e.2.ceq = []) (ht : ∀ e ∈ s.tiles, e.2.mxq = [] ∧ e.2.req = []) (q : Nat) :
    s.queueOf q = [] := by
  have core (k : Nat) : (s.core k).ceq = [] := by
    unfold State.core Tbl.get Tbl.get?
    cases hf : s.cores.find? (fun e => e.1 == k) with
    | none => rfl
    | some e => exact hc e (List.mem_of_find?_eq_some hf)
  have tile (k : Nat) : (s.tile k).mxq = [] ∧ (s.tile k).req = [] := by
    unfold State.tile Tbl.get Tbl.get?
    cases hf : s.tiles.find? (fun e => e.1 == k) with
    | none => exact ⟨rfl, rfl⟩
    | some e => exact ht e (List.mem_of_find?_eq_some hf)
  unfold State.queueOf
  split <;> simp [core, tile]
/-- Nothing waits for a boundary where no queue, stream, port or group holds anything. -/
theorem noneParked_of (s : State) (hc : ∀ e ∈ s.cores, e.2.ceq = []) (ht : ∀ e ∈ s.tiles, e.2.mxq = [] ∧ e.2.req = [])
    (hs : ∀ e ∈ s.slots, e.2.streams = Vector.replicate 4 none ∧ (match e.2.wait with | .held _ => false | _ => true) = true)
    (ho : s.optic.parked = [] ∧ s.host.parked = []) (hg : ∀ e ∈ s.groups, e.2.held = []) : NoneParked s := by
  refine ⟨fun q h r e => ?_, fun e he => ⟨fun r b hb => ?_, fun l hl => ?_⟩, ho.1, ho.2, fun g => ?_⟩
  · rw [queueOf_nil s hc ht q] at e; cases e
  · simp only [Slot.stream, (hs e he).1, Vector.getElem?_replicate] at hb
    split at hb <;> (try split at hb) <;> simp_all
  · have := (hs e he).2
    simp [hl] at this
  · unfold State.group Tbl.get Tbl.get?
    cases hf : s.groups.find? (fun e => e.1 == g) with
    | none => rfl
    | some e => exact hg e (List.mem_of_find?_eq_some hf)

theorem witness_TilesAndCompacts_start :
    let g := scmp .signing id
    let two : State := { sxfer with therm := { sxfer.therm with level := [(0, 1)] } }
    (g.oneLevel compact1 = true ∧ (∀ e ∈ g.locals compact1, g.occupied e.1.tile = [] ∧ g.tileQuiet e.1.tile = true)) ∧ NoneParked g ∧
      two.oneLevel { compact1 with mems := compact1.mems ++ [⟨0, 192, [1, 0, 0, 0], 0, 0, [], [], 0, 12, 0, [], []⟩] } = false := by
  refine ⟨by decide +kernel, noneParked_of _ ?_ ?_ ?_ ?_ ?_, by decide +kernel⟩ <;> decide +kernel
/-- Packages 0 (this one) and 1, a member each; the descriptor words of compact 7 in address space 5, open-ended, SCOPE `.pod`, TDL 9. -/
def podMems : List MemberDesc :=
  [⟨1, 0, [1, 0, 0, 0], 0x1000, 0, [], [], 0, 12, 0, [], []⟩, ⟨0, 1, [1, 0, 0, 0], 0x1000, 0, [], [], 0, 12, 0, [0x8000], []⟩]
def podDesc : List Word64 := [0x000701E004000000, 9, 0x0005000000000000]
/-- R176, R178: another package's signing takes its member's tile here and waits for its start; a cancelled one leaves the tile free. -/
theorem test_far_sign :
    let ready : State := { s0 with rdy := BitVec.allOnes 128 }
    let a := farSigning { ready with signs := [.ask podDesc podMems none] }
    let b := farSigning { a with signs := [.start 7] }
    let k := farSigning { a with signs := [.cancel 7] }
    (a.tile 1).held.map Member.idx = some 1 ∧ (Tbl.get? a.compacts 7).map Compact.away = some true ∧
      (Tbl.get? b.compacts 7).map Compact.away = some false ∧ (k.tile 1).held = none ∧ k.compacts = [] := by decide +kernel

theorem witness_TilesAndCompacts_settled :
    let r := scmp .running fun c => { c with tdl := 3 }
    let b := { (r.modSlot 0 fun x => { x with arrived := true }) with time := { s0.time with ns := 3000 } }
    let d := scmp .stopped fun c => { c with diss := true }
    (Settled b compact1 ∧ NoneParked b) ∧ (Settled d compact1 ∧ NoneParked d ∧ d.asked (.dissolve 1) = false) ∧ b.sendsPast compact1 = true := by
  refine ⟨⟨by decide +kernel, noneParked_of _ ?_ ?_ ?_ ?_ ?_⟩, ⟨by decide +kernel, noneParked_of _ ?_ ?_ ?_ ?_ ?_, by decide +kernel⟩, by decide +kernel⟩ <;>
    decide +kernel
/-- The unit of `sxfer` has left and will land at phase cycle 5. -/
def sfly : State :=
  let u : XferUnit := ⟨1, 0, 1, 64, 5, false, 0, 0, (0, 0)⟩
  { sxfer.setTile 0 { sxfer.tile 0 with held := some { member0 with fly := [(u, 5)] } } with
    compacts := sxfer.compacts.map fun c => (c.1, { c.2 with st := .stalled }) }
theorem witness_TilesAndCompacts_landing :
    let c := (Tbl.get? sfly.compacts 1).getD compact1
    let p := sxfer.modSlot 0 fun x => { x with wait := .none }
    let u : XferUnit := ⟨1, 0, 1, 64, 5, false, 0, 0, (0, 0)⟩
    ((sfly.tile 0).held.map Member.fly) = some [(u, 5)] ∧ sfly.unitReaches c u = true ∧ sfly.phasePast c 5 = true ∧ Tbl.get? sfly.compacts 1 = some c ∧
      (c.mems[1]?.map MemberDesc.pkg) = some sfly.fab.me ∧ ((sxfer.tile 0).held.map Member.fly) = some [] ∧
      ((sfly.tile 1).held.map fun y => Tbl.get y.rcv 0 0) = some 0 ∧
      p.phasePast ((Tbl.get? p.compacts 1).getD compact1) 7 = false ∧ ((p.tile 0).held.map Member.fly) = some [] := by decide +kernel

theorem witness_CoherenceMoves_losers :
    let q : TileReq := ⟨0, 4, .rdx, 0, none, false, false, [], []⟩
    let l := streq { q with tile := 1 }
    (l.caches 0 = true ∧ l.treq 0 4 = none ∧ (l.dirOf 0 4).map DirEnt.st ≠ some .c ∧ l.loses q = true) ∧
    (s0.loses q = false ∧ s0.loses rq4 = false ∧ (s0.dirOf 0 4).map DirEnt.st ≠ some .c) := by decide +kernel
theorem witness_CoherenceMoves_requests :
    let c := streq { rq4 with clash := true }
    let a : State := streq { rq4 with acks := [(1, .downgrade)] }
    let o := (sdir .m)
    let w := (s0.setTab (sliceIdx 0 4) { s0.tab (sliceIdx 0 4) with circ := [(0, 4)] })
    (c.treq 0 4 = some { rq4 with clash := true } ∧ a.treq 0 4 = some { rq4 with acks := [(1, .downgrade)] }) ∧
    (o.treq 0 4 = none ∧ (o.treqs.all fun q => !q.awaits 0 4) = true) ∧ ((0, 4) ∈ (w.tab (sliceIdx 0 4)).circ) := by decide +kernel
theorem witness_CoherenceMoves_mirrors :
    let p : State := { s0 with coh := { s0.coh with copies := [(4, ⟨0, 0, 0x55, 1⟩)], part := true } }
    let u : State := { s0 with coh := { s0.coh with home := [(4, ⟨0, 0, some 0⟩)] } }
    p.partLine 4 = true ∧ p.mirrorEntry 0 4 = some ⟨4, 0, 1, 0x55⟩ ∧ (u.mirrorEntry 0 4).isSome = true := by decide +kernel

theorem witness_StepRunsDecoded_served :
    let s := { s1 with agenda := [] }
    (s.getSlot 0).servedLine (lineOf 0) = none ∧ (((s.getSlot 0).park.map Park.deny).getD false) = false ∧ 0 % 64 ≤ 52 := by decide +kernel

end Sys2Proof.Tests
end

/-! Proofs of the strands and their scheduler (06): the frame of a release, an access that reaches its page, and R119. -/

namespace Sys2Proof.Proofs
open Sys2Proof Sys2Proof.Machine Sys2Proof.Claims

/-! What a release leaves of the clusters (R231): their run queues, watches and tables. -/

@[simp] theorem setCopy_clusters (s : State) (c line : Nat) (x : CopyLine) : (s.setCopy c line x).clusters = s.clusters := rfl
@[simp] theorem note_clusters (s : State) (line pt : Nat) : (s.note line pt).clusters = s.clusters := rfl

@[simp] theorem clearPoison_clusters (s : State) (line : Nat) : (s.clearPoison line).clusters = s.clusters := by
  unfold State.clearPoison; split <;> rfl

@[simp] theorem unmirrorOf_clusters (s : State) (c line : Nat) : (s.unmirrorOf c line).clusters = s.clusters := by
  unfold State.unmirrorOf; dsimp only; split <;> rfl

@[simp] theorem writeBack_clusters (s : State) (c line : Nat) : (s.writeBack c line).clusters = s.clusters := by
  unfold State.writeBack
  split
  · rfl
  · dsimp only; split_ifs <;> simp

@[simp] theorem writeBacks_clusters (s : State) (c : Nat) (ls : List Nat) : (s.writeBacks c ls).clusters = s.clusters := by
  unfold State.writeBacks
  induction ls generalizing s with
  | nil => rfl
  | cons l ls ih => rw [List.foldl_cons, ih, writeBack_clusters]

@[simp] theorem releaseAt_clusters (s : State) (c sc : Nat) (within : Nat → Bool) :
    (s.releaseAt c sc within).clusters = s.clusters := by
  unfold State.releaseAt; split
  · exact writeBacks_clusters ..
  · rfl

@[simp] theorem release_clusters (s : State) (sc : Nat) (within : Nat → Bool) : (s.release sc within).clusters = s.clusters := by
  unfold State.release; split
  · rfl
  · exact releaseAt_clusters ..

@[simp] theorem released_clusters (w : Ins) (s : State) : (released w s).clusters = s.clusters := by
  unfold released; split
  · exact release_clusters ..
  · rfl

/-! The release of ORD: the model's functions in the words of the statements. -/

theorem ordReleased_eq_released (w : Ins) (s : State) : s.ordReleased w = released w s := rfl

/-- ORD's release waits for nothing exactly when no fabric store stands in its way (R231). -/
theorem ordWaits_eq_false_iff (w : Ins) (s : State) : s.ordWaits w = false ↔ MayRelease w s := by
  simp [State.ordWaits, MayRelease]

/-! An instruction that executes in free mode. -/

/-- It passes the checks of R329 up to its body, when it asks for no privilege. -/
theorem reaches_of_free {i : Instr} {w : Ins} {s : State} (free : Bool) (h : Free i w s) (hw : Forms.fieldsOf i = some w) :
    Reaches i w false free s := by
  obtain ⟨⟨hpower, hform, hguard⟩, hmode⟩ := h
  obtain ⟨hok, hgp⟩ : Forms.ok i = true ∧ Forms.guardOk w = true := by
    simpa [Instr.wellFormed, Forms.wellFormed, hw] using hform
  exact ⟨hpower, hok, hgp, rfl, hguard, by simp [hmode]⟩

/-- It completes with the effect that its body completes with. -/
theorem done_of_free {i : Instr} {w : Ins} {s t : State} {free : Bool} {body : State → Res} (h : Free i w s)
    (hw : Forms.fieldsOf i = some w) (hrun : exec i s = run i w false free body s) (hok : body s = .ok t) : Done i w s t := by
  rw [Done, hrun, run_reaches (reaches_of_free free h hw), hok]; rfl

/-! An access that reaches its page. -/

/-- It comes down to what is done at the physical address; the translation passed is then noted (R329 orders 9 and 10, R251). -/
theorem access_of_reached {s : State} {ea : Word64} {n pa : Nat} {a : Acc} {unc mir : Bool} (h : Reached s ea n a pa unc mir)
    (here : Nat → Bool → Bool → Res) (far : Nat → Nat → Res) :
    s.access ea n a here far = (here pa unc mir).after (s.passed s.cur ea.toNat a) := by
  obtain ⟨halign, hcanon, hdeny, hxlate, hmirror⟩ := h
  have hgo : s.mirrorWaits (clusterOf s.cur) (mir && a != .load) = false := by
    by_cases hload : a = .load
    · simp [hload, State.mirrorWaits]
    · rw [bne_iff_ne.mpr hload, Bool.and_true]; exact hmirror hload
  rw [State.access, if_neg (not_not.mpr halign), if_neg (not_le.mpr hcanon)]
  simp [hdeny, hxlate, hgo]

/-- A load from a line that is free, unpoisoned and not served already takes its value by `State.load` (R329 order 11). -/
theorem loadHere_of_clear {s : State} {pa : Nat} (h : Clear s pa) (hserved : s.slot.servedLine (lineOf pa) = none) (ea : Word64)
    (k : Nat) (unc : Bool) (use : State → Nat → Res) :
    s.loadHere ea pa k unc use = use (s.load s.cur pa k unc).2 (s.load s.cur pa k unc).1 := by
  obtain ⟨hfree, hpoison⟩ := h
  simp [State.loadHere, hserved, hfree, hpoison]

/-- A waiting instruction whose condition holds for the word read goes on, with its acquire (R364, R365). -/
theorem waitBody_of_met {s : State} {ea : Word64} {n pa : Nat} {unc mir : Bool} (h : Reached s ea n .load pa unc mir)
    (hclear : Clear s pa) (hserved : s.slot.servedLine (lineOf pa) = none) {cond val : Nat} (scope : Option Nat)
    (hmet : waitCond cond (s.load s.cur pa n unc).1 val = true) :
    waitBody ea n cond val scope s =
      .ok (s.passed s.cur ea.toNat .load (scope.elim (s.load s.cur pa n unc).2 (s.load s.cur pa n unc).2.acquire)) := by
  rw [waitBody, access_of_reached h, loadHere_of_clear hclear hserved, if_pos hmet]
  cases scope <;> rfl

/-! R119. -/

/-- A SPAWNG of no members comes to its release and status 0, before it looks at cluster, template or records. -/
theorem spawngBody_of_empty {w : Ins} {s : State} (hmode : s.compact = false) (hmaking : s.slot.making = none)
    (halign : (s.slot.ea w.a).toNat % 64 = 0) (hbase : (s.slot.getS (num w.d)).toNat % 64 = 0)
    (hempty : fld (s.slot.opS w.b) 9 0 = 0) (hrel : MayRelease w s) : spawngBody w s = .ok (status w (released w s) 0) := by
  have hwait : s.ordWaits w = false := (ordWaits_eq_false_iff w s).mpr hrel
  simp [spawngBody, hmode, hmaking, halign, hbase, hempty, hwait, ordReleased_eq_released, status, statusWord]

/-- Settles O25: an empty gang's body is the release alone, which leaves every run queue; a JOIN's condition, the word is zero,
holds at its first test. -/
theorem emptyGangAndJoin : Obligations.EmptyGangAndJoin := by
  refine ⟨fun w s h hmaking halign hbase hempty hrel => ⟨?_, released_clusters w s⟩,
    fun w s pa unc mir h hreached hclear hserved hzero => ?_⟩
  · have hmode : s.compact = false := h.2
    exact done_of_free h rfl rfl (spawngBody_of_empty hmode hmaking halign hbase hempty hrel)
  · have hmet : waitCond 0 (s.load s.cur pa 8 unc).1 0 = true := by rw [hzero]; rfl
    exact done_of_free h rfl rfl (waitBody_of_met hreached hclear hserved (some 6) hmet)

end Sys2Proof.Proofs

/-! Proofs of the predicate and mask instructions (15 R343): their forms, their rows, and how an instruction ends whose form is
refused or that executes. -/

namespace Sys2Proof.Proofs
open Sys2Proof Sys2Proof.Machine Sys2Proof.Claims

/-! An instruction of either mode. -/

/-- An instruction of a refused form traps RESERVED, whatever its body, privilege and guard (R327, R329). -/
theorem run_of_reserved {i : Instr} {s : State} (hpower : s.power = true) (hform : Forms.ok i = false) (w : Ins) (sup free : Bool)
    (body : State → Res) : run i w sup free body s = .next (s.takeTrap .reserved 0) := by
  simp [run, hpower, hform]

/-- An instruction that executes passes the checks of R329 up to its body, when it asks for neither privilege nor free mode. -/
theorem reaches_of_issues {i : Instr} {w : Ins} {s : State} (h : Issues i w s) (hw : Forms.fieldsOf i = some w) :
    Reaches i w false false s := by
  obtain ⟨hpower, hform, hguard⟩ := h
  obtain ⟨hok, hgp⟩ : Forms.ok i = true ∧ Forms.guardOk w = true := by
    simpa [Instr.wellFormed, Forms.wellFormed, hw] using hform
  exact ⟨hpower, hok, hgp, rfl, hguard, rfl⟩

/-- It completes with the effect that its body completes with. -/
theorem done_of_issues {i : Instr} {w : Ins} {s t : State} {body : State → Res} (h : Issues i w s)
    (hw : Forms.fieldsOf i = some w) (hrun : exec i s = run i w false false body s) (hok : body s = .ok t) : Done i w s t := by
  rw [Done, hrun, run_reaches (reaches_of_issues h hw), hok]; rfl

/-! Counting and finding bits, as lists of positions. -/

/-- The set bits among the low `n` are as many as the positions that hold one. -/
theorem popCount_eq_length_filter {k : Nat} (x : BitVec k) (n : Nat) :
    popCount x n = ((List.range n).filter fun i => bit x i).length := by
  induction n with
  | zero => rfl
  | succ n ih => cases h : bit x n <;> simp [popCount, ih, List.range_succ, List.filter_append, h]

/-- A search from `i` stops after the positions, from `i` on, at which the condition fails. -/
theorem findFrom_eq_add_length_takeWhile (f : Nat → Bool) (i n : Nat) :
    findFrom f i n = i + ((List.range' i n).takeWhile fun j => !f j).length := by
  induction n generalizing i with
  | zero => rfl
  | succ n ih =>
    cases h : f i with
    | false => simp [findFrom, List.range'_succ, h, ih]; omega
    | true => simp [findFrom, List.range'_succ, h]

/-- The lowest set bit stands after the clear ones below it. -/
theorem lowestSet_eq_length_takeWhile {k : Nat} (x : BitVec k) (n : Nat) :
    lowestSet x n = ((List.range n).takeWhile fun i => !bit x i).length := by
  rw [lowestSet, findFrom_eq_add_length_takeWhile, List.range_eq_range', Nat.zero_add]

/-! R343, the forms. -/

/-- MTOP's modifiers are admitted when OTH is at most 2 and the bits above it are zero. -/
theorem mtopMods_eq (m : BitVec 10) : (fld m 9 2 == 0 && decide (Forms.oth2 m ≤ 2)) = decide (m.toNat ≤ 2) := by
  have hm : m.toNat < 1024 := m.isLt
  rw [Bool.eq_iff_iff]
  simp only [fld, Forms.oth2, Nat.shiftRight_eq_div_pow, Bool.and_eq_true, beq_iff_eq, decide_eq_true_eq]
  omega

/-- The map admits the operand forms of R343's table and no others. -/
theorem ok_of_predForm {i : Instr} {b : Bool} (h : predForm i = some b) : Forms.ok i = b := by
  unfold predForm at h
  split at h <;> cases h
  case h_5 => -- PMOV
    simp only [Forms.ok, Forms.isVal, Forms.isZ, Bool.or_assoc]
  case h_12 => -- MTOP
    rw [← mtopMods_eq]
    simp only [Forms.ok, Forms.isZ, Bool.and_assoc]
  all_goals rfl

/-! R343, the rows. -/

/-- Every instruction with a form in R343's table has a row in it. -/
theorem predRow_of_predForm {i : Instr} {b : Bool} (h : predForm i = some b) : ∃ w f, predRow i = some (w, f) := by
  unfold predForm at h
  split at h <;> cases h
  all_goals exact ⟨_, _, rfl⟩

/-- A row's word is its instruction's. -/
theorem fieldsOf_of_predRow {i : Instr} {w : Ins} {f : Slot → RegWrite} (h : predRow i = some (w, f)) :
    Forms.fieldsOf i = some w := by
  unfold predRow at h
  split at h <;> cases h <;> rfl

/-- The body of a row: its write, landing after 1 cycle. -/
def rowBody (f : Slot → RegWrite) (s : State) : Res := .ok (s.put 1 (f s.slot))

/-- PMOV's row: a predicate's value, or whether another one is nonzero. -/
theorem exec_pmov (w : Ins) (s : State) : exec (.pmov w) s = run (.pmov w) w false false
    (rowBody fun x => .p (num w.d) (if Forms.clsOf w.a = 1 then x.getP (num w.a) else decide (x.opS w.a ≠ 0))) s := by
  show execPmov w s = _
  simp only [execPmov, bne, beq_eq_decide, decide_eq_true_eq, decide_not, ne_eq]; rfl

/-- MPOP's row: the count of the positions that hold a set bit. -/
theorem exec_mpop (w : Ins) (s : State) : exec (.mpop w) s = run (.mpop w) w false false
    (rowBody fun x => .s (num w.d) (BitVec.ofNat 64 ((List.range 64).filter fun i => bit (x.getM (num w.a)) i).length)) s := by
  show execMpop w s = _
  simp only [execMpop, popCount_eq_length_filter]; rfl

/-- MFIRST's row: the count of the clear bits below the lowest set one. -/
theorem exec_mfirst (w : Ins) (s : State) : exec (.mfirst w) s = run (.mfirst w) w false false
    (rowBody fun x => .s (num w.d) (BitVec.ofNat 64 ((List.range 64).takeWhile fun i => !bit (x.getM (num w.a)) i).length)) s := by
  show execMfirst w s = _
  simp only [execMfirst, lowestSet_eq_length_takeWhile]; rfl

/-- MTOP's row: the three tests of OTH. -/
theorem exec_mtop (w : Ins) (s : State) : exec (.mtop w) s = run (.mtop w) w false false
    (rowBody fun x => .p (num w.d) (if Forms.oth2 (mods w.d) = 0 then decide (x.getM (num w.a) ≠ 0)
      else if Forms.oth2 (mods w.d) = 1 then decide (x.getM (num w.a) = 0)
      else decide (x.getM (num w.a) = BitVec.allOnes 64))) s := by
  refine congrArg (fun body => run (.mtop w) w false false body s) (funext fun t => ?_)
  simp only [predBody, rowBody]
  congr 3
  split
  · next h => simp [h, bne, beq_eq_decide]
  · next h => simp [h, beq_eq_decide]
  · next h0 h1 => rw [if_neg h0, if_neg h1, beq_eq_decide]

/-- An instruction of R343's table runs, in either mode and at any privilege, to the write of its row. -/
theorem exec_of_predRow {i : Instr} {w : Ins} {f : Slot → RegWrite} (h : predRow i = some (w, f)) (s : State) :
    exec i s = run i w false false (rowBody f) s := by
  unfold predRow at h
  split at h <;> cases h
  case h_5 => exact exec_pmov w s
  case h_10 => exact exec_mpop w s
  case h_11 => exact exec_mfirst w s
  case h_12 => exact exec_mtop w s
  all_goals rfl

/-- Settles O4: each instruction's form is the table's, another one is refused by the first check of `run`; where it executes, its
body is its row's write; and p0 and m0 keep their values. -/
theorem predicatesAndMasks : Obligations.PredicatesAndMasks := by
  refine ⟨fun i b hform => ?_, fun i w f s hrow hissues => ?_, fun x b v => ⟨setP_zero x b, setM_zero x v⟩⟩
  · have hok : Forms.ok i = b := ok_of_predForm hform
    obtain ⟨w, f, hrow⟩ := predRow_of_predForm hform
    refine ⟨hok, fun s hpower hb => ?_⟩
    rw [exec_of_predRow hrow]
    exact run_of_reserved hpower (hok.trans hb) w false false _
  · exact done_of_issues hissues (fieldsOf_of_predRow hrow) (exec_of_predRow hrow s) rfl

end Sys2Proof.Proofs

/-! Proofs of EXPECT and LFWD (16 R376, R378), and how an instruction ends whose body traps. -/

namespace Sys2Proof.Proofs
open Sys2Proof Sys2Proof.Machine Sys2Proof.Claims

/-- An instruction that executes traps when its body does, in the state before it. -/
theorem trap_of_issues {i : Instr} {w : Ins} {s : State} {t : Trap} {info : Nat} {body : State → Res} (h : Issues i w s)
    (hw : Forms.fieldsOf i = some w) (hrun : exec i s = run i w false false body s) (htrap : body s = .trap t info) :
    exec i s = .next (s.trapAt w t info) := by
  rw [hrun, run_reaches (reaches_of_issues h hw), htrap]; rfl

/-! R376: EXPECT. -/

/-- EXPECT's check that the compact's member of index `i` lists the source slot `src` (R182). -/
def listsSource (c : Compact) (i src : Nat) : Bool := ((c.mems[i]?).map fun d => d.srcs.any fun e => e.1 == src).getD false

theorem listsSource_iff {c : Compact} {i src : Nat} :
    listsSource c i src = true ↔ ∃ d e, c.mems[i]? = some d ∧ e ∈ d.srcs ∧ e.1 = src := by
  unfold listsSource
  cases c.mems[i]? with
  | none => simp
  | some d => simp

theorem expectBody_of_not_ended {w : Ins} {s : State} (hended : s.slot.ended = false) : expectBody w s = .trap .prot 0 := by
  simp [expectBody, hended]

section
variable {w : Ins} {s : State} {m : Member} {c : Compact} {src n : Nat}

theorem expectBody_of_slot_out_of_range (hmode : s.compact = true) (hmine : s.myCompact = some (m, c)) (hended : s.slot.ended = true)
    (ha : (s.slot.opS w.a).toNat = src) (hsrc : 63 < src) : expectBody w s = .trap .countRange (src % 2 ^ 48) := by
  simp [expectBody, hmode, hended, hmine, ha, hsrc]

/-- An EXPECT of a source slot up to 63 is refused for its count, for a slot not listed or for the sum; otherwise it adds. -/
theorem expectBody_of_slot (hmode : s.compact = true) (hmine : s.myCompact = some (m, c)) (hended : s.slot.ended = true)
    (ha : (s.slot.opS w.a).toNat = src) (hb : (s.slot.opS w.b).toNat = n) (hsrc : src ≤ 63) :
    expectBody w s =
      if 65535 < n ∨ ¬ listsSource c m.idx src = true ∨ 65535 < Tbl.get m.exp src 0 + n then .trap .countRange (n % 2 ^ 48)
      else .ok (s.setTile (tileOf s.cur)
        { s.tile (tileOf s.cur) with held := some { m with exp := Tbl.set m.exp src (Tbl.get m.exp src 0 + n) } }) := by
  simp [expectBody, listsSource, hmode, hended, hmine, ha, hb, Nat.not_lt.mpr hsrc, or_assoc]

end

/-- Settles O30: the body's three refusals are the statement's, once its check of the source slot is read as the list's words. -/
theorem expectAdds : Obligations.ExpectAdds := by
  intro w s m c h hmode hmine src n old listed
  have hlists : listsSource c m.idx src = true ↔ listed := listsSource_iff
  refine ⟨fun hended => ?_, fun hended hsrc => ?_, fun hended hsrc hbad => ?_, fun hended hsrc hn hlisted hsum => ?_⟩
  · exact trap_of_issues h rfl rfl (expectBody_of_not_ended hended)
  · exact trap_of_issues h rfl rfl (expectBody_of_slot_out_of_range hmode hmine hended rfl hsrc)
  · rw [← hlists] at hbad
    exact trap_of_issues h rfl rfl ((expectBody_of_slot hmode hmine hended rfl rfl hsrc).trans (if_pos hbad))
  · have hgood : ¬ (65535 < n ∨ ¬ listsSource c m.idx src = true ∨ 65535 < old + n) :=
      not_or.mpr ⟨not_lt.mpr hn, not_or.mpr ⟨not_not.mpr (hlists.mpr hlisted), not_lt.mpr hsum⟩⟩
    exact done_of_issues h rfl rfl ((expectBody_of_slot hmode hmine hended rfl rfl hsrc).trans (if_neg hgood))

/-! R378: LFWD. -/

/-- The FIFO behind a core's east or west link register (R163). -/
def linkFifo (c : Core) (east : Bool) : List Word64 := if east then c.le else c.lw

/-- A link register that holds a word gives its oldest one, which leaves the FIFO (R166). -/
theorem popLink_of_cons {s : State} {east : Bool} {v : Word64} {r : List Word64}
    (h : linkFifo (s.core (coreOf s.cur)) east = v :: r) :
    s.popLink east = (v, s.setCore (coreOf s.cur)
      (if east then { s.core (coreOf s.cur) with le := r } else { s.core (coreOf s.cur) with lw := r })) := by
  unfold linkFifo at h
  simp only [State.popLink, h]

/-- An empty link register gives 0 and sets its UND bit (R166). -/
theorem popLink_of_nil {s : State} {east : Bool} (h : linkFifo (s.core (coreOf s.cur)) east = []) :
    s.popLink east = (0, s.setCore (coreOf s.cur)
      { s.core (coreOf s.cur) with lnk := setBit (s.core (coreOf s.cur)).lnk (if east then 1 else 0) true }) := by
  unfold linkFifo at h
  simp only [State.popLink, h]

/-- LFWD writes the word popped to D; it pushes it to the other link unless the FIFO was empty. -/
theorem lfwdBody_eq {w : Ins} {s : State} {east : Bool} (hmode : s.compact = true) (heast : decide (num w.a = 0) = east) :
    lfwdBody w s =
      let t := (s.popLink east).2.put 1 (.s (num w.d) (s.popLink east).1)
      .ok (if (linkFifo (s.core (coreOf s.cur)) east).isEmpty then t else t.put 1 (.link (!east) (s.popLink east).1)) := by
  subst heast
  rw [lfwdBody, hmode]; rfl

/-- A push is lost, with OVR set, without a neighbour or with its FIFO full at four words; otherwise it ends that FIFO (R163, R166). -/
theorem pushLink_eq (s : State) (n : Nat) (east : Bool) (v : Word64) :
    s.pushLink n east v =
      let k := coreOf n
      let lost := s.setCore k { s.core k with lnk := setBit (s.core k).lnk (if east then 3 else 2) true }
      match s.linkPeer (tileOf n) (k % 4) east with
      | none => lost
      | some u =>
        let y := s.core (u * 4 + k % 4)
        if 4 ≤ (if east then y.lw else y.le).length then lost
        else s.setCore (u * 4 + k % 4) (if east then { y with lw := y.lw ++ [v] } else { y with le := y.le ++ [v] }) := by
  unfold State.pushLink
  dsimp only
  cases s.linkPeer (tileOf n) (coreOf n % 4) east with
  | none => rfl
  | some u => cases east <;> simp only [← Nat.not_lt, ite_not, if_true, if_false, Bool.false_eq_true]

/-- Settles O31: the two cases are those of the FIFO that is popped, and a link write lands as a push. -/
theorem linkForward : Obligations.LinkForward := by
  refine ⟨fun w s h hmode => ⟨fun v r hfifo => ?_, fun hfifo => ?_⟩, fun s n east v => pushLink_eq s n east v⟩
  · have hcons : linkFifo (s.core (coreOf s.cur)) (decide (num w.a = 0)) = v :: r := hfifo
    exact done_of_issues h rfl rfl (by rw [lfwdBody_eq hmode rfl, hcons, popLink_of_cons hcons]; rfl)
  · have hnil : linkFifo (s.core (coreOf s.cur)) (decide (num w.a = 0)) = [] := hfifo
    exact done_of_issues h rfl rfl (by rw [lfwdBody_eq hmode rfl, hnil, popLink_of_nil hnil]; rfl)

end Sys2Proof.Proofs

/-! Proofs of the traps TRAP and BRK and of ERET (19 R439-R442): what the hint of a trapping instruction leaves, and the two ends of an
instruction that asks for supervisor state. -/

namespace Sys2Proof.Proofs
open Sys2Proof Sys2Proof.Machine Sys2Proof.Claims

/-! A trap of an instruction that has issued. -/

/-- The slot's next turn after a taken transfer: past the stall count, and past the empty cycle of free mode (R147, R344). -/
theorem nextTurn_taken (s : State) (st : Nat) :
    s.nextTurn s.cur st true = (s.core (coreOf s.cur)).cycle + 1 + max st (if s.compact = true then 0 else 1) := by
  unfold State.nextTurn State.compact
  cases s.compactAt s.cur <;> rfl

/-- Where a handler stands, the slot of a trapping instruction is the one that the trap's entry leaves, but for the three effects of
the hint (R303, R331). -/
theorem trapAt_of_handler {s : State} (htvec : s.slot.tvec ≠ 0) (w : Ins) (k : Trap) (info : Nat) :
    s.trapAt w k info =
      let y := (s.takeTrap k info).getSlot s.cur
      (s.takeTrap k info).modSlot s.cur fun _ =>
        { y with stall := (s.core (coreOf s.cur)).cycle + 1 + max w.st.toNat (if s.compact = true then 0 else 1),
                 yielded := if w.yd = true ∧ s.compact = false then 15 else 0, ended := y.ended || (w.eop && s.compact) } := by
  rw [State.trapAt, if_neg htvec, nextTurn_taken]
  simp only [State.modSlot, Slot.hint, Bool.and_eq_true, Bool.not_eq_true']

/-- R442: an instruction that executes and does no more than trap with its immediate takes that trap, with INFO the immediate. -/
theorem trapAt_of_imm {i : Instr} {w : Ins} {s : State} {k : Trap} {v : BitVec 22} (h : Issues i w s)
    (hw : Forms.fieldsOf i = some w) (ha : w.a = .imm v)
    (hrun : exec i s = run i w false false (fun _ => .trap k (immU w.a)) s) : exec i s = .next (s.trapAt w k v.toNat) :=
  trap_of_issues h hw hrun (by rw [ha]; rfl)

/-! An instruction that asks for supervisor state, in either mode. -/

/-- In user state it traps PRIV, whatever its body (R329 order 4, R436). -/
theorem run_of_user {i : Instr} {w : Ins} {s : State} (h : Issues i w s) (hw : Forms.fieldsOf i = some w)
    (huser : s.sup s.cur = false) (free : Bool) (body : State → Res) :
    run i w true free body s = .next (s.trapAt w .priv 0) := by
  have hgo := reaches_of_issues h hw
  simp [run, hgo.power, hgo.form, hgo.guarded, huser]

/-- In supervisor state it comes to its body. -/
theorem run_of_supervisor {i : Instr} {w : Ins} {s : State} (h : Issues i w s) (hw : Forms.fieldsOf i = some w)
    (hsup : s.sup s.cur = true) (body : State → Res) : run i w true false body s = finish w s (body s) :=
  run_reaches { reaches_of_issues h hw with priv := by simp [hsup] } body

/-! R441: ERET. -/

/-- A status word of SUP and PSUP equal to `b`, with TH clear. -/
theorem bits_status_of_psup (b : Bool) :
    let v := BitVec.ofNat 64 (b.toNat * 2 + b.toNat)
    bit v 0 = b ∧ bit v 1 = b ∧ bit v 2 = false := by
  cases b <;> decide

/-- The status that ERET leaves: SUP and PSUP are the old PSUP, TH is clear. -/
theorem bits_trapReturn_status (x : Slot) :
    bit x.trapReturn.status 0 = bit x.status 1 ∧ bit x.trapReturn.status 1 = bit x.status 1 ∧
      bit x.trapReturn.status 2 = false := bits_status_of_psup (bit x.status 1)

/-- ERET's only change before its transfer is that of the status. -/
theorem modSlot_trapReturn (s : State) :
    s.modSlot s.cur Slot.trapReturn = Here s fun x => { x with status := s.slot.trapReturn.status } := rfl

theorem eretBody_of_misaligned {s : State} (hepc : s.slot.epc.toNat % 12 ≠ 0) :
    eretBody s = .trap .align (s.slot.epc.toNat % 2 ^ 48) := if_pos hepc

theorem eretBody_of_aligned {s : State} (hepc : s.slot.epc.toNat % 12 = 0) :
    eretBody s = .jump (Here s fun x => { x with status := s.slot.trapReturn.status }) s.slot.epc := by
  rw [eretBody, if_neg (not_not.mpr hepc), modSlot_trapReturn]

/-- Settles O15: TRAP and BRK end with the trap of their body; the hint acts on the slot that the entry leaves; ERET is stopped by its
privilege or by its target's alignment, or else moves to EPC with the status that its bits describe. -/
theorem trapsAndReturn : Obligations.TrapsAndReturn := by
  refine ⟨⟨fun w s v ha => ⟨fun h => trapAt_of_imm h rfl ha rfl, fun h => trapAt_of_imm h rfl ha rfl⟩,
      fun w s k info => ⟨rfl, trapAt_gone s w k info, fun htvec => ?_⟩⟩,
    fun w s => ⟨rfl, fun h huser => ?_, fun h hsup => ⟨fun hepc => ?_, fun hepc => ?_⟩⟩⟩
  · exact trapAt_of_handler htvec w k info
  · exact run_of_user h rfl huser false eretBody
  · refine (run_of_supervisor h rfl hsup eretBody).trans ?_
    rw [eretBody_of_misaligned hepc]; rfl
  · refine ⟨s.slot.trapReturn.status, (run_of_supervisor h rfl hsup eretBody).trans ?_, bits_trapReturn_status s.slot⟩
    rw [eretBody_of_aligned hepc]; rfl

end Sys2Proof.Proofs
